-- ==== Sys2Proof/Word.lean ====
section
/-!
DEFINITION. The plain words of the 5316: bytes, wider fields of frames, and the fixed index ranges of its tables.
Only what the formats chapter treats as bits is a bit vector; counts and row numbers inside the part are natural numbers.
-/

namespace Sys2Proof

/-- One byte of a frame, an image or a one-byte operand (chapter 11, section 11.1). -/
abbrev Byte := BitVec 8

/-- A row field of a frame: three bytes (section 11.1). -/
abbrev RowField := BitVec 24

/-- A set of copy blocks 0..31; bit `b` is set when block `b` is in the set (R68, section 11.1). -/
abbrev BlockSet := BitVec 32

/-- The round field of a sideband header, bits 5..0 of byte 1 (section 11.3). -/
abbrev RoundField := BitVec 6

/-- A rank number 0..1 (R48). -/
abbrev Rank := Fin 2

/-- A bank number 0..15 (R48). -/
abbrev Bank := Fin 16

/-- A slot number 0..15 of a bank (R26). -/
abbrev SlotNo := Fin 16

/-- A column 0..127 of a row (R46). -/
abbrev Column := Fin 128

/-- An index 0..95 of the Remap Table (R1). -/
abbrev EntryIx := Fin 96

/-- A migration context number 0..3 (R68). -/
abbrev Ctx := Fin 4

/-- A Repair Store record number 0..39 (R153). -/
abbrev RecIx := Fin 40

/-- A profile number 0..1 (R139). -/
abbrev ProfileNo := Fin 2

end Sys2Proof
end

