-- ==== Sys2Proof/Syntax.lean ====
section
/-!
DEFINITION. The commands of the 5316: one constructor of `Instr` per row of spec/opcode_table.json, with the row's
operands, and the two kinds of message that commands carry (sideband messages from the controller, management requests).
-/

namespace Sys2Proof

/-- CLASS of an error note (R101). -/
inductive NoteClass where
  | corrected
  | uncorrected
  deriving DecidableEq, Repr

/-- The fields of an ERROR_NOTE as its frame expresses them (R101, section 11.3). -/
structure ErrorNote where
  rank   : Byte
  bank   : Byte
  row    : RowField
  column : Byte
  cls    : NoteClass
  rep    : Byte
  deriving DecidableEq, Repr

/-- REASON of a COPY_REFUSE (R101). -/
inductive RefuseReason where
  | busy
  | unsupported
  deriving DecidableEq, Repr

/-- The action of a fence message (R100, R101). -/
inductive FenceAction where
  | set
  | release
  deriving DecidableEq, Repr

/-- The body of a copy or fence reply from the controller (R101). -/
inductive ReplyBody where
  | copyAccept
  | copyRefuse (reason : RefuseReason)
  | copyDone
  | fenceAck (action : FenceAction)
  deriving DecidableEq, Repr

/-- A copy or fence reply: its context, its round as received and its body (R101). -/
structure Reply where
  ctx   : Ctx
  round : RoundField
  body  : ReplyBody
  deriving DecidableEq, Repr

/-- A good message from the controller (R101). -/
inductive InMsg where
  | errorNote (note : ErrorNote)
  | reply (reply : Reply)
  | hello (level count : Byte)
  | helloAck (level count : Byte)
  deriving DecidableEq, Repr

/-- A management request with its operands as the frame carries them (section 11.4). -/
inductive Request where
  | tableRead (index : Byte)
  | tableFind (rank bank : Byte) (row : RowField)
  | release (index : Byte)
  | slotRead (rank bank slot : Byte)
  | slotTestBegin (rank bank slot : Byte)
  | slotTestEnd (rank bank slot verdict : Byte)
  | slotGrade (rank bank slot grade : Byte)
  | contextRead (context : Byte)
  | repair (rank bank : Byte) (row : RowField)
  | move (index : Byte)
  | cancel (context : Byte)
  | watchRead (position : Byte)
  | watchClear (rank bank : Byte) (row : RowField) (subject : Byte)
  | profileRead (p : Byte)
  | profileEditSelect (p : Byte)
  | profileWrite (field : Byte) (value : BitVec 16)
  | profileRunSelect (p : Byte)
  | configure (ranks w : Byte)
  | stage (index : Byte)
  | burn
  | revoke (record : Byte)
  | burnGeometry
  | lockStore
  | storeRead (record : Byte)
  | storeStatus
  | conditionRead
  | conditionClear (set : BitVec 32)
  | alertMask (set : BitVec 32)
  | warmReset
  deriving DecidableEq, Repr

/-- The commands: one constructor per row of the table of operations and events. A management request's
constructor is its owner's event (R184); the frame that hands it over is `requestFrame`. -/
inductive Instr where
  -- power and modes
  | powerOn
  | powerOnResetAssert
  | loadComplete
  -- the command path
  | activate (rank : Rank) (bank : Bank) (row : Nat)
  | read (rank : Rank) (bank : Bank) (column : Column)
  | write (rank : Rank) (bank : Bank) (column : Column)
  | readAp (rank : Rank) (bank : Bank) (column : Column)
  | writeAp (rank : Rank) (bank : Bank) (column : Column)
  | precharge (rank : Rank) (bank : Bank)
  | prechargeAll (rank : Rank)
  | refresh (rank : Rank)
  | otherCommand (code : Nat)
  | channelReset
  | channelResetDeassert
  -- reports taken by their owners
  | channelResetMigration
  | channelResetTable
  | sourceWriteReport
  | destWriteReport
  | closeReportMigration
  | closeReportTable
  -- the sideband link and its messages
  | inboundFrame (bytes : List Byte)
  | badFrame
  | errorNote (note : ErrorNote)
  | copyAccept (ctx : Ctx) (round : RoundField)
  | copyRefuse (ctx : Ctx) (round : RoundField) (reason : RefuseReason)
  | copyDone (ctx : Ctx) (round : RoundField)
  | fenceAckSet (ctx : Ctx) (round : RoundField)
  | fenceAckRelease (ctx : Ctx) (round : RoundField)
  | hello (level count : Byte)
  | helloAck (level count : Byte)
  | transmitBegin
  -- timers
  | retryTimerExpiry
  | offerTimerExpiry (ctx : Ctx)
  | roundTimerExpiry (ctx : Ctx)
  | armTimerExpiry (ctx : Ctx)
  | fenceTimerExpiry (ctx : Ctx)
  | closingFenceTimerExpiry (ctx : Ctx)
  | decayBoundary
  -- the Policy Unit
  | retryPassStep
  | nominationTake
  -- the Repair Store
  | probationTimerExpiry
  | stageExpired
  | burnComplete (verified : Bool)
  | revokeComplete (verified : Bool)
  | burnGeometryComplete (verified : Bool)
  -- the Management Port
  | requestFrame (bytes : List Byte)
  | tableRead (index : Byte)
  | tableFind (rank bank : Byte) (row : RowField)
  | release (index : Byte)
  | slotRead (rank bank slot : Byte)
  | slotTestBegin (rank bank slot : Byte)
  | slotTestEnd (rank bank slot verdict : Byte)
  | slotGrade (rank bank slot grade : Byte)
  | contextRead (context : Byte)
  | repair (rank bank : Byte) (row : RowField)
  | move (index : Byte)
  | cancel (context : Byte)
  | watchRead (position : Byte)
  | watchClear (rank bank : Byte) (row : RowField) (subject : Byte)
  | profileRead (p : Byte)
  | profileEditSelect (p : Byte)
  | profileWrite (field : Byte) (value : BitVec 16)
  | profileRunSelect (p : Byte)
  | configure (ranks w : Byte)
  | stage (index : Byte)
  | burn
  | revoke (record : Byte)
  | burnGeometry
  | lockStore
  | storeRead (record : Byte)
  | storeStatus
  | conditionRead
  | conditionClear (set : BitVec 32)
  | alertMask (set : BitVec 32)
  | warmReset
  -- the owners' parts of a warm reset
  | warmResetMigration
  | warmResetLink
  | warmResetWatch
  | warmResetSlots
  | warmResetStore
  | warmResetConditions
  deriving DecidableEq, Repr

end Sys2Proof
end

