-- ==== Sys2Proof/Decode.lean ====
section
/-!
DEFINITION. The command that a word spells by the bits of the table of operations and events. The rows of that table give no
bits: the part is a block that takes commands at its pins, not words of an instruction stream. So no word spells a command. The
frames that do cross the pins are read in Machine/Formats.lean.
-/

namespace Sys2Proof

/-- The command spelled by a word of `nbits` bits; no row of the table gives bits (DESIGN CHOICE,
assumption 16). -/
def decodeTableWord (nbits w : Nat) : Option Instr :=
  match nbits, w with
  | _, _ => none

end Sys2Proof
end

