-- ==== Sys2Proof/Config.lean ====
section
/-!
DEFINITION. What is fixed for the part: the sizes of its tables and queues, its fixed timer lengths, and the free values,
constants without a body that stand for what the spec leaves open.
-/

namespace Sys2Proof.Config

/-- Columns in one copy block (R54). -/
def columnsPerBlock : Nat := 4

/-- Physical rows of a bank set aside as spares (R26). -/
def spareRows : Nat := 16

/-- Messages the outbound queue holds (R113). -/
def outboundCapacity : Nat := 8

/-- Reports the report queue holds (R74). -/
def reportCapacity : Nat := 32

/-- Items the Watch List holds (R121). -/
def watchCapacity : Nat := 32

/-- Keys the nomination queue holds (R148). -/
def nominationCapacity : Nat := 32

/-- Completed moves after which a repair stays where it is (R11). -/
def maxMoves : Nat := 3

/-- Bad frames in a row at which the link fails (R110). -/
def badRunLimit : Nat := 4

/-- Length of the greeting retry timer in ms (R102). -/
def retryInterval : Nat := 100

/-- Length of the probation timer in ms (R158). -/
def probationLength : Nat := 100

/-- Length of the expiry timer in ms (R158). -/
def expiryLength : Nat := 10000

/-- The protocol level of a greeting (R100). -/
def protocolLevel : Byte := 1

/-- The context count of a greeting (R100). -/
def contextCount : Byte := 4

/-- The upper limit of SCORE and of a note's weight (R121, R127). -/
def maxScore : Nat := 1023

/-- The upper limit of NOTES and of the alias violation count (R121, R52). -/
def maxCount16 : Nat := 65535

/-- The longest request frame in bytes (section 11.4). -/
def longestRequest : Nat := 10

/-- FREE VALUE: how far the programming of a record image has gone when power is lost. Bit `n` says whether cell
`n` of the image had been programmed (R196; assumption 8). The argument is the model's counter of free values. -/
opaque cutRecordCells : Nat → BitVec 64

/-- FREE VALUE: the same for the four bytes of the geometry area (R196). -/
opaque cutGeometryCells : Nat → BitVec 32

/-- FREE VALUE: the cells of a record whose burn failed its verify (R164); only that they read TORN is stated. -/
opaque failedBurnCells : Nat → BitVec 64

/-- FREE VALUE: the revoke mark of a record whose revoke failed its verify (R165). -/
opaque failedRevokeMark : Nat → Byte

/-- FREE VALUE: the cells of a geometry area whose burn failed its verify (R166). -/
opaque failedGeometryCells : Nat → BitVec 32

end Sys2Proof.Config
end

