-- ==== Sys2Proof/Machine/State.lean ====
section
/-!
DEFINITION. The state of the 5316, block by block as the spec's table of functional blocks owns it, as plain data; the
reasons a step can stop; and the state right after power-on.
-/

namespace Sys2Proof.Machine

/-! ## Why a step can stop -/

/-- No command of this part faults: the spec gives every one an effect in every state. The type has no constructor. -/
inductive Fault where
  deriving DecidableEq, Repr

/-- The reasons `exec` can refuse a command. -/
inductive Refusal where
  /-- Raised by an arm of `exec` for a command that has no meaning yet. Safe: the machine stops where the part would
  go on. No arm raises it now. -/
  | notModelled (mnemonic : String)
  deriving DecidableEq, Repr

/-! ## Geometry and mode (R171) -/

/-- RANKS: 1 or 2. -/
inductive RankCount where
  | one
  | two
  deriving DecidableEq, Repr

/-- W: 14, 15, 16 or 17. -/
inductive RowWidth where
  | w14
  | w15
  | w16
  | w17
  deriving DecidableEq, Repr

/-- The geometry in force (R171). Every value of the type is a geometry the part accepts. -/
structure Geometry where
  ranks : RankCount
  w     : RowWidth
  deriving DecidableEq, Repr

/-- MODE; RANKS and W are present in ACTIVE and absent in the other two modes (R171). -/
inductive Mode where
  | loading
  | unconfigured
  | active (g : Geometry)
  deriving DecidableEq, Repr

/-! ## Remap Table (chapter 1) -/

/-- RANK, BANK and ORIGIN_ROW of an entry (R1). -/
structure Origin where
  rank : Rank
  bank : Bank
  row  : Nat
  deriving DecidableEq, Repr

/-- One entry, by STATE; each constructor holds the fields R2 marks present. KIND follows from STATE. MOVES is 0 in
FORMING. STAGED yes is `some` reserved record, STAGED no is `none` (R2: STORE_RECORD is present in LIVE when STAGED is
yes). -/
inductive Entry where
  | free
  | forming (origin : Origin) (next : SlotNo) (ctx : Ctx)
  | live (origin : Origin) (slot : SlotNo) (moves : Nat) (staged : Option RecIx)
  | moving (origin : Origin) (slot next : SlotNo) (ctx : Ctx) (moves : Nat)
  | retiring (origin : Origin) (slot : SlotNo) (moves : Nat)
  | permanent (origin : Origin) (slot : SlotNo) (moves : Nat) (record : RecIx)
  deriving DecidableEq, Repr

/-- What a close report to the Remap Table carries (R15, R59). -/
structure CloseReport where
  rank     : Rank
  bank     : Bank
  physical : Nat
  deriving DecidableEq, Repr

/-- The Remap Table: its entries, the generation (R21), and, as the model's own fields, the close reports and channel
reset reports the translator has made and the table has not yet taken in an event of its own (R59, R63; assumption
19). -/
structure RemapTable where
  entries       : Vector Entry 96
  generation    : BitVec 16
  closes        : List CloseReport
  channelResets : Nat
  deriving DecidableEq, Repr

/-! ## Slot Directory (chapter 2) -/

/-- GRADE (R30). -/
inductive Grade where
  | untested
  | good
  | bad
  deriving DecidableEq, Repr

/-- STATE of a slot with the fields R28 marks present in it. -/
inductive SlotState where
  | sink
  | free
  | testing (faultSeen : Bool)
  | target (entry : EntryIx)
  | mapped (entry : EntryIx)
  | permanent (entry : EntryIx)
  deriving DecidableEq, Repr

/-- One slot record (R28). -/
structure SlotRecord where
  state : SlotState
  grade : Grade
  deriving DecidableEq, Repr

/-! ## Command Translator (chapter 3) -/

/-- ROLE of an open bank (R49). -/
inductive Role where
  | plain
  | source (ctx : Ctx)
  | dest (ctx : Ctx)
  | aliasTest
  | sunk
  deriving DecidableEq, Repr

/-- An OPEN record; CLOSED is `none` (R48). -/
structure OpenRow where
  issued   : Nat
  physical : Nat
  role     : Role
  deriving DecidableEq, Repr

/-- A channel command as it leaves on the downstream port (R46). -/
inductive ChannelCommand where
  | activate (rank : Rank) (bank : Bank) (row : Nat)
  | read (rank : Rank) (bank : Bank) (column : Column)
  | write (rank : Rank) (bank : Bank) (column : Column)
  | readAp (rank : Rank) (bank : Bank) (column : Column)
  | writeAp (rank : Rank) (bank : Bank) (column : Column)
  | precharge (rank : Rank) (bank : Bank)
  | prechargeAll (rank : Rank)
  | refresh (rank : Rank)
  | other (code : Nat)
  deriving DecidableEq, Repr

/-- The Command Translator: the open-row records by rank and bank (R48), the alias violation count (R52), the
channel-reset line setting (R64), and the command last driven on CMD_DN. -/
structure Translator where
  records    : Vector (Vector (Option OpenRow) 16) 2
  aliasCount : Nat
  resetLine  : Bool
  downstream : Option ChannelCommand
  deriving DecidableEq, Repr

/-! ## Sideband messages the part sends (R100) -/

/-- The kind of reply a STALE_NOTE answers, with the action for a FENCE_ACK (R91). -/
inductive StaleKind where
  | copyAccept
  | copyRefuse
  | copyDone
  | fenceAck (action : FenceAction)
  deriving DecidableEq, Repr

/-- An outbound message with the fields it was made with (R100). -/
inductive OutMsg where
  | copyOrder (ctx : Ctx) (round : Nat) (origin : Origin) (dest : SlotNo) (ordered : BlockSet)
  | cancelOrder (ctx : Ctx) (round : Nat)
  | fenceOrder (ctx : Ctx) (round : Nat) (action : FenceAction) (origin : Origin)
  | staleNote (ctx : Ctx) (round : RoundField) (kind : StaleKind)
  | hello
  | helloAck
  deriving DecidableEq, Repr

/-! ## Migration Engine (chapter 4) -/

/-- DIRECTION (R68). -/
inductive Direction where
  | first
  | move
  deriving DecidableEq, Repr

/-- FENCED (R68). -/
inductive Fenced where
  | no
  | requested
  | held
  deriving DecidableEq, Repr

/-- The abort reasons, in the order of the reason table of R87. -/
inductive AbortReason where
  | refused
  | offerTimeout
  | roundTimeout
  | armTimeout
  | fenceTimeout
  | fenceBreach
  | incomplete
  | targetFault
  | cancelled
  | linkDown
  | linkReset
  | channelReset
  | warmReset
  deriving DecidableEq, Repr

/-- LAST_RESULT: SUCCESS or an abort reason (R68). -/
inductive MigrationResult where
  | success
  | aborted (reason : AbortReason)
  deriving DecidableEq, Repr

/-- CAPTURED: the run profile's values taken at launch (R71). -/
structure Captured where
  maxRounds    : Nat
  offerTimeout : Nat
  roundTimeout : Nat
  fenceTimeout : Nat
  deriving DecidableEq, Repr

/-- The fields of a migration that R69 marks present in the active states and in CLOSING. -/
structure Job where
  direction : Direction
  entry     : EntryIx
  origin    : Origin
  destSlot  : SlotNo
  round     : Nat
  ordered   : BlockSet
  copied    : BlockSet
  dirty     : BlockSet
  fenced    : Fenced
  captured  : Captured
  deriving DecidableEq, Repr

/-- The fields of the last migration that an IDLE context keeps (R69). -/
structure LastMigration where
  direction : Direction
  origin    : Origin
  round     : Nat
  deriving DecidableEq, Repr

/-- STATE other than IDLE (R69). -/
inductive BusyState where
  | offering
  | copying
  | fencing
  | armed
  | closing
  deriving DecidableEq, Repr

/-- STATE with the fields R69 marks present in it. -/
inductive ContextBody where
  | idle (last : Option LastMigration)
  | busy (state : BusyState) (job : Job)
  deriving DecidableEq, Repr

/-- A message of PENDING. `started` says that it had been queued once and was displaced by a greeting, so that it starts
no timer when it is queued again (R76, R115). -/
structure HeldMsg where
  msg     : OutMsg
  started : Bool
  deriving DecidableEq, Repr

/-- One migration context (R68). `held` is PENDING, `timer` is TIMER (remaining ms, or `none` when stopped). -/
structure Context where
  body       : ContextBody
  lastResult : Option MigrationResult
  held       : List HeldMsg
  timer      : Option Nat
  deriving DecidableEq, Repr

/-- A report of the translator to the Migration Engine (R55, R59). -/
inductive Report where
  | sourceWrite (ctx : Ctx) (rank : Rank) (bank : Bank) (row : Nat) (block : Fin 32)
  | destWrite (ctx : Ctx) (rank : Rank) (bank : Bank) (slot : Nat) (block : Fin 32)
  | close (rank : Rank) (bank : Bank) (issued physical : Nat) (role : Role)
  deriving DecidableEq, Repr

/-- The Migration Engine: its contexts and the report queue (R74), and, as the model's own fields, the channel reset
reports (R63) and the replies passed on by the link (R101) that it has not yet taken in an event of its own
(assumption 19). -/
structure Migration where
  contexts      : Vector Context 4
  reports       : List Report
  channelResets : Nat
  replies       : List Reply
  deriving DecidableEq, Repr

/-! ## Sideband Link (chapter 5) -/

/-- LINK_STATE (R99). -/
inductive LinkState where
  | down
  | greeting
  | up
  deriving DecidableEq, Repr

/-- The Sideband Link (R99); `wire` is the message whose transmission began last (R113). -/
structure Link where
  state      : LinkState
  badRun     : Nat
  retryTimer : Option Nat
  outbound   : List OutMsg
  waiting    : List Ctx
  wire       : Option OutMsg
  deriving DecidableEq, Repr

/-! ## Watch List (chapter 6) -/

/-- SUBJECT of a watch item (R121). -/
inductive Subject where
  | origin
  | slot (s : SlotNo)
  deriving DecidableEq, Repr

/-- The key of a watch item: RANK, BANK, ROW and SUBJECT (R122). -/
structure Key where
  origin  : Origin
  subject : Subject
  deriving DecidableEq, Repr

/-- LAST_FAILURE of a watch item (R121, R150). -/
inductive FailureKind where
  | tableFull
  | noSlot
  | worn
  deriving DecidableEq, Repr

/-- One watch item (R121). -/
structure WatchItem where
  key         : Key
  score       : Nat
  notes       : Nat
  lastClass   : NoteClass
  nominated   : Bool
  inRepair    : Option Ctx
  lastFailure : Option FailureKind
  created     : BitVec 32
  deriving DecidableEq, Repr

/-- The Watch List: items oldest first (R122), the creation counter, the decay timer (R133), and, as the model's own
field, the error notes passed on by the link and not yet taken (R101; assumption 19). -/
structure WatchList where
  items      : List WatchItem
  counter    : BitVec 32
  decayTimer : Option Nat
  notes      : List ErrorNote
  deriving DecidableEq, Repr

/-! ## Policy Unit (chapter 7) -/

/-- A policy profile (R139). -/
structure Profile where
  weightCorrected   : Nat
  weightUncorrected : Nat
  nominateThreshold : Nat
  decayInterval     : Nat
  decayStep         : Nat
  autoRepair        : Bool
  allowUntested     : Bool
  maxRounds         : Nat
  offerTimeout      : Nat
  roundTimeout      : Nat
  fenceTimeout      : Nat
  deriving DecidableEq, Repr

/-- The Policy Unit: profiles, selectors (R140), nomination queue (R148) and pass order (R149). -/
structure Policy where
  profiles   : Vector Profile 2
  run        : ProfileNo
  edit       : ProfileNo
  pendingRun : Option ProfileNo
  nominations : List Key
  passOrder  : List Key
  deriving DecidableEq, Repr

/-! ## Repair Store (chapter 8) -/

/-- The eight bytes of cells of one record (section 11.5). -/
structure RecordCells where
  writeMark  : Byte
  rankBank   : Byte
  row        : RowField
  slot       : Byte
  check      : Byte
  revokeMark : Byte
  deriving DecidableEq, Repr

/-- The four bytes of cells of the geometry area (section 11.5). -/
structure GeometryCells where
  writeMark : Byte
  ranks     : Byte
  w         : Byte
  check     : Byte
  deriving DecidableEq, Repr

/-- STATE of a record with the fields R153 marks present in it. -/
inductive RecordState where
  | blank
  | written (origin : Origin) (slot : SlotNo)
  | revoked (origin : Origin) (slot : SlotNo)
  | torn
  deriving DecidableEq, Repr

/-- The state of the geometry area (R154). -/
inductive GeometryArea where
  | blank
  | written (g : Geometry)
  | torn
  deriving DecidableEq, Repr

/-- LOAD_RESULT, with ENTRY present when it is LOADED (R153). -/
inductive LoadResult where
  | loaded (entry : EntryIx)
  | skipped
  deriving DecidableEq, Repr

/-- The stage register with its timers' remaining ms (R158). -/
inductive Stage where
  | empty
  | probation (entry : EntryIx) (record : RecIx) (probation expiry : Nat)
  | ready (entry : EntryIx) (record : RecIx) (expiry : Nat)
  | committed (entry : EntryIx) (record : RecIx)
  deriving DecidableEq, Repr

/-- OPERATION of the burn engine with the image it latched (R162, R163, R166). -/
inductive Operation where
  | burn (record : RecIx) (entry : EntryIx) (origin : Origin) (slot : SlotNo)
  | revoke (record : RecIx)
  | geometry (g : Geometry)
  deriving DecidableEq, Repr

/-- LAST_OPERATION (R164, R165, R166). -/
inductive OperationKind where
  | burn (record : RecIx)
  | revoke (record : RecIx)
  | geometry
  deriving DecidableEq, Repr

/-- LAST_OPERATION with LAST_OUTCOME: DONE is `true`, FAILED is `false` (R162). -/
structure LastOperation where
  kind : OperationKind
  done : Bool
  deriving DecidableEq, Repr

/-- The Repair Store: the cells, which keep their contents without power, and its volatile state (R153 to R167).
ENGINE_STATE is IDLE when `operation` is `none`. -/
structure RepairStore where
  cells         : Vector RecordCells 40
  geometryCells : GeometryCells
  loadResults   : Vector (Option LoadResult) 40
  stage         : Stage
  operation     : Option Operation
  lastOperation : Option LastOperation
  lock          : Bool
  deriving DecidableEq, Repr

/-! ## Management Port (chapter 10) -/

/-- The response statuses, in the order of their codes 01h..10h (section 11.4). -/
inductive Status where
  | ok
  | accepted
  | busy
  | badFrame
  | badRequest
  | badArgument
  | notFound
  | state
  | tableFull
  | noSlot
  | noContext
  | linkDown
  | locked
  | storeFull
  | early
  | notReady
  deriving DecidableEq, Repr

/-- The condition kinds, in the order of the kind table of R186. -/
inductive Condition where
  | nomination
  | migrationDone
  | migrationFailed
  | tableFull
  | noSlot
  | worn
  | watchFull
  | badNote
  | aliasViolation
  | linkFault
  | stageExpired
  | stageCancelled
  | burnDone
  | burnFailed
  | storeConflict
  | earlyTraffic
  deriving DecidableEq, Repr

/-- The STATE names of an entry, for the response of RELEASE (R14). -/
inductive EntryStateName where
  | free
  | retiring
  deriving DecidableEq, Repr

/-- The payload of a composed response, by the fields its rule names. -/
inductive Payload where
  /-- no payload -/
  | none
  /-- TABLE_READ and TABLE_FIND (R22, R23) -/
  | entry (index : EntryIx) (e : Entry) (generation : BitVec 16)
  /-- the refusal NOT_FOUND of TABLE_FIND (R23) -/
  | generation (generation : BitVec 16)
  /-- RELEASE (R14) -/
  | released (state : EntryStateName)
  /-- SLOT_READ (R41) -/
  | slot (rank : Rank) (bank : Bank) (slot : SlotNo) (r : SlotRecord)
  /-- SLOT_TEST_END (R39) -/
  | grade (g : Grade)
  /-- CONTEXT_READ (R94) -/
  | context (id : Ctx) (x : Context)
  /-- REPAIR and MOVE (R71) -/
  | launched (id : Ctx)
  /-- CANCEL: the state the context entered, IDLE (`false`) or CLOSING (`true`) (R93) -/
  | cancelled (closing : Bool)
  /-- WATCH_READ (R136) -/
  | item (i : WatchItem) (count : Nat)
  /-- the refusal NOT_FOUND of WATCH_READ (R136) -/
  | itemCount (count : Nat)
  /-- PROFILE_READ (R146) -/
  | profile (p : Profile) (run edit : ProfileNo) (pendingRun : Option ProfileNo)
  /-- CONFIGURE (R177) -/
  | configured (loaded : Nat) (generation : BitVec 16)
  /-- STAGE (R159) -/
  | staged (record : RecIx)
  /-- STORE_READ (R169) -/
  | storeRecord (r : RecordState) (result : Option LoadResult)
  /-- STORE_STATUS (R169) -/
  | storeStatus (lock : Bool) (operation : Option Operation) (last : Option LastOperation) (stage : Stage)
      (blanks : Nat) (area : GeometryArea)
  /-- CONDITION_READ (R188) -/
  | conditions (set mask : BitVec 16) (mode : Mode) (link : LinkState) (outbound : Nat) (aliasCount : Nat)
  /-- CONDITION_CLEAR (R189) -/
  | conditionSet (set : BitVec 16)
  deriving DecidableEq, Repr

/-- RESPONSE (R180). -/
inductive Response where
  | none
  | inProgress
  | composed (tag : Byte) (status : Status) (payload : Payload)
  deriving DecidableEq, Repr

/-- IN_HAND with its operands (the request buffer) and SUPERSEDED (R180). -/
structure InHand where
  request    : Request
  tag        : Byte
  superseded : Bool
  deriving DecidableEq, Repr

/-- The owners' parts of a warm reset that have a row of the table (R191). -/
inductive WarmPart where
  | migration
  | link
  | watch
  | slots
  | store
  | conditions
  deriving DecidableEq, Repr

/-- The Management Port. PORT_STATE is EXECUTING exactly when `inHand` is present (R180). `warmParts` are the parts of a
warm reset not yet taken (R191). `alert` is the ALERT output, asserted when `true` (R187). -/
structure Port where
  inHand     : Option InHand
  response   : Response
  warmParts  : List WarmPart
  conditions : BitVec 16
  alertMask  : BitVec 16
  alert      : Bool
  deriving DecidableEq, Repr

/-! ## The whole part -/

/-- The state of the 5316. `pending` is the queue of commands waiting, `powerHeld` says that the power-on reset input is
asserted (R172), `ready` is the READY output (R175), `adrPins` are the levels on MG_ADR0..MG_ADR2 and `target` the
target address sampled from them at power-on (section 11.6), and `freeCount` is the model's counter of free values. -/
structure State where
  pending   : List Instr
  powerHeld : Bool
  mode      : Mode
  ready     : Bool
  adrPins   : BitVec 3
  target    : BitVec 3
  rmt       : RemapTable
  sld       : Vector (Vector (Vector SlotRecord 16) 16) 2
  ctr       : Translator
  mge       : Migration
  sbl       : Link
  wls       : WatchList
  pol       : Policy
  rst       : RepairStore
  port      : Port
  freeCount : Nat
  deriving DecidableEq, Repr

/-! ## Power-on values, block by block -/

/-- R3: all entries FREE, generation 0. -/
def RemapTable.reset : RemapTable :=
  { entries := Vector.replicate 96 .free, generation := 0, closes := [], channelResets := 0 }

/-- R31: slot 0 of each bank SINK, every other slot FREE, all UNTESTED. -/
def bankReset : Vector SlotRecord 16 :=
  (Vector.replicate 16 (SlotRecord.mk .free .untested)).set 0 (SlotRecord.mk .sink .untested)

/-- R31, for both ranks (R28). -/
def directoryReset : Vector (Vector (Vector SlotRecord 16) 16) 2 :=
  Vector.replicate 2 (Vector.replicate 16 bankReset)

/-- R48: every record CLOSED. -/
def recordsClosed : Vector (Vector (Option OpenRow) 16) 2 :=
  Vector.replicate 2 (Vector.replicate 16 none)

/-- R48, R52. The line setting is as observed on the line (R64); deasserted is the model's value for reset (DESIGN CHOICE,
assumption 9). -/
def Translator.reset : Translator :=
  { records := recordsClosed, aliasCount := 0, resetLine := false, downstream := none }

/-- R69: IDLE with every field absent. -/
def Context.reset : Context :=
  { body := .idle none, lastResult := none, held := [], timer := none }

/-- R69, R74. -/
def Migration.reset : Migration :=
  { contexts := Vector.replicate 4 Context.reset, reports := [], channelResets := 0, replies := [] }

/-- R99. -/
def Link.reset : Link :=
  { state := .down, badRun := 0, retryTimer := none, outbound := [], waiting := [], wire := none }

/-- R122, R133, R138. -/
def WatchList.reset : WatchList :=
  { items := [], counter := 0, decayTimer := none, notes := [] }

/-- R139: the default values; AUTO_REPAIR differs between the profiles. -/
def Profile.default (autoRepair : Bool) : Profile :=
  { weightCorrected := 16, weightUncorrected := 512, nominateThreshold := 128, decayInterval := 1000, decayStep := 8,
    autoRepair := autoRepair, allowUntested := false, maxRounds := 3, offerTimeout := 20, roundTimeout := 500,
    fenceTimeout := 10 }

/-- R139, R140, R148, R149. -/
def Policy.reset : Policy :=
  { profiles := (Vector.replicate 2 (Profile.default true)).set 1 (Profile.default false),
    run := 0, edit := 1, pendingRun := none, nominations := [], passOrder := [] }

/-- Eight unprogrammed cell bytes (section 11.5). -/
def RecordCells.blank : RecordCells :=
  { writeMark := 0, rankBank := 0, row := 0, slot := 0, check := 0, revokeMark := 0 }

/-- Four unprogrammed cell bytes (section 11.5). -/
def GeometryCells.blank : GeometryCells :=
  { writeMark := 0, ranks := 0, w := 0, check := 0 }

/-- R155: lock clear, engine IDLE with no last outcome, stage EMPTY, every LOAD_RESULT absent. The cells of a part that
nobody has burned read 00h (section 11.5). -/
def RepairStore.reset : RepairStore :=
  { cells := Vector.replicate 40 RecordCells.blank, geometryCells := GeometryCells.blank,
    loadResults := Vector.replicate 40 none, stage := .empty, operation := none, lastOperation := none, lock := false }

/-- R180, R186, R187, R193. -/
def Port.reset : Port :=
  { inHand := none, response := .none, warmParts := [], conditions := 0, alertMask := BitVec.allOnes 16, alert := false }

/-- The part right after power-on (R172): the power-on reset input released, MODE LOADING, every block at its power-on
value, the store about to be read, nothing waiting in the command queue. The pins' levels
and the model's own fields are DESIGN CHOICE (assumption 9). -/
def State.reset : State :=
  { pending := [], powerHeld := false, mode := .loading, ready := false, adrPins := 0, target := 0,
    rmt := RemapTable.reset, sld := directoryReset, ctr := Translator.reset, mge := Migration.reset, sbl := Link.reset,
    wls := WatchList.reset, pol := Policy.reset, rst := RepairStore.reset, port := Port.reset, freeCount := 0 }

end Sys2Proof.Machine
end

