-- ==== Sys2Proof/Machine/Flags.lean ====
section
/-!
DEFINITION. The flags of the part: the condition set, the alert mask and the ALERT output (R186 to R192).
-/

namespace Sys2Proof.Machine

/-- The row of a kind in the kind table, which is its bit in a set of kinds (R186, section 11.1). -/
def Condition.index : Condition → Nat
  | .nomination => 0
  | .migrationDone => 1
  | .migrationFailed => 2
  | .tableFull => 3
  | .noSlot => 4
  | .worn => 5
  | .watchFull => 6
  | .badNote => 7
  | .aliasViolation => 8
  | .linkFault => 9
  | .stageExpired => 10
  | .stageCancelled => 11
  | .burnDone => 12
  | .burnFailed => 13
  | .storeConflict => 14
  | .earlyTraffic => 15

/-- The set that holds one kind. -/
def conditionBit (k : Condition) : BitVec 16 := BitVec.twoPow 16 k.index

/-- R187: ALERT is asserted while at least one kind is both set and present in the mask. -/
def alertTest (set mask : BitVec 16) : Bool := set &&& mask != 0

/-- Gives the port a condition set and a mask, with ALERT re-evaluated in the same event (R187). -/
def Port.withConditions (p : Port) (set mask : BitVec 16) : Port :=
  { p with conditions := set, alertMask := mask, alert := alertTest set mask }

/-- Raises a condition: its flag is set, and stays set if it already was (R186). -/
def State.raise (k : Condition) (s : State) : State :=
  { s with port := s.port.withConditions (s.port.conditions ||| conditionBit k) s.port.alertMask }

/-- Raises a condition when `b` holds. -/
def State.raiseIf (b : Bool) (k : Condition) (s : State) : State := if b then s.raise k else s

/-- Clears the flags of the kinds in `set` (R189). -/
def State.clearConditions (set : BitVec 16) (s : State) : State :=
  { s with port := s.port.withConditions (s.port.conditions &&& ~~~set) s.port.alertMask }

/-- Replaces the alert mask (R190). -/
def State.setAlertMask (mask : BitVec 16) (s : State) : State :=
  { s with port := s.port.withConditions s.port.conditions mask }

end Sys2Proof.Machine
end

