-- ==== Sys2Proof/Machine/Operands.lean ====
section
/-!
DEFINITION. The numbers of a geometry (R26, R171) and the operand forms of the commands: how the fields of a frame are
read as ranks, banks, rows, slots, subjects, grades and profile fields, and when they are out of range.
-/

namespace Sys2Proof.Machine

/-! ## Geometry -/

/-- RANKS as a number. -/
def RankCount.toNat : RankCount → Nat
  | .one => 1
  | .two => 2

/-- W as a number. -/
def RowWidth.toNat : RowWidth → Nat
  | .w14 => 14
  | .w15 => 15
  | .w16 => 16
  | .w17 => 17

/-- N, the physical rows per bank: 2 to the power W (R171). -/
def Geometry.n (g : Geometry) : Nat := 2 ^ g.w.toNat

/-- The number of data rows, N−16, which is also the row of slot 0, the sink row (R26, R27). -/
def Geometry.dataRows (g : Geometry) : Nat := g.n - Config.spareRows

/-- The physical row of a slot, N−16+s (R26). -/
def Geometry.slotRow (g : Geometry) (s : SlotNo) : Nat := g.dataRows + s.val

/-- The slot of a row of the spare region, row − (N−16) (R26). -/
def Geometry.slotOf (g : Geometry) (row : Nat) : SlotNo := Fin.ofNat 16 (row - g.dataRows)

/-- Whether a rank is a configured one (R171). -/
def Geometry.hasRank (g : Geometry) (r : Rank) : Bool := r.val < g.ranks.toNat

/-- The row address of an ACTIVATE is the low w bits of the row field (R46). -/
def Geometry.issuedRow (g : Geometry) (row : Nat) : Nat := row % g.n

/-- RANKS from an operand or an image byte: 1 or 2 (R177, R154). -/
def rankCountOf (b : Byte) : Option RankCount :=
  match b.toNat with
  | 1 => some .one
  | 2 => some .two
  | _ => none

/-- W from an operand or an image byte: 14, 15, 16 or 17 (R177, R154). -/
def rowWidthOf (b : Byte) : Option RowWidth :=
  match b.toNat with
  | 14 => some .w14
  | 15 => some .w15
  | 16 => some .w16
  | 17 => some .w17
  | _ => none

/-- A geometry from two bytes (R177, R154). -/
def geometryOf (ranks w : Byte) : Option Geometry :=
  match rankCountOf ranks, rowWidthOf w with
  | some r, some k => some ⟨r, k⟩
  | _, _ => none

/-- The geometry in force, present in ACTIVE only (R171). -/
def Mode.geometry : Mode → Option Geometry
  | .active g => some g
  | _ => none

/-! ## Operands -/

/-- An index operand below a bound. -/
def indexOf (n : Nat) (b : Byte) : Option (Fin n) :=
  if h : b.toNat < n then some ⟨b.toNat, h⟩ else none

/-- A rank operand that names a configured rank (R171). -/
def rankOf (g : Geometry) (b : Byte) : Option Rank :=
  match indexOf 2 b with
  | some r => if g.hasRank r then some r else none
  | none => none

/-- A data row operand, 0..N−17 (R26). -/
def dataRowOf (g : Geometry) (row : RowField) : Option Nat :=
  if row.toNat < g.dataRows then some row.toNat else none

/-- A configured rank, a bank and a data row (R23, R70, R137). -/
def originOf (g : Geometry) (rank bank : Byte) (row : RowField) : Option Origin :=
  match rankOf g rank, indexOf 16 bank, dataRowOf g row with
  | some r, some b, some k => some ⟨r, b, k⟩
  | _, _, _ => none

/-- The place of a slot record: a configured rank, a bank and a slot number (R38 to R41). -/
structure SlotPlace where
  rank : Rank
  bank : Bank
  slot : SlotNo
  deriving DecidableEq, Repr

/-- A slot place from the operands of the SLOT requests. -/
def slotPlaceOf (g : Geometry) (rank bank slot : Byte) : Option SlotPlace :=
  match rankOf g rank, indexOf 16 bank, indexOf 16 slot with
  | some r, some b, some k => some ⟨r, b, k⟩
  | _, _, _ => none

/-- The verdict of SLOT_TEST_END: PASS 01h is `true`, FAIL 02h is `false` (section 11.4). -/
def verdictOf (b : Byte) : Option Bool :=
  match b.toNat with
  | 1 => some true
  | 2 => some false
  | _ => none

/-- The grade of SLOT_GRADE, in the order of R28's list. -/
def gradeOf (b : Byte) : Option Grade :=
  match b.toNat with
  | 0 => some .untested
  | 1 => some .good
  | 2 => some .bad
  | _ => none

/-- The subject of WATCH_CLEAR: ORIGIN 00h, SLOT(s) the value s, 1..15 (section 11.1, R137). -/
def subjectOf (b : Byte) : Option Subject :=
  match indexOf 16 b with
  | some s => if s = 0 then some .origin else some (.slot s)
  | none => none

/-- The kinds named by a four-byte set, absent when a position 16..31 is named (R189, R190). -/
def conditionSetOf (set : BitVec 32) : Option (BitVec 16) :=
  if set.toNat < 65536 then some (set.setWidth 16) else none

/-- ON and OFF as the value of a PROFILE_WRITE (section 11.1). -/
def switchOf (v : Nat) : Option Bool :=
  match v with
  | 0 => some false
  | 1 => some true
  | _ => none

/-- A value in a closed range. -/
def rangeOf (lo hi v : Nat) : Option Nat := if lo ≤ v ∧ v ≤ hi then some v else none

/-- A profile with one field written, absent when the field number or the value is out of range (R139, R143). Fields are
numbered 01h..0Bh in the order of the profile table (section 11.4). -/
def Profile.write (p : Profile) (field : Byte) (value : BitVec 16) : Option Profile :=
  let v := value.toNat
  match field.toNat with
  | 1 => (rangeOf 0 255 v).map fun x => { p with weightCorrected := x }
  | 2 => (rangeOf 0 1023 v).map fun x => { p with weightUncorrected := x }
  | 3 => (rangeOf 1 1023 v).map fun x => { p with nominateThreshold := x }
  | 4 => (rangeOf 10 60000 v).map fun x => { p with decayInterval := x }
  | 5 => (rangeOf 0 1023 v).map fun x => { p with decayStep := x }
  | 6 => (switchOf v).map fun x => { p with autoRepair := x }
  | 7 => (switchOf v).map fun x => { p with allowUntested := x }
  | 8 => (rangeOf 1 6 v).map fun x => { p with maxRounds := x }
  | 9 => (rangeOf 1 255 v).map fun x => { p with offerTimeout := x }
  | 10 => (rangeOf 1 65535 v).map fun x => { p with roundTimeout := x }
  | 11 => (rangeOf 1 255 v).map fun x => { p with fenceTimeout := x }
  | _ => none

/-- The copy block of a column: the column divided by 4, rounded down (R54). -/
def blockOf (c : Column) : Fin 32 := Fin.ofNat 32 (c.val / Config.columnsPerBlock)

/-! ## Block sets (R68) -/

/-- The set of all 32 blocks. -/
def BlockSet.full : BlockSet := BitVec.allOnes 32

/-- Adds a block; a block already in the set stays there (R73). -/
def BlockSet.insert (b : Fin 32) (x : BlockSet) : BlockSet := x ||| BitVec.twoPow 32 b.val

/-- Whether a block is in the set. -/
def BlockSet.has (x : BlockSet) (b : Fin 32) : Bool := x.getLsbD b.val

end Sys2Proof.Machine
end

