-- ==== Sys2Proof/Machine/Formats.lean ====
section
/-!
DEFINITION. Chapter 11: the check byte, the store images and how they are read and programmed, the sideband frames in
both directions, the management frames and the response images.
-/

namespace Sys2Proof.Machine

/-! ## The check byte (R194) -/

/-- One shift of the CRC register under the generator 2Fh. -/
def crcShift (r : Byte) : Byte := if r.msb then (r <<< 1) ^^^ 0x2F#8 else r <<< 1

/-- One byte, most significant bit first. -/
def crcByte (r b : Byte) : Byte :=
  crcShift (crcShift (crcShift (crcShift (crcShift (crcShift (crcShift (crcShift (r ^^^ b))))))))

/-- The check byte over a list of bytes: the register starts at FFh, no final inversion. -/
def checkByte (bytes : List Byte) : Byte := bytes.foldl crcByte 0xFF#8

/-- A list of bytes followed by its check byte. -/
def withCheck (bytes : List Byte) : List Byte := bytes ++ [checkByte bytes]

/-! ## Fields, most significant byte first (section 11.1) -/

/-- A number as `k` bytes. -/
def bigEndian : Nat → Nat → List Byte
  | 0, _ => []
  | k + 1, v => BitVec.ofNat 8 (v / 256 ^ k) :: bigEndian k v

/-- The absent encoding of a field of `k` bytes. -/
def absentField (k : Nat) : List Byte := List.replicate k 0xFF#8

/-- A field of `k` bytes that may be absent. -/
def optionalField (k : Nat) : Option Nat → List Byte
  | some v => bigEndian k v
  | none => absentField k

/-- A row field from three bytes. -/
def rowFieldOf (a b c : Byte) : RowField := (a ++ b ++ c : BitVec 24)

/-! ## Repair Store images (section 11.5) -/

/-- WRITE_MARK once programmed. -/
def writeMarkSet : Byte := 0xA5#8

/-- REVOKE_MARK once revoked. -/
def revokeMarkSet : Byte := 0x5A#8

/-- The check byte a record image should carry, over bytes 0..5. -/
def RecordCells.computedCheck (c : RecordCells) : Byte :=
  checkByte ([c.writeMark, c.rankBank] ++ bigEndian 3 c.row.toNat ++ [c.slot])

/-- Whether bytes 0..6 form a complete, consistent image (R196). -/
def RecordCells.complete (c : RecordCells) : Bool :=
  c.writeMark == writeMarkSet && decide (c.rankBank.toNat ≤ 31) && decide (c.row.toNat ≤ 131071) &&
    decide (c.slot.toNat ≤ 15) && c.check == c.computedCheck

/-- The origin an image names (section 11.5). -/
def RecordCells.origin (c : RecordCells) : Origin :=
  { rank := Fin.ofNat 2 (c.rankBank.toNat / 16), bank := Fin.ofNat 16 (c.rankBank.toNat % 16), row := c.row.toNat }

/-- How a record image reads (R196). -/
def RecordCells.read (c : RecordCells) : RecordState :=
  if c = RecordCells.blank then .blank
  else if c.complete then
    if c.revokeMark = 0 then .written c.origin (Fin.ofNat 16 c.slot.toNat)
    else if c.revokeMark = revokeMarkSet then .revoked c.origin (Fin.ofNat 16 c.slot.toNat)
    else .torn
  else .torn

/-- The image of a repair before its check byte is known. -/
def uncheckedImage (o : Origin) (slot : SlotNo) : RecordCells :=
  { writeMark := writeMarkSet, rankBank := BitVec.ofNat 8 (o.rank.val * 16 + o.bank.val), row := BitVec.ofNat 24 o.row,
    slot := BitVec.ofNat 8 slot.val, check := 0, revokeMark := 0 }

/-- The image a burn programs (R163, section 11.5). -/
def recordImage (o : Origin) (slot : SlotNo) : RecordCells :=
  { uncheckedImage o slot with check := (uncheckedImage o slot).computedCheck }

/-- Eight bytes of cells from the bits of one word, byte 0 the most significant. -/
def recordCellsOf (w : BitVec 64) : RecordCells :=
  { writeMark := w.extractLsb' 56 8, rankBank := w.extractLsb' 48 8, row := w.extractLsb' 24 24,
    slot := w.extractLsb' 16 8, check := w.extractLsb' 8 8, revokeMark := w.extractLsb' 0 8 }

/-- A burn cut short: the cells of `img` selected by `m`, byte 0 first, then bytes 1..5, and byte 6 last (R196). -/
def cutBurn (img m : RecordCells) : RecordCells :=
  let mark := img.writeMark &&& m.writeMark
  let rankBank := img.rankBank &&& m.rankBank
  let row := img.row &&& m.row
  let slot := img.slot &&& m.slot
  if mark ≠ img.writeMark then { RecordCells.blank with writeMark := mark }
  else if rankBank ≠ img.rankBank ∨ row ≠ img.row ∨ slot ≠ img.slot then
    { RecordCells.blank with writeMark := mark, rankBank := rankBank, row := row, slot := slot }
  else { img with check := img.check &&& m.check, revokeMark := 0 }

/-- A revoke cut short: byte 7 alone, the cells selected by `m` (R196). -/
def cutRevoke (c m : RecordCells) : RecordCells := { c with revokeMark := revokeMarkSet &&& m.revokeMark }

/-- The cells after a burn that failed its verify: any image that reads TORN (R164). -/
def failedRecord (raw : RecordCells) : RecordCells :=
  if raw.read = .torn then raw else { RecordCells.blank with writeMark := 0xFF#8 }

/-- The cells after a revoke that failed its verify: bytes 0..6 kept, a mark that reads TORN (R165). -/
def failedRevoke (c : RecordCells) (mark : Byte) : RecordCells :=
  if mark = 0 ∨ mark = revokeMarkSet then { c with revokeMark := 0xFF#8 } else { c with revokeMark := mark }

/-- The check byte a geometry image should carry, over bytes 0..2. -/
def GeometryCells.computedCheck (c : GeometryCells) : Byte := checkByte [c.writeMark, c.ranks, c.w]

/-- How the geometry area reads (R196). -/
def GeometryCells.read (c : GeometryCells) : GeometryArea :=
  if c = GeometryCells.blank then .blank
  else match geometryOf c.ranks c.w with
    | some g => if c.writeMark = writeMarkSet ∧ c.check = c.computedCheck then .written g else .torn
    | none => .torn

/-- The image a geometry burn programs (R166, section 11.5). -/
def geometryImage (g : Geometry) : GeometryCells :=
  let c : GeometryCells := { writeMark := writeMarkSet, ranks := BitVec.ofNat 8 g.ranks.toNat,
                             w := BitVec.ofNat 8 g.w.toNat, check := 0 }
  { c with check := c.computedCheck }

/-- Four bytes of cells from the bits of one word, byte 0 the most significant. -/
def geometryCellsOf (w : BitVec 32) : GeometryCells :=
  { writeMark := w.extractLsb' 24 8, ranks := w.extractLsb' 16 8, w := w.extractLsb' 8 8, check := w.extractLsb' 0 8 }

/-- A geometry burn cut short: byte 0 first and byte 3 last (R196). -/
def cutGeometry (img m : GeometryCells) : GeometryCells :=
  let mark := img.writeMark &&& m.writeMark
  let ranks := img.ranks &&& m.ranks
  let w := img.w &&& m.w
  if mark ≠ img.writeMark then { GeometryCells.blank with writeMark := mark }
  else if ranks ≠ img.ranks ∨ w ≠ img.w then { GeometryCells.blank with writeMark := mark, ranks := ranks, w := w }
  else { img with check := img.check &&& m.check }

/-- The cells after a geometry burn that failed its verify: any image that reads TORN (R166). -/
def failedGeometry (raw : GeometryCells) : GeometryCells :=
  if raw.read = .torn then raw else { GeometryCells.blank with writeMark := 0xFF#8 }

/-! ## Sideband frames from the controller (R109, section 11.3) -/

/-- CLASS: CORRECTED 01h, UNCORRECTED 02h. -/
def noteClassOf (b : Byte) : Option NoteClass :=
  match b.toNat with
  | 1 => some .corrected
  | 2 => some .uncorrected
  | _ => none

/-- REASON: BUSY 01h, UNSUPPORTED 02h. -/
def refuseReasonOf (b : Byte) : Option RefuseReason :=
  match b.toNat with
  | 1 => some .busy
  | 2 => some .unsupported
  | _ => none

/-- An action: SET 01h, RELEASE 02h. -/
def fenceActionOf (b : Byte) : Option FenceAction :=
  match b.toNat with
  | 1 => some .set
  | 2 => some .release
  | _ => none

/-- An error note's message, absent when CLASS is none of its values or REPEAT is 0 (R109). -/
def errorNoteOf (rank bank r2 r1 r0 column cls rep : Byte) : Option InMsg :=
  match noteClassOf cls with
  | some c => if rep = 0 then none else some (.errorNote ⟨rank, bank, rowFieldOf r2 r1 r0, column, c, rep⟩)
  | none => none

/-- The context of a header, bits 7..6 of byte 1. -/
def headerCtx (h : Byte) : Ctx := Fin.ofNat 4 (h.toNat / 64)

/-- The round of a header, bits 5..0 of byte 1. -/
def headerRound (h : Byte) : RoundField := h.setWidth 6

/-- The message of a frame by KIND, with the payload length of each kind; absent when the kind is none of the seven, the
length is not the kind's, or a field holds a value outside its list (R109). -/
def messageOf (kind header : Byte) (payload : List Byte) : Option InMsg :=
  match kind.toNat, payload with
  | 0x01, [level, count] => some (.hello level count)
  | 0x02, [level, count] => some (.helloAck level count)
  | 0x10, [rank, bank, r2, r1, r0, column, cls, rep] => errorNoteOf rank bank r2 r1 r0 column cls rep
  | 0x21, [] => some (.reply ⟨headerCtx header, headerRound header, .copyAccept⟩)
  | 0x22, [reason] =>
    (refuseReasonOf reason).map fun r => .reply ⟨headerCtx header, headerRound header, .copyRefuse r⟩
  | 0x23, [] => some (.reply ⟨headerCtx header, headerRound header, .copyDone⟩)
  | 0x31, [action] => (fenceActionOf action).map fun a => .reply ⟨headerCtx header, headerRound header, .fenceAck a⟩
  | _, _ => none

/-- A frame as received: its message when the frame is good, absent when it is bad (R109). -/
def parseSideband : List Byte → Option InMsg
  | kind :: header :: length :: rest =>
    if rest.length ≠ length.toNat + 1 then none
    else if rest.getLast? ≠ some (checkByte (kind :: header :: length :: rest.dropLast)) then none
    else messageOf kind header rest.dropLast
  | _ => none

/-! ## Sideband frames to the controller (section 11.3) -/

/-- Byte 1 of a header. -/
def headerByte (c : Ctx) (round : Nat) : Byte := BitVec.ofNat 8 (c.val * 64 + round % 64)

/-- SET 01h, RELEASE 02h. -/
def fenceCode : FenceAction → Byte
  | .set => 1
  | .release => 2

/-- KIND and action of the reply a STALE_NOTE answers. -/
def StaleKind.codes : StaleKind → List Byte
  | .copyAccept => [0x21, 0x00]
  | .copyRefuse => [0x22, 0x00]
  | .copyDone => [0x23, 0x00]
  | .fenceAck a => [0x31, fenceCode a]

/-- RANK, BANK and ORIGIN_ROW of an order. -/
def Origin.bytes (o : Origin) : List Byte :=
  [BitVec.ofNat 8 o.rank.val, BitVec.ofNat 8 o.bank.val] ++ bigEndian 3 o.row

/-- KIND, header byte and payload of an outbound message. -/
def OutMsg.parts : OutMsg → Byte × Byte × List Byte
  | .hello => (0x01, 0, [Config.protocolLevel, Config.contextCount])
  | .helloAck => (0x02, 0, [Config.protocolLevel, Config.contextCount])
  | .copyOrder c r o d x => (0x41, headerByte c r, o.bytes ++ [BitVec.ofNat 8 d.val] ++ bigEndian 4 x.toNat)
  | .cancelOrder c r => (0x42, headerByte c r, [])
  | .fenceOrder c r a o => (0x43, headerByte c r, fenceCode a :: o.bytes)
  | .staleNote c r k => (0x44, headerByte c r.toNat, k.codes)

/-- The whole frame of an outbound message. -/
def OutMsg.frame (m : OutMsg) : List Byte :=
  withCheck (m.parts.1 :: m.parts.2.1 :: BitVec.ofNat 8 m.parts.2.2.length :: m.parts.2.2)

/-! ## Management request frames (R181, section 11.4) -/

/-- Four bytes as one field. -/
def wordOf (a b c d : Byte) : BitVec 32 := (a ++ b ++ c ++ d : BitVec 32)

/-- The request of a code with its operand bytes, absent when the code is unknown or takes another number of bytes. -/
def requestOf (code : Byte) (ops : List Byte) : Option Request :=
  match code.toNat, ops with
  | 0x01, [i] => some (.tableRead i)
  | 0x02, [r, b, x, y, z] => some (.tableFind r b (rowFieldOf x y z))
  | 0x03, [i] => some (.release i)
  | 0x04, [r, b, k] => some (.slotRead r b k)
  | 0x05, [r, b, k] => some (.slotTestBegin r b k)
  | 0x06, [r, b, k, v] => some (.slotTestEnd r b k v)
  | 0x07, [r, b, k, g] => some (.slotGrade r b k g)
  | 0x08, [c] => some (.contextRead c)
  | 0x09, [r, b, x, y, z] => some (.repair r b (rowFieldOf x y z))
  | 0x0A, [i] => some (.move i)
  | 0x0B, [c] => some (.cancel c)
  | 0x0C, [p] => some (.watchRead p)
  | 0x0D, [r, b, x, y, z, k] => some (.watchClear r b (rowFieldOf x y z) k)
  | 0x0E, [p] => some (.profileRead p)
  | 0x0F, [p] => some (.profileEditSelect p)
  | 0x10, [f, x, y] => some (.profileWrite f (x ++ y : BitVec 16))
  | 0x11, [p] => some (.profileRunSelect p)
  | 0x12, [r, w] => some (.configure r w)
  | 0x13, [i] => some (.stage i)
  | 0x14, [] => some .burn
  | 0x15, [k] => some (.revoke k)
  | 0x16, [] => some .burnGeometry
  | 0x17, [] => some .lockStore
  | 0x18, [k] => some (.storeRead k)
  | 0x19, [] => some .storeStatus
  | 0x1A, [] => some .conditionRead
  | 0x1B, [a, b, c, d] => some (.conditionClear (wordOf a b c d))
  | 0x1C, [a, b, c, d] => some (.alertMask (wordOf a b c d))
  | 0x1D, [] => some .warmReset
  | _, _ => none

/-- What the framing checks of R181 make of a frame. -/
inductive Framing where
  | refused (status : Status)
  | request (q : Request)
  deriving DecidableEq, Repr

/-- The tag of a frame: byte 2, or 00h when the frame has fewer than three bytes (section 11.4). -/
def frameTag (bytes : List Byte) : Byte := bytes.getD 2 0

/-- The code and the operands of a frame that passed its length and check byte tests: bytes 1 and 3 .. LENGTH−2. A frame
of fewer than four bytes has no room for its code, tag and check byte (DEDUCED, assumption 12: then it holds no request). -/
def frameRequest : List Byte → Option Request
  | _ :: code :: _ :: rest => if rest.isEmpty then none else requestOf code rest.dropLast
  | _ => none

/-- The framing checks of R181 in their order, PORT_STATE apart: length, check byte, code and operand bytes. -/
def frameCheck (bytes : List Byte) : Framing :=
  if bytes.head? ≠ some (BitVec.ofNat 8 bytes.length) ∨ bytes.length > Config.longestRequest then .refused .badFrame
  else if bytes.getLast? ≠ some (checkByte bytes.dropLast) then .refused .badFrame
  else match frameRequest bytes with
    | some q => .request q
    | none => .refused .badRequest

/-! ## Response images (section 11.4) -/

/-- The code of a status, 01h..10h. -/
def Status.code : Status → Byte
  | .ok => 0x01
  | .accepted => 0x02
  | .busy => 0x03
  | .badFrame => 0x04
  | .badRequest => 0x05
  | .badArgument => 0x06
  | .notFound => 0x07
  | .state => 0x08
  | .tableFull => 0x09
  | .noSlot => 0x0A
  | .noContext => 0x0B
  | .linkDown => 0x0C
  | .locked => 0x0D
  | .storeFull => 0x0E
  | .early => 0x0F
  | .notReady => 0x10

/-- A flag listed "yes, no": yes 00h, no 01h (section 11.1; DEDUCED, assumption 14). -/
def yesNo (b : Bool) : Nat := if b then 0 else 1

/-- RANK, BANK, ORIGIN_ROW, each absent when there is no origin. -/
def optionalOrigin : Option Origin → List Byte
  | some o => o.bytes
  | none => absentField 5

/-- STATE of an entry as a number. -/
def Entry.stateCode : Entry → Nat
  | .free => 0
  | .forming .. => 1
  | .live .. => 2
  | .moving .. => 3
  | .retiring .. => 4
  | .permanent .. => 5

/-- RANK, BANK and ORIGIN_ROW of an entry, present outside FREE (R2). -/
def Entry.origin : Entry → Option Origin
  | .free => none
  | .forming o .. => some o
  | .live o .. => some o
  | .moving o .. => some o
  | .retiring o .. => some o
  | .permanent o .. => some o

/-- SLOT of an entry, present in the redirecting states (R2). -/
def Entry.slot : Entry → Option SlotNo
  | .free => none
  | .forming .. => none
  | .live _ k .. => some k
  | .moving _ k .. => some k
  | .retiring _ k .. => some k
  | .permanent _ k .. => some k

/-- NEXT_SLOT of an entry (R2). -/
def Entry.nextSlot : Entry → Option SlotNo
  | .forming _ k _ => some k
  | .moving _ _ k .. => some k
  | _ => none

/-- CONTEXT of an entry (R2). -/
def Entry.context : Entry → Option Ctx
  | .forming _ _ c => some c
  | .moving _ _ _ c _ => some c
  | _ => none

/-- MOVES of an entry (R2). -/
def Entry.moves : Entry → Option Nat
  | .free => none
  | .forming .. => some 0
  | .live _ _ m _ => some m
  | .moving _ _ _ _ m => some m
  | .retiring _ _ m => some m
  | .permanent _ _ m _ => some m

/-- KIND of an entry: SOFT 0, PERMANENT 1 (R2). -/
def Entry.kindCode : Entry → Option Nat
  | .free => none
  | .permanent .. => some 1
  | _ => some 0

/-- STAGED of an entry, absent in FREE (R2). -/
def Entry.staged : Entry → Option Bool
  | .free => none
  | .live _ _ _ r => some r.isSome
  | _ => some false

/-- STORE_RECORD of an entry (R2). -/
def Entry.storeRecord : Entry → Option RecIx
  | .live _ _ _ r => r
  | .permanent _ _ _ r => some r
  | _ => none

/-- An entry given whole, in the order of R1. -/
def entryBytes (i : EntryIx) (e : Entry) : List Byte :=
  bigEndian 1 i.val ++ bigEndian 1 e.stateCode ++ optionalOrigin e.origin ++ optionalField 1 e.kindCode ++
  optionalField 1 (e.slot.map Fin.val) ++ optionalField 1 (e.nextSlot.map Fin.val) ++
  optionalField 1 (e.context.map Fin.val) ++ optionalField 1 e.moves ++ optionalField 1 (e.staged.map yesNo) ++
  optionalField 1 (e.storeRecord.map Fin.val)

/-- GRADE as a number. -/
def Grade.code : Grade → Nat
  | .untested => 0
  | .good => 1
  | .bad => 2

/-- STATE of a slot as a number. -/
def SlotState.code : SlotState → Nat
  | .sink => 0
  | .free => 1
  | .testing _ => 2
  | .target _ => 3
  | .mapped _ => 4
  | .permanent _ => 5

/-- FAULT_SEEN, present in TESTING (R28). -/
def SlotState.faultSeen : SlotState → Option Bool
  | .testing f => some f
  | _ => none

/-- ENTRY, present in TARGET, MAPPED and PERMANENT (R28). -/
def SlotState.entry : SlotState → Option EntryIx
  | .target e => some e
  | .mapped e => some e
  | .permanent e => some e
  | _ => none

/-- A slot record given whole, in the order of R28. -/
def slotBytes (r : Rank) (b : Bank) (k : SlotNo) (x : SlotRecord) : List Byte :=
  bigEndian 1 r.val ++ bigEndian 1 b.val ++ bigEndian 1 k.val ++ bigEndian 1 x.state.code ++ bigEndian 1 x.grade.code ++
  optionalField 1 (x.state.faultSeen.map yesNo) ++ optionalField 1 (x.state.entry.map Fin.val)

/-- STATE of a context as a number. -/
def ContextBody.stateCode : ContextBody → Nat
  | .idle _ => 0
  | .busy .offering _ => 1
  | .busy .copying _ => 2
  | .busy .fencing _ => 3
  | .busy .armed _ => 4
  | .busy .closing _ => 5

/-- DIRECTION as a number. -/
def Direction.code : Direction → Nat
  | .first => 0
  | .move => 1

/-- FENCED as a number. -/
def Fenced.code : Fenced → Nat
  | .no => 0
  | .requested => 1
  | .held => 2

/-- An abort reason as a number, 01h..0Dh (section 11.1). -/
def AbortReason.code : AbortReason → Nat
  | .refused => 1
  | .offerTimeout => 2
  | .roundTimeout => 3
  | .armTimeout => 4
  | .fenceTimeout => 5
  | .fenceBreach => 6
  | .incomplete => 7
  | .targetFault => 8
  | .cancelled => 9
  | .linkDown => 10
  | .linkReset => 11
  | .channelReset => 12
  | .warmReset => 13

/-- LAST_RESULT as a number: SUCCESS 00h (section 11.1). -/
def MigrationResult.code : MigrationResult → Nat
  | .success => 0
  | .aborted r => r.code

/-- CAPTURED in the order of R68. -/
def Captured.bytes (c : Captured) : List Byte :=
  bigEndian 1 c.maxRounds ++ bigEndian 1 c.offerTimeout ++ bigEndian 2 c.roundTimeout ++ bigEndian 1 c.fenceTimeout

/-- DIRECTION to CAPTURED of a context, in the order of R68, with the presence table of R69. -/
def ContextBody.bytes : ContextBody → List Byte
  | .idle none => absentField 27
  | .idle (some l) =>
    bigEndian 1 l.direction.code ++ absentField 1 ++ l.origin.bytes ++ absentField 1 ++ bigEndian 1 l.round ++
    absentField 18
  | .busy _ j =>
    bigEndian 1 j.direction.code ++ bigEndian 1 j.entry.val ++ j.origin.bytes ++ bigEndian 1 j.destSlot.val ++
    bigEndian 1 j.round ++ bigEndian 4 j.ordered.toNat ++ bigEndian 4 j.copied.toNat ++ bigEndian 4 j.dirty.toNat ++
    bigEndian 1 j.fenced.code ++ j.captured.bytes

/-- A context given whole: the fields of R68, the number of messages in PENDING and the remaining time of TIMER (R94). -/
def contextBytes (c : Ctx) (x : Context) : List Byte :=
  bigEndian 1 c.val ++ bigEndian 1 x.body.stateCode ++ x.body.bytes ++
  optionalField 1 (x.lastResult.map MigrationResult.code) ++ bigEndian 1 x.held.length ++ optionalField 3 x.timer

/-- SUBJECT: ORIGIN 00h, SLOT(s) the value s. -/
def Subject.code : Subject → Nat
  | .origin => 0
  | .slot s => s.val

/-- CLASS as a number. -/
def noteClassCode : NoteClass → Nat
  | .corrected => 1
  | .uncorrected => 2

/-- LAST_FAILURE as a number. -/
def FailureKind.code : FailureKind → Nat
  | .tableFull => 0
  | .noSlot => 1
  | .worn => 2

/-- A watch item given whole, in the order of R121. -/
def itemBytes (i : WatchItem) : List Byte :=
  i.key.origin.bytes ++ bigEndian 1 i.key.subject.code ++ bigEndian 2 i.score ++ bigEndian 2 i.notes ++
  bigEndian 1 (noteClassCode i.lastClass) ++ bigEndian 1 (yesNo i.nominated) ++
  optionalField 1 (i.inRepair.map Fin.val) ++ optionalField 1 (i.lastFailure.map FailureKind.code) ++
  bigEndian 4 i.created.toNat

/-- ON 01h, OFF 00h. -/
def switchCode (b : Bool) : Nat := if b then 1 else 0

/-- A profile given whole, in the order of R139. -/
def profileBytes (p : Profile) : List Byte :=
  bigEndian 1 p.weightCorrected ++ bigEndian 2 p.weightUncorrected ++ bigEndian 2 p.nominateThreshold ++
  bigEndian 2 p.decayInterval ++ bigEndian 2 p.decayStep ++ bigEndian 1 (switchCode p.autoRepair) ++
  bigEndian 1 (switchCode p.allowUntested) ++ bigEndian 1 p.maxRounds ++ bigEndian 1 p.offerTimeout ++
  bigEndian 2 p.roundTimeout ++ bigEndian 1 p.fenceTimeout

/-- STATE of a record with its fields, in the order of R153. -/
def RecordState.bytes : RecordState → List Byte
  | .blank => bigEndian 1 0 ++ absentField 6
  | .written o k => bigEndian 1 1 ++ o.bytes ++ bigEndian 1 k.val
  | .revoked o k => bigEndian 1 2 ++ o.bytes ++ bigEndian 1 k.val
  | .torn => bigEndian 1 3 ++ absentField 6

/-- LOAD_RESULT and ENTRY (R153). -/
def loadResultBytes : Option LoadResult → List Byte
  | some (.loaded e) => bigEndian 1 0 ++ bigEndian 1 e.val
  | some .skipped => bigEndian 1 1 ++ absentField 1
  | none => absentField 2

/-- ENGINE_STATE and OPERATION: kind, record, entry (R162, section 11.1). -/
def operationBytes : Option Operation → List Byte
  | none => bigEndian 1 0 ++ absentField 3
  | some (.burn r e _ _) => bigEndian 1 1 ++ bigEndian 1 0 ++ bigEndian 1 r.val ++ bigEndian 1 e.val
  | some (.revoke r) => bigEndian 1 1 ++ bigEndian 1 1 ++ bigEndian 1 r.val ++ absentField 1
  | some (.geometry _) => bigEndian 1 1 ++ bigEndian 1 2 ++ absentField 2

/-- LAST_OPERATION: kind, record, and FFh for the entry it does not carry (R164, section 11.1; DEDUCED, assumption
14). -/
def OperationKind.bytes : OperationKind → List Byte
  | .burn r => bigEndian 1 0 ++ bigEndian 1 r.val ++ absentField 1
  | .revoke r => bigEndian 1 1 ++ bigEndian 1 r.val ++ absentField 1
  | .geometry => bigEndian 1 2 ++ absentField 2

/-- LAST_OPERATION and LAST_OUTCOME: DONE 00h, FAILED 01h (R162). -/
def lastOperationBytes : Option LastOperation → List Byte
  | some l => l.kind.bytes ++ bigEndian 1 (if l.done then 0 else 1)
  | none => absentField 4

/-- STAGE_STATE, STAGE_ENTRY, STAGE_RECORD and the remaining time of EXPIRY_TIMER (R158, R169). -/
def stageBytes : Stage → List Byte
  | .empty => bigEndian 1 0 ++ absentField 5
  | .probation e r _ x => bigEndian 1 1 ++ bigEndian 1 e.val ++ bigEndian 1 r.val ++ bigEndian 3 x
  | .ready e r x => bigEndian 1 2 ++ bigEndian 1 e.val ++ bigEndian 1 r.val ++ bigEndian 3 x
  | .committed e r => bigEndian 1 3 ++ bigEndian 1 e.val ++ bigEndian 1 r.val ++ absentField 3

/-- RANKS and W. -/
def Geometry.bytes (g : Geometry) : List Byte := bigEndian 1 g.ranks.toNat ++ bigEndian 1 g.w.toNat

/-- The geometry area: BLANK, WRITTEN with RANKS and W, or TORN (R169). -/
def areaBytes : GeometryArea → List Byte
  | .blank => bigEndian 1 0 ++ absentField 2
  | .written g => bigEndian 1 1 ++ g.bytes
  | .torn => bigEndian 1 2 ++ absentField 2

/-- MODE, with RANKS and W where present (R171, R188). -/
def modeBytes : Mode → List Byte
  | .loading => bigEndian 1 0 ++ absentField 2
  | .unconfigured => bigEndian 1 1 ++ absentField 2
  | .active g => bigEndian 1 2 ++ g.bytes

/-- LINK_STATE as a number. -/
def LinkState.code : LinkState → Nat
  | .down => 0
  | .greeting => 1
  | .up => 2

/-- A payload: the fields the deciding rule names, in the order it names them (section 11.4). -/
def Payload.bytes : Payload → List Byte
  | .none => []
  | .entry i e g => entryBytes i e ++ bigEndian 2 g.toNat
  | .generation g => bigEndian 2 g.toNat
  | .released .free => bigEndian 1 0
  | .released .retiring => bigEndian 1 4
  | .slot r b k x => slotBytes r b k x
  | .grade g => bigEndian 1 g.code
  | .context c x => contextBytes c x
  | .launched c => bigEndian 1 c.val
  | .cancelled closing => bigEndian 1 (if closing then 5 else 0)
  | .item i n => itemBytes i ++ bigEndian 1 n
  | .itemCount n => bigEndian 1 n
  | .profile p run edit pending =>
    profileBytes p ++ bigEndian 1 run.val ++ bigEndian 1 edit.val ++ optionalField 1 (pending.map Fin.val)
  | .configured n g => bigEndian 1 n ++ bigEndian 2 g.toNat
  | .staged r => bigEndian 1 r.val
  | .storeRecord r l => r.bytes ++ loadResultBytes l
  | .storeStatus lock op last stage blanks area =>
    bigEndian 1 (if lock then 1 else 0) ++ operationBytes op ++ lastOperationBytes last ++ stageBytes stage ++
    bigEndian 1 blanks ++ areaBytes area
  | .conditions set mask mode link n count =>
    bigEndian 4 set.toNat ++ bigEndian 4 mask.toNat ++ modeBytes mode ++ bigEndian 1 link.code ++ bigEndian 1 n ++
    bigEndian 2 count
  | .conditionSet set => bigEndian 4 set.toNat

/-- What a read of the response buffer returns (R180, R195); the transaction itself has no row (assumption 17). -/
def Port.responseImage (p : Port) : List Byte :=
  match p.response with
  | .none => withCheck [0x00, 0x00]
  | .inProgress => withCheck [(p.inHand.map InHand.tag).getD 0, 0xFF]
  | .composed tag st payload => withCheck ([tag, st.code] ++ payload.bytes)

/-- Byte `n` of a read transaction; beyond the check byte of the image every byte reads FFh (R195). -/
def Port.responseByte (p : Port) (n : Nat) : Byte := p.responseImage.getD n 0xFF#8

/-- The frame on SB_TXD: the message whose transmission began last (R113). -/
def Link.wireFrame (l : Link) : List Byte := (l.wire.map OutMsg.frame).getD []

end Sys2Proof.Machine
end

