-- ==== Sys2Proof/Machine/Ops.lean ====
section
/-!
DEFINITION. The named operations over the tables of the part: one reader and one writer for each table, lookup and
allocation, what a freed entry takes with it, the claims on watch items, and the passing of time.
-/

namespace Sys2Proof.Machine

/-! ## Readers and writers -/

/-- Entry `i` of the Remap Table. -/
def State.entry (s : State) (i : EntryIx) : Entry := s.rmt.entries[i]

/-- Writes entry `i`. -/
def State.setEntry (s : State) (i : EntryIx) (e : Entry) : State :=
  { s with rmt := { s.rmt with entries := s.rmt.entries.set i.val e i.isLt } }

/-- The record of slot `k` of a bank. -/
def State.slot (s : State) (r : Rank) (b : Bank) (k : SlotNo) : SlotRecord := s.sld[r][b][k]

/-- Writes the record of slot `k` of a bank. -/
def State.setSlot (s : State) (r : Rank) (b : Bank) (k : SlotNo) (x : SlotRecord) : State :=
  { s with sld := s.sld.set r.val (s.sld[r].set b.val (s.sld[r][b].set k.val x k.isLt) b.isLt) r.isLt }

/-- The open-row record of a bank; `none` is CLOSED (R48). -/
def State.record (s : State) (r : Rank) (b : Bank) : Option OpenRow := s.ctr.records[r][b]

/-- Writes the open-row record of a bank. -/
def State.setRecord (s : State) (r : Rank) (b : Bank) (x : Option OpenRow) : State :=
  { s with ctr := { s.ctr with records := s.ctr.records.set r.val (s.ctr.records[r].set b.val x b.isLt) r.isLt } }

/-- Migration context `c`. -/
def State.ctx (s : State) (c : Ctx) : Context := s.mge.contexts[c]

/-- Writes migration context `c`. -/
def State.setCtx (s : State) (c : Ctx) (x : Context) : State :=
  { s with mge := { s.mge with contexts := s.mge.contexts.set c.val x c.isLt } }

/-- The run profile (R140, R141). -/
def State.runProfile (s : State) : Profile := s.pol.profiles[s.pol.run]

/-- The state of store record `k`, as its cells read (R155). -/
def State.storeRecord (s : State) (k : RecIx) : RecordState := (s.rst.cells[k]).read

/-- Programs the cells of store record `k`. -/
def State.setCells (s : State) (k : RecIx) (x : RecordCells) : State :=
  { s with rst := { s.rst with cells := s.rst.cells.set k.val x k.isLt } }

/-- Writes LOAD_RESULT and ENTRY of store record `k`. -/
def State.setLoadResult (s : State) (k : RecIx) (x : Option LoadResult) : State :=
  { s with rst := { s.rst with loadResults := s.rst.loadResults.set k.val x k.isLt } }

/-- Writes the stage register. -/
def State.setStage (s : State) (x : Stage) : State := { s with rst := { s.rst with stage := x } }

/-- Writes the watch items. -/
def State.setItems (s : State) (l : List WatchItem) : State := { s with wls := { s.wls with items := l } }

/-- The geometry in force, absent unless the part is ACTIVE (R171). -/
def State.geometry (s : State) : Option Geometry := s.mode.geometry

/-- Takes a fresh free value: the counter moves on (the value drawn is the `Config` constant at the old count). -/
def State.drawFree (s : State) : State := { s with freeCount := s.freeCount + 1 }

/-! ## Lookup and lowest free places -/

/-- The lookup of R4: the entry outside FREE whose RANK, BANK and ORIGIN_ROW equal the key. -/
def State.lookup (s : State) (o : Origin) : Option EntryIx :=
  (List.finRange 96).find? fun i => (s.entry i).origin == some o

/-- The lowest-numbered FREE entry (R8, R17). -/
def State.lowestFreeEntry (s : State) : Option EntryIx :=
  (List.finRange 96).find? fun i => s.entry i == .free

/-- Whether a context is IDLE. -/
def Context.isIdle (x : Context) : Bool :=
  match x.body with
  | .idle _ => true
  | .busy .. => false

/-- The lowest-numbered IDLE context (R70). -/
def State.lowestIdleCtx (s : State) : Option Ctx :=
  (List.finRange 4).find? fun c => (s.ctx c).isIdle

/-- The lowest-numbered FREE slot of a bank with a given grade (R32). -/
def State.lowestFreeSlot (s : State) (r : Rank) (b : Bank) (g : Grade) : Option SlotNo :=
  (List.finRange 16).find? fun k => s.slot r b k == ⟨.free, g⟩

/-- The allocation of R32: GOOD first, then UNTESTED under ALLOW_UNTESTED of the run profile. -/
def State.allocate (s : State) (r : Rank) (b : Bank) : Option SlotNo :=
  match s.lowestFreeSlot r b .good with
  | some k => some k
  | none => if s.runProfile.allowUntested then s.lowestFreeSlot r b .untested else none

/-- The lowest-numbered BLANK record (R159). -/
def State.lowestBlankRecord (s : State) : Option RecIx :=
  (List.finRange 40).find? fun k => s.storeRecord k == .blank

/-- The number of BLANK records (R169). -/
def State.blankRecords (s : State) : Nat :=
  (List.finRange 40).countP fun k => s.storeRecord k == .blank

/-! ## Entries and slots -/

/-- The generation increases by 1 and wraps from 65535 to 0 (R21). -/
def State.bumpGeneration (s : State) : State :=
  { s with rmt := { s.rmt with generation := s.rmt.generation + 1 } }

/-- A slot goes to FREE with its grade kept (R35, R36, R44). -/
def State.freeSlot (s : State) (r : Rank) (b : Bank) (k : SlotNo) : State :=
  s.setSlot r b k ⟨.free, (s.slot r b k).grade⟩

/-- A slot goes to FREE with grade BAD (R34, R35, R37). -/
def State.freeSlotBad (s : State) (r : Rank) (b : Bank) (k : SlotNo) : State :=
  s.setSlot r b k ⟨.free, .bad⟩

/-- A slot takes a state with its grade kept (R28). -/
def State.setSlotState (s : State) (r : Rank) (b : Bank) (k : SlotNo) (x : SlotState) : State :=
  s.setSlot r b k ⟨x, (s.slot r b k).grade⟩

/-- The entry after the abort of its migration (R12). -/
def Entry.restored : Entry → Entry
  | .forming _ _ _ => .free
  | .moving o k _ _ m => .live o k m none
  | e => e

/-- The entry after the cutover of its migration to slot `dest` (R10, R11). -/
def Entry.cutOver (dest : SlotNo) : Entry → Entry
  | .forming o _ _ => .live o dest 0 none
  | .moving o _ _ _ m => .live o dest (m + 1) none
  | e => e

/-- The entry after its stage has gone without a burn: STAGED no, STORE_RECORD absent (R18). -/
def Entry.unstaged : Entry → Entry
  | .live o k m _ => .live o k m none
  | e => e

/-- Whether the entry is RETIRING and the closed row of a report is its spare row (R15). -/
def Entry.endedBy (e : Entry) (g : Geometry) (x : CloseReport) : Bool :=
  match e with
  | .retiring o k _ => o.rank == x.rank && o.bank == x.bank && g.slotRow k == x.physical
  | _ => false

/-! ## Claims on watch items (R135) -/

/-- The item with a key, if any. -/
def State.findItem (s : State) (k : Key) : Option WatchItem := s.wls.items.find? fun i => i.key == k

/-- Removes the item with a key; nothing changes when there is none. -/
def State.removeItem (s : State) (k : Key) : State := s.setItems (s.wls.items.filter fun i => i.key != k)

/-- Changes the item with a key in place; nothing changes when there is none. -/
def State.changeItem (s : State) (k : Key) (f : WatchItem → WatchItem) : State :=
  s.setItems (s.wls.items.map fun i => if i.key = k then f i else i)

/-- Writes IN_REPAIR of the item with a key. -/
def State.setInRepair (s : State) (k : Key) (c : Option Ctx) : State :=
  s.changeItem k fun i => { i with inRepair := c }

/-- Writes LAST_FAILURE of the item with a key. -/
def State.setLastFailure (s : State) (k : Key) (f : Option FailureKind) : State :=
  s.changeItem k fun i => { i with lastFailure := f }

/-- Whether an item is a slot item of an origin. -/
def WatchItem.isSlotItemOf (i : WatchItem) (o : Origin) : Bool := i.key.origin == o && i.key.subject != .origin

/-- Removes every slot item of an origin (R14, R16). -/
def State.removeSlotItems (s : State) (o : Origin) : State :=
  s.setItems (s.wls.items.filter fun i => !i.isSlotItemOf o)

/-! ## Freeing an entry (R16) -/

/-- An entry leaves LIVE or RETIRING for FREE: its fields are discarded, the generation increases by 1, its slot goes to
FREE with its grade unchanged and the slot items of its origin are removed. -/
def State.freeEntry (s : State) (i : EntryIx) (o : Origin) (k : SlotNo) : State :=
  (((s.setEntry i .free).bumpGeneration).freeSlot o.rank o.bank k).removeSlotItems o

/-- The entry, if RETIRING, leaves for FREE (R15, R25). -/
def State.freeIfRetiring (s : State) (i : EntryIx) : State :=
  match s.entry i with
  | .retiring o k _ => s.freeEntry i o k
  | _ => s

/-- The RETIRING entry that a closed physical row serves, if any (R15). -/
def State.retiringAt (s : State) (g : Geometry) (x : CloseReport) : Option EntryIx :=
  (List.finRange 96).find? fun i => (s.entry i).endedBy g x

/-- The Remap Table takes one close report (R15). -/
def State.tableClose (s : State) (x : CloseReport) : State :=
  match s.geometry with
  | some g => match s.retiringAt g x with
    | some i => s.freeIfRetiring i
    | none => s
  | none => s

/-- The Remap Table takes every close report made and not yet taken, oldest first (DEDUCED, assumption 7). -/
def State.tableTakesCloses (s : State) : State :=
  s.rmt.closes.foldl State.tableClose { s with rmt := { s.rmt with closes := [] } }

/-! ## The stage register (R161) -/

/-- Whether a stage in PROBATION or READY is held for entry `i`. -/
def Stage.heldFor (x : Stage) (i : EntryIx) : Bool :=
  match x with
  | .probation e .. => e == i
  | .ready e .. => e == i
  | _ => false

/-- The entry of a stage in PROBATION or READY, if one is held. -/
def Stage.cancellable : Stage → Option EntryIx
  | .probation e .. => some e
  | .ready e .. => some e
  | _ => none

/-- The stage ends without a burn: the register becomes EMPTY and the entry is unmarked (R160, R161). -/
def State.dropStage (s : State) (i : EntryIx) : State := (s.setStage .empty).setEntry i (s.entry i).unstaged

/-- A claim that cancels any stage in PROBATION or READY and raises nothing (R167, R170). -/
def State.cancelStage (s : State) : State :=
  match s.rst.stage.cancellable with
  | some i => s.dropStage i
  | none => s

/-- A claim that cancels the stage held for entry `i` (R14). -/
def State.cancelStageFor (s : State) (i : EntryIx) : State := if s.rst.stage.heldFor i then s.dropStage i else s

/-! ## The policy selection and the decay timer -/

/-- A pending run-profile selection takes effect (R145). -/
def State.applyPendingRun (s : State) : State :=
  match s.pol.pendingRun with
  | some p => { s with pol := { s.pol with run := p, pendingRun := none } }
  | none => s

/-- The decay timer starts with the DECAY_INTERVAL of the run profile (R133). -/
def State.startDecay (s : State) : State :=
  { s with wls := { s.wls with decayTimer := some s.runProfile.decayInterval } }

/-! ## Time -/

/-- One ms off a timer that runs; a stopped timer stays stopped. -/
def tickTimer (t : Option Nat) : Option Nat := t.map fun n => n - 1

/-- One ms off the timers of the stage register (R158). -/
def Stage.tick : Stage → Stage
  | .probation e r p x => .probation e r (p - 1) (x - 1)
  | .ready e r x => .ready e r (x - 1)
  | x => x

/-- One millisecond of the reference clock passes: every running timer has one ms less to run, down to 0. No timer runs
while the power-on reset input is asserted (R172). DESIGN CHOICE, assumption 1. -/
def State.tick (s : State) : State :=
  if s.powerHeld then s
  else
    { s with
      mge := { s.mge with contexts := s.mge.contexts.map fun x => { x with timer := tickTimer x.timer } }
      sbl := { s.sbl with retryTimer := tickTimer s.sbl.retryTimer }
      wls := { s.wls with decayTimer := tickTimer s.wls.decayTimer }
      rst := { s.rst with stage := s.rst.stage.tick } }

end Sys2Proof.Machine
end

