-- ==== Sys2Proof/Machine/LinkOps.lean ====
section
/-!
DEFINITION. The outbound side of the Sideband Link: queueing, PENDING and WAITING, greetings at the head, removal unsent,
and entry to GREETING (R102, R113 to R117).
-/

namespace Sys2Proof.Machine

/-- Writes the outbound queue. -/
def State.setOutbound (s : State) (l : List OutMsg) : State := { s with sbl := { s.sbl with outbound := l } }

/-- Writes WAITING. -/
def State.setWaiting (s : State) (l : List Ctx) : State := { s with sbl := { s.sbl with waiting := l } }

/-- Whether OUTBOUND holds fewer than 8 messages (R113). -/
def State.outboundRoom (s : State) : Bool := s.sbl.outbound.length < Config.outboundCapacity

/-- The timer a message starts when it is queued, by the state of its context (R75). -/
def Context.timerFor (x : Context) (m : OutMsg) : Option Nat :=
  match x.body, m with
  | .busy .offering j, .copyOrder .. => some j.captured.offerTimeout
  | .busy .fencing j, .fenceOrder _ _ .set _ => some j.captured.fenceTimeout
  | .busy .closing j, .fenceOrder _ _ .release _ => some j.captured.fenceTimeout
  | _, _ => none

/-- The context with the timer of a queued message started. -/
def Context.queued (x : Context) (m : OutMsg) : Context :=
  match x.timerFor m with
  | some n => { x with timer := some n }
  | none => x

/-- A message of context `c` joins OUTBOUND at the tail; the timer it starts, if any, starts now, unless the message had
started it before it was displaced (R76). -/
def State.queueTail (s : State) (c : Ctx) (h : HeldMsg) : State :=
  (if h.started then s else s.setCtx c ((s.ctx c).queued h.msg)).setOutbound (s.sbl.outbound ++ [h.msg])

/-- Context `c` makes a message: queued at the tail when there is room, otherwise held pending (R76, R114). -/
def State.makeMsg (s : State) (c : Ctx) (m : OutMsg) : State :=
  if s.outboundRoom then s.queueTail c ⟨m, false⟩
  else
    (s.setCtx c { s.ctx c with held := (s.ctx c).held ++ [⟨m, false⟩] }).setWaiting (s.sbl.waiting ++ [c])

/-- At most `n` waiting messages are queued, in the order of WAITING, while room remains (R114). -/
def State.refillUpTo : Nat → State → State
  | 0, s => s
  | n + 1, s =>
    match s.sbl.waiting with
    | [] => s
    | c :: rest =>
      if s.outboundRoom then
        match (s.ctx c).held with
        | [] => (s.setWaiting rest).refillUpTo n
        | h :: hs =>
          (((s.setWaiting rest).setCtx c { s.ctx c with held := hs }).queueTail c h).refillUpTo n
      else s

/-- Room that has freed is used for waiting messages, in the same event (R114). -/
def State.refill (s : State) : State := s.refillUpTo s.sbl.waiting.length

/-- The context of a context message; greetings have none, and a STALE_NOTE is not held pending (R115). -/
def OutMsg.owner : OutMsg → Option Ctx
  | .copyOrder c .. => some c
  | .cancelOrder c _ => some c
  | .fenceOrder c .. => some c
  | .staleNote .. => none
  | .hello => none
  | .helloAck => none

/-- The message at the tail of a full OUTBOUND is displaced: a context message returns to the head of its context's
PENDING and the context to the head of WAITING, a STALE_NOTE is dropped (R115). -/
def State.displaceTail (s : State) : State :=
  match s.sbl.outbound.getLast? with
  | none => s
  | some m =>
    let s1 := s.setOutbound s.sbl.outbound.dropLast
    match m.owner with
    | some c => (s1.setCtx c { s1.ctx c with held := ⟨m, true⟩ :: (s1.ctx c).held }).setWaiting (c :: s1.sbl.waiting)
    | none => s1

/-- A greeting is queued at the head of OUTBOUND, unless the same greeting is already there unsent (R103, R115). -/
def State.queueGreeting (s : State) (m : OutMsg) : State :=
  if s.sbl.outbound.contains m then s
  else
    let s1 := if s.outboundRoom then s else s.displaceTail
    s1.setOutbound (m :: s1.sbl.outbound)

/-- A STALE_NOTE is queued at the tail when there is room, and dropped otherwise (R116). -/
def State.sendStale (s : State) (m : OutMsg) : State :=
  if s.outboundRoom then s.setOutbound (s.sbl.outbound ++ [m]) else s

/-- Messages are removed from OUTBOUND unsent; the room they leave is used at once (R117, R114). -/
def State.purgeOutbound (s : State) (keep : OutMsg → Bool) : State :=
  (s.setOutbound (s.sbl.outbound.filter keep)).refill

/-- PENDING of context `c` is emptied and its items leave WAITING (R114). -/
def State.dropHeld (s : State) (c : Ctx) : State :=
  (s.setCtx c { s.ctx c with held := [] }).setWaiting (s.sbl.waiting.filter fun d => d != c)

/-- Entry to GREETING: BAD_RUN 0, OUTBOUND and WAITING emptied, a HELLO queued, the retry timer started (R102). -/
def State.enterGreeting (s : State) : State :=
  { s with sbl := { s.sbl with
      state := .greeting, badRun := 0, outbound := [.hello], waiting := [], retryTimer := some Config.retryInterval } }

/-- The greeting is complete: UP, retry timer stopped, an unsent HELLO removed (R104, R105). -/
def State.linkUp (s : State) : State :=
  ({ s with sbl := { s.sbl with state := .up, retryTimer := none } }).purgeOutbound fun m => m != OutMsg.hello

/-- A good frame resets BAD_RUN (R109). -/
def State.goodFrame (s : State) : State := { s with sbl := { s.sbl with badRun := 0 } }

end Sys2Proof.Machine
end

