-- ==== Sys2Proof/Machine/MigrationOps.lean ====
section
/-!
DEFINITION. The Migration Engine's shared operations: ending a migration (R85 to R89), rounds and the fence (R72, R79, R80),
the reports and the queries that take them (R73, R74, R83, R84), the silent endings (R95 to R98) and the launch (R70, R71).
-/

namespace Sys2Proof.Machine

/-! ## Contexts -/

/-- The job of a context in an active state: OFFERING, COPYING, FENCING or ARMED (R69). -/
def Context.activeJob (x : Context) : Option Job :=
  match x.body with
  | .busy .closing _ => none
  | .busy _ j => some j
  | .idle _ => none

/-- Moves a context to a state with its job; the timer of the state left stops (R75). -/
def State.enterState (s : State) (c : Ctx) (st : BusyState) (j : Job) : State :=
  s.setCtx c { s.ctx c with body := .busy st j, timer := none }

/-- The same, with the timer of the state entered started at once (R75). -/
def State.enterTimed (s : State) (c : Ctx) (st : BusyState) (j : Job) (ms : Nat) : State :=
  s.setCtx c { s.ctx c with body := .busy st j, timer := some ms }

/-- Changes the job of a context without a change of state; its timer runs on. -/
def State.setJob (s : State) (c : Ctx) (st : BusyState) (j : Job) : State :=
  s.setCtx c { s.ctx c with body := .busy st j }

/-- A context enters IDLE: it keeps what R69 marks present there, empties PENDING and stops TIMER. -/
def State.enterIdle (s : State) (c : Ctx) (j : Job) : State :=
  (s.setCtx c { s.ctx c with body := .idle (some ⟨j.direction, j.origin, j.round⟩), timer := none }).dropHeld c

/-- Writes LAST_RESULT. -/
def State.setLastResult (s : State) (c : Ctx) (r : MigrationResult) : State :=
  s.setCtx c { s.ctx c with lastResult := some r }

/-- The key of the watch item a migration is for: subject ORIGIN for FIRST, the old slot for MOVE (R71, R85). -/
def State.migrationKey (s : State) (j : Job) : Key :=
  match j.direction, (s.entry j.entry).slot with
  | .move, some k => ⟨j.origin, .slot k⟩
  | _, _ => ⟨j.origin, .origin⟩

/-- The query of R61 as R79 and R83 read it: the record of the origin's bank is OPEN on the origin in role SOURCE(c). -/
def State.sourceOpen (s : State) (c : Ctx) (j : Job) : Bool :=
  match s.record j.origin.rank j.origin.bank with
  | some x => x.issued == j.origin.row && x.role == .source c
  | none => false

/-- Whether COPIED is full and DIRTY empty (R78). -/
def Job.clean (j : Job) : Bool := j.copied == BlockSet.full && j.dirty == 0

/-! ## Abort (R87 to R89) -/

/-- The silent reasons: no message is made for them (R87). -/
def AbortReason.silent : AbortReason → Bool
  | .linkDown => true
  | .linkReset => true
  | .channelReset => true
  | .warmReset => true
  | _ => false

/-- The destination slot of an aborted migration goes to FREE, BAD when the reason is TARGET_FAULT (R35). -/
def State.abortSlot (s : State) (j : Job) (reason : AbortReason) : State :=
  if reason = .targetFault then s.freeSlotBad j.origin.rank j.origin.bank j.destSlot
  else s.freeSlot j.origin.rank j.origin.bank j.destSlot

/-- The changes every abort makes before its messages (R88). -/
def State.abortChanges (s : State) (c : Ctx) (j : Job) (reason : AbortReason) : State :=
  ((((((s.setEntry j.entry (s.entry j.entry).restored).abortSlot j reason).setInRepair (s.migrationKey j) none).setLastResult
    c (.aborted reason)).raiseIf (reason != .warmReset) .migrationFailed)).dropHeld c

/-- The messages of an abort for a messaging reason, and the state it takes (R89). A CANCEL_ORDER that finds no
room goes with PENDING at the entry to IDLE (R69; DEDUCED, assumption 6). -/
def State.abortMessages (s : State) (c : Ctx) (j : Job) : State :=
  if j.fenced = .no then (s.makeMsg c (.cancelOrder c j.round)).enterIdle c j
  else
    ((s.enterState c .closing j).makeMsg c (.cancelOrder c j.round)).makeMsg c (.fenceOrder c j.round .release j.origin)

/-- Aborts the migration of a context in an active state; in any other state nothing changes. -/
def State.abort (s : State) (c : Ctx) (reason : AbortReason) : State :=
  match (s.ctx c).activeJob with
  | none => s
  | some j =>
    if reason.silent then (s.abortChanges c j reason).enterIdle c j
    else (s.abortChanges c j reason).abortMessages c j

/-- The silent ending of one context: an active migration aborts, CLOSING enters IDLE with LAST_RESULT kept (R95). -/
def State.endSilently (s : State) (reason : AbortReason) (c : Ctx) : State :=
  match (s.ctx c).body with
  | .idle _ => s
  | .busy .closing j => s.enterIdle c j
  | .busy _ _ => s.abort c reason

/-- The silent ending of every context (R95 to R98). -/
def State.endAllSilently (s : State) (reason : AbortReason) : State :=
  (List.finRange 4).foldl (fun s c => s.endSilently reason c) s

/-- The contexts that a silent ending would end. -/
def State.busyContexts (s : State) : List Ctx := (List.finRange 4).filter fun c => !(s.ctx c).isIdle

/-! ## Cutover (R85, R86) -/

/-- The slots at a cutover: the destination becomes MAPPED, the old slot of a move FREE and BAD (R34). -/
def State.cutoverSlots (s : State) (j : Job) : State :=
  let s1 := s.setSlotState j.origin.rank j.origin.bank j.destSlot (.mapped j.entry)
  match j.direction, (s.entry j.entry).slot with
  | .move, some k => s1.freeSlotBad j.origin.rank j.origin.bank k
  | _, _ => s1

/-- Entry, slots, generation, watch item, LAST_RESULT and condition of a cutover (R85, R86). -/
def State.cutoverChanges (s : State) (c : Ctx) (j : Job) : State :=
  (((((((s.cutoverSlots j).setEntry j.entry ((s.entry j.entry).cutOver j.destSlot)).bumpGeneration).removeItem
    (s.migrationKey j)).setLastResult c .success).raise .migrationDone))

/-- A cutover: with the fence held the context makes the release and enters CLOSING, otherwise it enters IDLE (R86). -/
def State.cutover (s : State) (c : Ctx) (j : Job) : State :=
  if j.fenced = .held then
    ((s.cutoverChanges c j).enterState c .closing j).makeMsg c (.fenceOrder c j.round .release j.origin)
  else (s.cutoverChanges c j).enterIdle c j

/-! ## Rounds and the fence -/

/-- The job at the start of the next round (R72). -/
def Job.nextRound (j : Job) : Job :=
  let ordered := ~~~j.copied ||| j.dirty
  { j with round := j.round + 1, ordered := ordered, copied := j.copied &&& ~~~ordered, dirty := 0 }

/-- The next round starts: COPY_ORDER is made and the context enters OFFERING (R72). -/
def State.startRound (s : State) (c : Ctx) (j : Job) : State :=
  let k := j.nextRound
  (s.enterState c .offering k).makeMsg c (.copyOrder c k.round k.origin k.destSlot k.ordered)

/-- The fence is asked for: FENCE_ORDER(SET) is made and the context enters FENCING (R80, R84). -/
def State.requestFence (s : State) (c : Ctx) (j : Job) : State :=
  (s.enterState c .fencing { j with fenced := .requested }).makeMsg c (.fenceOrder c j.round .set j.origin)

/-- After a clean round: ARMED while the source is open, otherwise the cutover at once (R79). -/
def State.armOrCutover (s : State) (c : Ctx) (j : Job) : State :=
  if s.sourceOpen c j then s.enterTimed c .armed j j.captured.roundTimeout else s.cutover c j

/-- After an unclean round (R80). -/
def State.afterUncleanRound (s : State) (c : Ctx) (j : Job) : State :=
  if j.round < j.captured.maxRounds then s.startRound c j
  else if j.fenced = .no then s.requestFence c j
  else s.abort c .incomplete

/-! ## Reports (R73, R74, R83, R84) -/

/-- A source write that belongs to a context with the fence not held: the block joins DIRTY, and in ARMED the copy goes
back to rounds or to the fence (R73, R84). -/
def State.dirtyBlock (s : State) (c : Ctx) (st : BusyState) (j : Job) (b : Fin 32) : State :=
  let k := { j with dirty := BlockSet.insert b j.dirty }
  if st = .armed ∧ j.fenced = .no then
    if j.round < j.captured.maxRounds then s.startRound c k else s.requestFence c k
  else s.setJob c st k

/-- Takes a source write report against context `c` (R73, R82). -/
def State.takeSourceWrite (s : State) (c : Ctx) (o : Origin) (b : Fin 32) : State :=
  match (s.ctx c).body with
  | .idle _ => s
  | .busy .closing _ => s
  | .busy st j =>
    if j.origin = o then
      if j.fenced = .held then s.abort c .fenceBreach else s.dirtyBlock c st j b
    else s

/-- Takes a destination write report against context `c` (R73). -/
def State.takeDestWrite (s : State) (c : Ctx) (r : Rank) (k : Bank) (slot : Nat) (b : Fin 32) : State :=
  match (s.ctx c).body with
  | .idle _ => s
  | .busy .closing _ => s
  | .busy st j =>
    if j.origin.rank = r ∧ j.origin.bank = k ∧ j.destSlot.val = slot ∧ BlockSet.has j.ordered b then
      s.setJob c st { j with copied := BlockSet.insert b j.copied }
    else s

/-- The ARMED context that a close report belongs to (R83). -/
def State.closeBelongs (s : State) (r : Rank) (b : Bank) (issued : Nat) (role : Role) : Option Ctx :=
  match role with
  | .source c => match (s.ctx c).body with
    | .busy .armed j => if j.origin = ⟨r, b, issued⟩ then some c else none
    | _ => none
  | _ => none

/-- The decision of R83 once the reports made before the answer are in: cutover unless the source is open again. -/
def State.decideClose (s : State) (c : Ctx) : State :=
  match (s.ctx c).body with
  | .busy .armed j => if s.sourceOpen c j then s else s.cutover c j
  | _ => s

/-- Takes a list of reports in order, in one event. A close that belongs to an ARMED context queries the record, so the
reports behind it are taken before its decision (R74). -/
def State.takeReports : List Report → State → State
  | [], s => s
  | .sourceWrite c r b row k :: rest, s => takeReports rest (s.takeSourceWrite c ⟨r, b, row⟩ k)
  | .destWrite c r b slot k :: rest, s => takeReports rest (s.takeDestWrite c r b slot k)
  | .close r b issued _ role :: rest, s =>
    match s.closeBelongs r b issued role with
    | some c => (takeReports rest s).decideClose c
    | none => takeReports rest s

/-- Writes the report queue. -/
def State.setReports (s : State) (l : List Report) : State := { s with mge := { s.mge with reports := l } }

/-- Every write and close report made and not yet taken is taken, as at a query (R74). A channel reset report not yet taken is
not brought in: it waits for its own event (R97; DESIGN CHOICE, assumption 21). -/
def State.takeAllReports (s : State) : State := State.takeReports s.mge.reports (s.setReports [])

/-- Whether taking a report makes a query, which takes the whole queue with it (R83). -/
def State.queries (s : State) : Report → Bool
  | .close r b issued _ role => (s.closeBelongs r b issued role).isSome
  | _ => false

/-- The report at the head of the queue is taken in an event of its own; a close that belongs to an ARMED context brings
the rest of the queue in with it (R74, R83). -/
def State.takeHeadReport (s : State) : State :=
  match s.mge.reports with
  | [] => s
  | x :: rest => if s.queries x then s.takeAllReports else State.takeReports [x] (s.setReports rest)

/-- The translator makes a report: it joins the tail of the queue, and when the queue is full the head is taken first, in
the same event (R74). -/
def State.makeReport (s : State) (x : Report) : State :=
  let s1 := if s.mge.reports.length < Config.reportCapacity then s else s.takeHeadReport
  s1.setReports (s1.mge.reports ++ [x])

/-! ## Launch (R70, R71) -/

/-- Why a launch is refused (R70, R8, R9). -/
inductive LaunchRefusal where
  | notReady
  | linkDown
  | noContext
  | outOfRange
  | present
  | notFound
  | notMovable
  | tableFull
  | noSlot
  deriving DecidableEq, Repr

/-- The outcome of a launch: the context it took, with the state after it, or the reason it was refused for. -/
inductive Launch where
  | launched (c : Ctx) (s : State)
  | refused (r : LaunchRefusal)
  deriving DecidableEq, Repr

/-- The launch notice: a bank open on the origin takes the role SOURCE(c) (R60). -/
def State.launchNotice (s : State) (c : Ctx) (o : Origin) : State :=
  match s.record o.rank o.bank with
  | some x => if x.issued = o.row then s.setRecord o.rank o.bank (some { x with role := .source c }) else s
  | none => s

/-- The four values a launch captures from the run profile (R71). -/
def Profile.captured (p : Profile) : Captured := ⟨p.maxRounds, p.offerTimeout, p.roundTimeout, p.fenceTimeout⟩

/-- The job of a launched context: round 1 orders the whole row (R71). -/
def firstJob (p : Profile) (d : Direction) (i : EntryIx) (o : Origin) (k : SlotNo) : Job :=
  { direction := d, entry := i, origin := o, destSlot := k, round := 1, ordered := BlockSet.full, copied := 0, dirty := 0,
    fenced := .no, captured := p.captured }

/-- The effects of a granted launch: entry, slot, notice, context, watch item, order (R71). -/
def State.launch (s : State) (c : Ctx) (d : Direction) (i : EntryIx) (e : Entry) (o : Origin) (k : SlotNo) (key : Key) :
    State :=
  let j := firstJob s.runProfile d i o k
  (((((s.setEntry i e).setSlotState o.rank o.bank k (.target i)).launchNotice c o).enterState c .offering j).setInRepair
    key (some c)).makeMsg c (.copyOrder c 1 o k BlockSet.full)

/-- The checks of R70 before the claim: the part ACTIVE, the link UP, a context IDLE, in that order. -/
def State.launchContext (s : State) : Except LaunchRefusal Ctx :=
  match s.geometry with
  | none => .error .notReady
  | some _ =>
    if s.sbl.state = .up then
      match s.lowestIdleCtx with
      | some c => .ok c
      | none => .error .noContext
    else .error .linkDown

/-- A FIRST launch for an origin: the checks of R70 and the claim of R8. -/
def State.launchFirst (s : State) (o : Origin) : Launch :=
  match s.launchContext with
  | .error r => .refused r
  | .ok c =>
    match s.geometry with
    | none => .refused .notReady
    | some g =>
      if g.hasRank o.rank ∧ o.row < g.dataRows then
        match s.lookup o with
        | some _ => .refused .present
        | none =>
          match s.lowestFreeEntry with
          | none => .refused .tableFull
          | some i =>
            match s.allocate o.rank o.bank with
            | none => .refused .noSlot
            | some k => .launched c (s.launch c .first i (.forming o k c) o k ⟨o, .origin⟩)
      else .refused .outOfRange

/-- A MOVE launch for an entry: the checks of R70 and the claim of R9. -/
def State.launchMove (s : State) (i : EntryIx) : Launch :=
  match s.launchContext with
  | .error r => .refused r
  | .ok c =>
    match s.entry i with
    | .free => .refused .notFound
    | .live o old m none =>
      if m < Config.maxMoves then
        match s.allocate o.rank o.bank with
        | none => .refused .noSlot
        | some k => .launched c (s.launch c .move i (.moving o old k c m) o k ⟨o, .slot old⟩)
      else .refused .notMovable
    | _ => .refused .notMovable

end Sys2Proof.Machine
end

