-- ==== Sys2Proof/Machine/WatchOps.lean ====
section
/-!
DEFINITION. The Watch List's shared operations: sorting a note, slot notes, scoring, eviction, nomination and decay (R123 to
R134), and the Slot Directory's answer to a note on an alias row (R37).
-/

namespace Sys2Proof.Machine

/-- The context in an active state whose ENTRY is entry `i` (R37, R129). -/
def State.activeCtxOf (s : State) (i : EntryIx) : Option Ctx :=
  (List.finRange 4).find? fun c => match (s.ctx c).activeJob with
    | some j => j.entry == i
    | none => false

/-- A note on the alias row of slot `k`, decided by the slot's state (R37). A TARGET slot that no active context fills, which R29
rules out, is left alone (DESIGN CHOICE, assumption 13). -/
def State.slotNote (s : State) (r : Rank) (b : Bank) (k : SlotNo) : State :=
  match (s.slot r b k).state with
  | .free => s.freeSlotBad r b k
  | .testing _ => s.setSlotState r b k (.testing true)
  | .target i => match s.activeCtxOf i with
    | some c => s.abort c .targetFault
    | none => s
  | .sink => s.raise .badNote
  | .mapped _ => s.raise .badNote
  | .permanent _ => s.raise .badNote

/-- The class weight under a profile (R127). -/
def Profile.classWeight (p : Profile) : NoteClass → Nat
  | .corrected => p.weightCorrected
  | .uncorrected => p.weightUncorrected

/-- The weight of a note: the class weight times REPEAT, limited to 1023 (R127). -/
def Profile.noteWeight (p : Profile) (cls : NoteClass) (rep : Byte) : Nat :=
  min Config.maxScore (p.classWeight cls * rep.toNat)

/-- A note scored against an item (R128). -/
def WatchItem.scored (i : WatchItem) (cls : NoteClass) (weight : Nat) : WatchItem :=
  { i with score := min Config.maxScore (i.score + weight), notes := min Config.maxCount16 (i.notes + 1), lastClass := cls }

/-- The item that may be evicted: not nominated, of the lowest SCORE, the oldest of those (R130). -/
def victimOf : List WatchItem → Option WatchItem
  | [] => none
  | i :: rest =>
    if i.nominated then victimOf rest
    else match victimOf rest with
      | none => some i
      | some v => if i.score ≤ v.score then some i else some v

/-- A new item joins at the tail with the creation counter's value (R122, R129). -/
def State.createItem (s : State) (k : Key) (cls : NoteClass) (weight : Nat) (running : Option Ctx) : State :=
  { s with wls := { s.wls with
      items := s.wls.items ++ [{ key := k, score := weight, notes := 1, lastClass := cls, nominated := false,
                                 inRepair := running, lastFailure := none, created := s.wls.counter }]
      counter := s.wls.counter + 1 } }

/-- A key is handed to the Policy Unit's nomination queue: not twice, and not when the queue is full (R148). -/
def State.handNomination (s : State) (k : Key) : State :=
  if s.pol.nominations.contains k ∨ s.pol.nominations.length ≥ Config.nominationCapacity then s
  else { s with pol := { s.pol with nominations := s.pol.nominations ++ [k] } }

/-- The nomination test after a note is scored against the item with a key (R131). -/
def State.testNomination (s : State) (k : Key) : State :=
  match s.findItem k with
  | some i =>
    if s.runProfile.nominateThreshold ≤ i.score ∧ i.nominated = false then
      ((s.changeItem k fun x => { x with nominated := true }).raise .nomination).handNomination k
    else s
  | none => s

/-- A note is scored under a key: an existing item in place, otherwise a new item when the weight is above 0 and there is
room or a victim of lower score (R127 to R131). -/
def State.scoreNote (s : State) (k : Key) (cls : NoteClass) (weight : Nat) (running : Option Ctx) : State :=
  match s.findItem k with
  | some _ => (s.changeItem k fun i => i.scored cls weight).testNomination k
  | none =>
    if weight = 0 then s
    else if s.wls.items.length < Config.watchCapacity then (s.createItem k cls weight running).testNomination k
    else match victimOf s.wls.items with
      | some v =>
        if v.score < weight then ((s.removeItem v.key).createItem k cls weight running).testNomination k
        else s.raise .watchFull
      | none => s.raise .watchFull

/-- SUBJECT of a data-row note by the entry found: the serving slot, or ORIGIN (R125). -/
def Entry.subject (e : Entry) : Subject :=
  match e.slot with
  | some k => .slot k
  | none => .origin

/-- IN_REPAIR of a new item: the context of the migration already running for its subject (R129). -/
def State.runningFor (s : State) (i : EntryIx) : Option Ctx :=
  match s.entry i with
  | .forming .. => s.activeCtxOf i
  | .moving .. => s.activeCtxOf i
  | _ => none

/-- A note charged to a staged entry's slot cancels the stage unless its burn is in flight (R126, R161). -/
def State.noteOnStage (s : State) (i : EntryIx) : State :=
  if s.rst.stage.heldFor i ∧ (s.entry i).staged = some true then (s.dropStage i).raise .stageCancelled else s

/-- A note on a data row: attribution, the claim on the stage, scoring (R125 to R127). -/
def State.dataNote (s : State) (o : Origin) (cls : NoteClass) (rep : Byte) : State :=
  let w := s.runProfile.noteWeight cls rep
  match s.lookup o with
  | none => s.scoreNote ⟨o, .origin⟩ cls w none
  | some i => (s.noteOnStage i).scoreNote ⟨o, (s.entry i).subject⟩ cls w (s.runningFor i)

/-- The Watch List takes an error note (R123 to R125). -/
def State.takeNote (s : State) (n : ErrorNote) : State :=
  match s.geometry with
  | none => s
  | some g =>
    match rankOf g n.rank, indexOf 16 n.bank with
    | some r, some b =>
      if n.row.toNat < g.n ∧ n.column.toNat ≤ 127 then
        if n.row.toNat < g.dataRows then s.dataNote ⟨r, b, n.row.toNat⟩ n.cls n.rep
        else s.slotNote r b (g.slotOf n.row.toNat)
      else s.raise .badNote
    | _, _ => s.raise .badNote

/-! ## Decay (R134) -/

/-- One item at a decay boundary: a non-nominated score falls, not below 0. -/
def WatchItem.decayed (i : WatchItem) (step : Nat) : WatchItem :=
  if i.nominated then i else { i with score := i.score - step }

/-- Whether an item stays on the list after decay. -/
def WatchItem.stays (i : WatchItem) : Bool := i.nominated || i.score != 0

/-- Step 1 of a decay boundary. -/
def State.decayItems (s : State) : State :=
  s.setItems ((s.wls.items.map fun i => i.decayed s.runProfile.decayStep).filter WatchItem.stays)

end Sys2Proof.Machine
end

