-- ==== Sys2Proof/Machine/PolicyOps.lean ====
section
/-!
DEFINITION. The Policy Unit's shared operations: what a nominated item calls for (R147), the outcome of an attempt (R150) and
the order of a retry pass (R149).
-/

namespace Sys2Proof.Machine

/-- The decisions of R147. -/
inductive Decision where
  | first (o : Origin)
  | move (i : EntryIx)
  | worn
  | skip
  deriving DecidableEq, Repr

/-- The decision for a slot item by the entry found for its row (R147). -/
def slotDecision (k : SlotNo) (i : EntryIx) : Entry → Decision
  | .live _ k' m staged =>
    if k' = k then
      if m < Config.maxMoves then (if staged.isSome then .skip else .move i) else .worn
    else .skip
  | .permanent _ k' _ _ => if k' = k then .worn else .skip
  | _ => .skip

/-- The decision of R147 from the item's key and the lookup. -/
def State.decisionFor (s : State) (k : Key) : Decision :=
  match k.subject, s.lookup k.origin with
  | .origin, none => .first k.origin
  | .origin, some _ => .skip
  | .slot _, none => .skip
  | .slot n, some i => slotDecision n i (s.entry i)

/-- An attempt that ends in a kind of failure: the condition is raised and LAST_FAILURE takes the kind, unless it already
has it (R150). -/
def State.launchFailed (s : State) (k : Key) (last : Option FailureKind) (f : FailureKind) (cond : Condition) : State :=
  if last = some f then s else (s.raise cond).setLastFailure k (some f)

/-- The outcome of a policy launch for an item (R150). -/
def State.afterLaunch (s : State) (k : Key) (last : Option FailureKind) : Launch → State
  | .launched _ t => t.setLastFailure k none
  | .refused .tableFull => s.launchFailed k last .tableFull .tableFull
  | .refused .noSlot => s.launchFailed k last .noSlot .noSlot
  | .refused _ => s

/-- The Policy Unit acts on a decision for an item (R147, R150, R151). -/
def State.actOn (s : State) (k : Key) (last : Option FailureKind) : Decision → State
  | .first o => s.afterLaunch k last (s.launchFirst o)
  | .move i => s.afterLaunch k last (s.launchMove i)
  | .worn => s.launchFailed k last .worn .worn
  | .skip => s

/-- The Policy Unit considers the item with a key: present, nominated and without IN_REPAIR (R147). -/
def State.consider (s : State) (k : Key) : State :=
  match s.findItem k with
  | some i => if i.nominated ∧ i.inRepair = none then s.actOn k i.lastFailure (s.decisionFor k) else s
  | none => s

/-- Inserts an item before the first of lower or equal score. -/
def insertByScore (i : WatchItem) : List WatchItem → List WatchItem
  | [] => [i]
  | j :: rest => if j.score ≤ i.score then i :: j :: rest else j :: insertByScore i rest

/-- Items by SCORE, highest first, and among equals the oldest first (R149). -/
def sortByScore : List WatchItem → List WatchItem
  | [] => []
  | i :: rest => insertByScore i (sortByScore rest)

/-- The pass order at a decay boundary: the nominated items without IN_REPAIR, sorted (R149). -/
def passOrderOf (items : List WatchItem) : List Key :=
  (sortByScore (items.filter fun i => i.nominated && i.inRepair.isNone)).map WatchItem.key

/-- The retry pass starts, if AUTO_REPAIR of the run profile is ON; what was left of an earlier pass is discarded (R149). -/
def State.startPass (s : State) : State :=
  { s with pol := { s.pol with
      passOrder := if s.runProfile.autoRepair then passOrderOf s.wls.items else [] } }

end Sys2Proof.Machine
end

