-- ==== Sys2Proof/Machine/StoreOps.lean ====
section
/-!
DEFINITION. The Repair Store's shared operations: the load (R156, R157), entry to ACTIVE (R174, R177), the completion of an
operation of the burn engine (R164 to R166) and an operation cut short (R196).
-/

namespace Sys2Proof.Machine

/-- A repair as a store record names it: origin and slot. -/
structure Repair where
  origin : Origin
  slot   : SlotNo
  deriving DecidableEq, Repr

/-- Whether two repairs name the same rank, bank and slot. -/
def Repair.sameSlot (a b : Repair) : Bool :=
  a.origin.rank == b.origin.rank && a.origin.bank == b.origin.bank && a.slot == b.slot

/-- Whether a WRITTEN record passes the checks of R157 against the geometry and the records loaded before it. -/
def Repair.loadable (x : Repair) (g : Geometry) (loaded : List Repair) : Bool :=
  g.hasRank x.origin.rank && decide (x.origin.row < g.dataRows) && x.slot != 0 &&
    !(loaded.any fun y => y.origin == x.origin || y.sameSlot x)

/-- The load as it goes on: the state, and the records loaded so far, newest first. -/
structure Loading where
  state  : State
  loaded : List Repair
  deriving DecidableEq, Repr

/-- A record is loaded: entry, slot, LOAD_RESULT (R156, R17, R31). -/
def State.loadRepair (s : State) (k : RecIx) (i : EntryIx) (x : Repair) : State :=
  ((((s.setEntry i (.permanent x.origin x.slot 0 k)).bumpGeneration).setSlotState x.origin.rank x.origin.bank x.slot
    (.permanent i)).setLoadResult k (some (.loaded i)))

/-- One record of the load, in record order (R156, R157). -/
def loadRecord (g : Geometry) (acc : Loading) (k : RecIx) : Loading :=
  match acc.state.storeRecord k with
  | .blank => acc
  | .revoked _ _ => { acc with state := acc.state.setLoadResult k (some .skipped) }
  | .torn => { acc with state := (acc.state.setLoadResult k (some .skipped)).raise .storeConflict }
  | .written o n =>
    if Repair.loadable ⟨o, n⟩ g acc.loaded then
      match acc.state.lowestFreeEntry with
      | some i => { state := acc.state.loadRepair k i ⟨o, n⟩, loaded := ⟨o, n⟩ :: acc.loaded }
      | none => acc
    else { acc with state := (acc.state.setLoadResult k (some .skipped)).raise .storeConflict }

/-- The load of all forty records under a geometry (R156). -/
def State.load (s : State) (g : Geometry) : Loading := (List.finRange 40).foldl (loadRecord g) ⟨s, []⟩

/-- Entry to ACTIVE under a geometry: the load, the pending selection, the decay timer, the mode (R174, R177). -/
def State.enterActive (s : State) (g : Geometry) : State :=
  { (((s.load g).state.applyPendingRun).startDecay) with mode := .active g }

/-! ## The burn engine -/

/-- The engine becomes IDLE with its last operation and outcome (R162). -/
def State.engineDone (s : State) (kind : OperationKind) (done : Bool) : State :=
  ({ s with rst := { s.rst with operation := none, lastOperation := some ⟨kind, done⟩ } }).raise
    (if done then .burnDone else .burnFailed)

/-- The entry after a successful burn into record `k`: PERMANENT (R19). -/
def Entry.burned (k : RecIx) : Entry → Entry
  | .live o n m _ => .permanent o n m k
  | e => e

/-- The slot of a burned entry: MAPPED to PERMANENT, with ENTRY and grade kept (R36). -/
def State.burnSlot (s : State) (i : EntryIx) (o : Origin) (n : SlotNo) : State :=
  match (s.slot o.rank o.bank n).state with
  | .mapped _ => s.setSlotState o.rank o.bank n (.permanent i)
  | _ => s

/-- A burn completes, verified or not (R164). -/
def State.finishBurn (s : State) (k : RecIx) (i : EntryIx) (o : Origin) (n : SlotNo) (verified : Bool) : State :=
  if verified then
    ((((((s.setCells k (recordImage o n)).setLoadResult k (some (.loaded i))).setEntry i ((s.entry i).burned k)).burnSlot i o
      n).setStage .empty).engineDone (.burn k) true)
  else
    ((((s.drawFree.setCells k (failedRecord (recordCellsOf (Config.failedBurnCells s.freeCount)))).setEntry i
      (s.entry i).unstaged).setStage .empty).engineDone (.burn k) false)

/-- A revoke completes, verified or not (R165). -/
def State.finishRevoke (s : State) (k : RecIx) (verified : Bool) : State :=
  if verified then
    (s.setCells k { s.rst.cells[k] with revokeMark := revokeMarkSet }).engineDone (.revoke k) true
  else
    (s.drawFree.setCells k (failedRevoke s.rst.cells[k] (Config.failedRevokeMark s.freeCount))).engineDone (.revoke k) false

/-- Programs the cells of the geometry area. -/
def State.setGeometryCells (s : State) (x : GeometryCells) : State := { s with rst := { s.rst with geometryCells := x } }

/-- A geometry burn completes, verified or not (R166). -/
def State.finishGeometry (s : State) (g : Geometry) (verified : Bool) : State :=
  if verified then (s.setGeometryCells (geometryImage g)).engineDone .geometry true
  else
    (s.drawFree.setGeometryCells (failedGeometry (geometryCellsOf (Config.failedGeometryCells s.freeCount)))).engineDone
      .geometry false

/-- The cells after power is lost: an operation in flight leaves the image its programming had reached (R196). How far it
had gone is a free value. -/
def State.cutShort (s : State) : State :=
  match s.rst.operation with
  | none => s
  | some (.burn k _ o n) =>
    s.drawFree.setCells k (cutBurn (recordImage o n) (recordCellsOf (Config.cutRecordCells s.freeCount)))
  | some (.revoke k) =>
    s.drawFree.setCells k (cutRevoke s.rst.cells[k] (recordCellsOf (Config.cutRecordCells s.freeCount)))
  | some (.geometry g) =>
    s.drawFree.setGeometryCells (cutGeometry (geometryImage g) (geometryCellsOf (Config.cutGeometryCells s.freeCount)))

end Sys2Proof.Machine
end

