-- ==== Sys2Proof/Machine/PortOps.lean ====
section
/-!
DEFINITION. The Management Port's shared operations: taking a frame, handing a request to its owner, composing its response
(R180 to R184), and the parts of a warm reset (R191).
-/

namespace Sys2Proof.Machine

/-- Whether request `q` is in hand and its owner has not yet decided it. A WARM_RESET whose parts are outstanding has been
decided (R191). -/
def Port.awaits (p : Port) (q : Request) : Bool :=
  match p.inHand with
  | some h => h.request == q && p.warmParts.isEmpty
  | none => false

/-- Writes RESPONSE. -/
def State.setResponse (s : State) (r : Response) : State := { s with port := { s.port with response := r } }

/-- Writes IN_HAND. -/
def State.setInHand (s : State) (h : Option InHand) : State := { s with port := { s.port with inHand := h } }

/-- A frame that is answered at once supersedes the request in hand, if there is one (R183). -/
def State.supersede (s : State) : State := s.setInHand (s.port.inHand.map fun h => { h with superseded := true })

/-- A frame that fails a check is not executed; its refusal takes RESPONSE (R181, R183). -/
def State.refuseFrame (s : State) (tag : Byte) (st : Status) : State := s.supersede.setResponse (.composed tag st .none)

/-- A request that passes the framing checks: in IDLE it is taken in hand, in EXECUTING it is answered BUSY (R181, R183). -/
def State.acceptRequest (s : State) (tag : Byte) (q : Request) : State :=
  match s.port.inHand with
  | none => (s.setInHand (some ⟨q, tag, false⟩)).setResponse .inProgress
  | some _ => s.refuseFrame tag .busy

/-- Puts a decided response into RESPONSE with IN_HAND's tag, unless it was superseded (R182). -/
def State.compose (s : State) (st : Status) (p : Payload) : State :=
  match s.port.inHand with
  | some h => if h.superseded then s else s.setResponse (.composed h.tag st p)
  | none => s

/-- The owner's decision composes the response and returns the port to IDLE (R182). -/
def State.answer (s : State) (st : Status) (p : Payload) : State := (s.compose st p).setInHand none

/-- A refusal without payload. -/
def State.refuse (s : State) (st : Status) : State := s.answer st .none

/-- The owner's event for request `q`. When `q` is in hand it is decided; otherwise the command stands for the frame of `q`
with tag 00h, taken first, and for its decision when the port took it in hand (DESIGN CHOICE, assumption 3). While the
power-on reset input is asserted the port does not answer (R172). -/
def State.takeRequest (s : State) (q : Request) (decide : State → State) : State :=
  if s.powerHeld then s
  else
    let s1 := if s.port.awaits q then s else s.acceptRequest 0 q
    if s1.port.awaits q then decide s1 else s1

/-- Decides a request that every mode but LOADING decides by its own checks (section 10.3). -/
def State.whenLoaded (s : State) (k : State) : State := if s.mode = .loading then s.refuse .notReady else k

/-- Decides a request that only ACTIVE decides by its own checks (section 10.3). -/
def State.whenActive (s : State) (k : Geometry → State) : State :=
  match s.geometry with
  | some g => k g
  | none => s.refuse .notReady

/-- Decides a request by an operand in range; BAD_ARGUMENT otherwise. -/
def State.whenSome {α : Type} (s : State) (x : Option α) (k : α → State) : State :=
  match x with
  | some a => k a
  | none => s.refuse .badArgument

/-- The status a refused launch is answered with (R70). -/
def LaunchRefusal.status : LaunchRefusal → Status
  | .notReady => .notReady
  | .linkDown => .linkDown
  | .noContext => .noContext
  | .outOfRange => .badArgument
  | .present => .state
  | .notFound => .notFound
  | .notMovable => .state
  | .tableFull => .tableFull
  | .noSlot => .noSlot

/-- The response to REPAIR or MOVE (R70, R71). -/
def State.answerLaunch (s : State) : Launch → State
  | .launched c t => t.answer .ok (.launched c)
  | .refused r => s.refuse r.status

/-- The parts of a warm reset that have a row of the table (R191). -/
def allWarmParts : List WarmPart := [.migration, .link, .watch, .slots, .store, .conditions]

/-- A part has been taken; with the last one the port returns to IDLE (R191). -/
def State.finishWarmPart (s : State) (p : WarmPart) : State :=
  let left := s.port.warmParts.erase p
  { s with port := { s.port with warmParts := left, inHand := if left.isEmpty then none else s.port.inHand } }

/-- An owner takes its part of a warm reset, in an event of its own, when it has been handed one (R191). -/
def State.takeWarmPart (s : State) (p : WarmPart) (effect : State → State) : State :=
  if s.port.warmParts.contains p then (effect s).finishWarmPart p else s

end Sys2Proof.Machine
end

