-- ==== Sys2Proof/Machine/Power.lean ====
section
/-!
DEFINITION. Meanings: power-on, the power-on reset input and the end of LOADING (R172, R174).
-/

namespace Sys2Proof.Machine

/-- Every block at its power-on value, the cells of the store kept (R172). The channel-reset line is as observed, the
downstream port still carries what it carried, and the commands waiting are the sender's. The target address, sampled at the
release, reads 0 until then (DESIGN CHOICE, assumption 20). -/
def State.powerOnValues (s : State) (held : Bool) : State :=
  { State.reset with
    pending := s.pending
    powerHeld := held
    adrPins := s.adrPins
    ctr := { Translator.reset with resetLine := s.ctr.resetLine, downstream := s.ctr.downstream }
    rst := { RepairStore.reset with cells := s.rst.cells, geometryCells := s.rst.geometryCells }
    freeCount := s.freeCount }

/-- R172: the release of the input is power-on. The part enters LOADING with every block at its power-on value and samples
its address pins. On a part whose input was not asserted it stands for a loss of power and its return (DEDUCED,
assumption 10). -/
def execPowerOn (s : State) : Host.Outcome State Fault Refusal :=
  .next { (if s.powerHeld then s else s.cutShort).powerOnValues false with target := s.adrPins }

/-- R172: the assertion of the input ends all activity like a loss of power; an operation in flight is cut short (R196). -/
def execPowerOnResetAssert (s : State) : Host.Outcome State Fault Refusal := .next (s.cutShort.powerOnValues true)

/-- The mode that the geometry area leads to (R174). -/
def State.afterRead (s : State) : State :=
  match s.rst.geometryCells.read with
  | .written g => s.enterActive g
  | .blank => { s with mode := .unconfigured }
  | .torn => ({ s with mode := .unconfigured }).raise .storeConflict

/-- R174: the store's read ends LOADING; READY goes high (R175) and the link enters GREETING (R102). In any other mode there
is no read to end. -/
def execLoadComplete (s : State) : Host.Outcome State Fault Refusal :=
  .next (if s.powerHeld ∨ s.mode ≠ .loading then s else { s.afterRead with ready := true }.enterGreeting)

end Sys2Proof.Machine
end

