-- ==== Sys2Proof/Machine/Channel.lean ====
section
/-!
DEFINITION. Meanings: the commands of the channel and the channel-reset line, as the Command Translator takes them
(chapter 3).
-/

namespace Sys2Proof.Machine

/-! ## Forwarding and reports -/

/-- A command goes out on the downstream port (R46). -/
def State.forward (s : State) (x : ChannelCommand) : State := { s with ctr := { s.ctr with downstream := some x } }

/-- A command is forwarded and nothing else is done with it, but for EARLY_TRAFFIC in LOADING (R46, R65). While the
power-on reset input is asserted no condition is raised (R172). -/
def State.passThrough (s : State) (x : ChannelCommand) : State :=
  (s.forward x).raiseIf (!s.powerHeld && s.mode == .loading) .earlyTraffic

/-- The geometry under which a command to rank `r` is handled, absent when commands only pass through: the part not ACTIVE
(R65, R66), the channel-reset line held asserted (R64), the rank not configured (R47), or the power-on reset input
asserted (R172). -/
def State.translating (s : State) (r : Rank) : Option Geometry :=
  match s.geometry with
  | some g => if s.powerHeld || s.ctr.resetLine || !g.hasRank r then none else some g
  | none => none

/-- A close report to the Remap Table, which takes it in an event of its own (R59). -/
def State.reportCloseToTable (s : State) (x : CloseReport) : State :=
  { s with rmt := { s.rmt with closes := s.rmt.closes ++ [x] } }

/-- The close event of R59: an OPEN bank is reported to the Migration Engine and the Remap Table and goes CLOSED. -/
def State.closeBank (s : State) (r : Rank) (b : Bank) : State :=
  match s.record r b with
  | some x =>
    ((s.makeReport (.close r b x.issued x.physical x.role)).reportCloseToTable ⟨r, b, x.physical⟩).setRecord r b none
  | none => s

/-- Every OPEN bank of a rank closes, each with its own close event (R58), by bank (DESIGN CHOICE, assumption 7). -/
def State.closeRank (s : State) (r : Rank) : State :=
  (List.finRange 16).foldl (fun s b => s.closeBank r b) s

/-- The report of a WRITE by the role of its bank (R55). -/
def State.reportWrite (s : State) (g : Geometry) (r : Rank) (b : Bank) (col : Column) : State :=
  match s.record r b with
  | some ⟨issued, _, .source c⟩ => s.makeReport (.sourceWrite c r b issued (blockOf col))
  | some ⟨_, physical, .dest c⟩ => s.makeReport (.destWrite c r b (physical - g.dataRows) (blockOf col))
  | _ => s

/-! ## ACTIVATE -/

/-- The Remap Table's answer for a data row: physical row and role (R5, R50). -/
def State.dataAnswer (s : State) (g : Geometry) (o : Origin) : OpenRow :=
  match s.lookup o with
  | none => ⟨o.row, o.row, .plain⟩
  | some i => match s.entry i with
    | .free => ⟨o.row, o.row, .plain⟩
    | .forming _ _ c => ⟨o.row, o.row, .source c⟩
    | .live _ k _ _ => ⟨o.row, g.slotRow k, .plain⟩
    | .moving _ k _ c _ => ⟨o.row, g.slotRow k, .source c⟩
    | .retiring _ k _ => ⟨o.row, g.slotRow k, .plain⟩
    | .permanent _ k _ _ => ⟨o.row, g.slotRow k, .plain⟩

/-- The Slot Directory's answer for an alias row by the alias rule (R42, R51). A TARGET slot whose entry names no context
(which the law of R29 rules out) is not lent to anyone and is sunk (DESIGN CHOICE, assumption 13). -/
def State.aliasAnswer (s : State) (g : Geometry) (r : Rank) (b : Bank) (issued : Nat) : OpenRow :=
  match (s.slot r b (g.slotOf issued)).state with
  | .testing _ => ⟨issued, issued, .aliasTest⟩
  | .target i => match (s.entry i).context with
    | some c => ⟨issued, issued, .dest c⟩
    | none => ⟨issued, g.dataRows, .sunk⟩
  | .sink => ⟨issued, g.dataRows, .sunk⟩
  | .free => ⟨issued, g.dataRows, .sunk⟩
  | .mapped _ => ⟨issued, g.dataRows, .sunk⟩
  | .permanent _ => ⟨issued, g.dataRows, .sunk⟩

/-- An alias violation: the count rises, saturating, and the condition is raised (R52). -/
def State.violation (s : State) : State :=
  ({ s with ctr := { s.ctr with aliasCount := min Config.maxCount16 (s.ctr.aliasCount + 1) } }).raise .aliasViolation

/-- The ACTIVATE goes out with the physical row and the bank opens (R50, R51). -/
def State.openBank (s : State) (r : Rank) (b : Bank) (x : OpenRow) : State :=
  (s.forward (.activate r b x.physical)).setRecord r b (some x)

/-- The previous row of an OPEN bank is closed first, and the table takes the close before it answers a lookup (R53, R5). -/
def State.closeBeforeLookup (s : State) (r : Rank) (b : Bank) : State :=
  match s.record r b with
  | some _ => (s.closeBank r b).tableTakesCloses
  | none => s

/-- An ACTIVATE to a data row under translation (R50, R53). -/
def State.activateData (s : State) (g : Geometry) (o : Origin) : State :=
  let s1 := s.closeBeforeLookup o.rank o.bank
  s1.openBank o.rank o.bank (s1.dataAnswer g o)

/-- An ACTIVATE to an alias row under translation (R51, R52, R53). -/
def State.activateAlias (s : State) (g : Geometry) (r : Rank) (b : Bank) (issued : Nat) : State :=
  let s1 := s.closeBank r b
  let x := s1.aliasAnswer g r b issued
  let s2 := s1.openBank r b x
  if x.role = .sunk then s2.violation else s2

/-- R46, R50 to R53, R64 to R66: ACTIVATE. -/
def execActivate (r : Rank) (b : Bank) (row : Nat) (s : State) : Host.Outcome State Fault Refusal :=
  .next (match s.translating r with
    | none => s.passThrough (.activate r b row)
    | some g =>
      let issued := g.issuedRow row
      if issued < g.dataRows then s.activateData g ⟨r, b, issued⟩ else s.activateAlias g r b issued)

/-! ## The other channel commands -/

/-- R56: READ is forwarded; no report, no change of record. -/
def execRead (r : Rank) (b : Bank) (col : Column) (s : State) : Host.Outcome State Fault Refusal :=
  .next (s.passThrough (.read r b col))

/-- R55: WRITE is forwarded and reported by the bank's role. -/
def execWrite (r : Rank) (b : Bank) (col : Column) (s : State) : Host.Outcome State Fault Refusal :=
  .next (match s.translating r with
    | none => s.passThrough (.write r b col)
    | some g => (s.forward (.write r b col)).reportWrite g r b col)

/-- R56, R57: READ-AP is forwarded and closes an OPEN bank after the read. -/
def execReadAp (r : Rank) (b : Bank) (col : Column) (s : State) : Host.Outcome State Fault Refusal :=
  .next (match s.translating r with
    | none => s.passThrough (.readAp r b col)
    | some _ => (s.forward (.readAp r b col)).closeBank r b)

/-- R55, R57: WRITE-AP is forwarded, reported by role, and then closes an OPEN bank. -/
def execWriteAp (r : Rank) (b : Bank) (col : Column) (s : State) : Host.Outcome State Fault Refusal :=
  .next (match s.translating r with
    | none => s.passThrough (.writeAp r b col)
    | some g => ((s.forward (.writeAp r b col)).reportWrite g r b col).closeBank r b)

/-- R57: PRECHARGE is forwarded and closes an OPEN bank. -/
def execPrecharge (r : Rank) (b : Bank) (s : State) : Host.Outcome State Fault Refusal :=
  .next (match s.translating r with
    | none => s.passThrough (.precharge r b)
    | some _ => (s.forward (.precharge r b)).closeBank r b)

/-- R58: PRECHARGE-ALL is forwarded and closes every OPEN bank of the rank. -/
def execPrechargeAll (r : Rank) (s : State) : Host.Outcome State Fault Refusal :=
  .next (match s.translating r with
    | none => s.passThrough (.prechargeAll r)
    | some _ => (s.forward (.prechargeAll r)).closeRank r)

/-- R58: REFRESH is forwarded and closes every OPEN bank of the rank. -/
def execRefresh (r : Rank) (s : State) : Host.Outcome State Fault Refusal :=
  .next (match s.translating r with
    | none => s.passThrough (.refresh r)
    | some _ => (s.forward (.refresh r)).closeRank r)

/-- R46: any other command is forwarded unchanged, with no report and no change of record. -/
def execOtherCommand (code : Nat) (s : State) : Host.Outcome State Fault Refusal := .next (s.passThrough (.other code))

/-! ## The channel-reset line -/

/-- Writes the channel-reset line setting (R64). -/
def State.setResetLine (s : State) (b : Bool) : State := { s with ctr := { s.ctr with resetLine := b } }

/-- R63: every record CLOSED without close events, and the reset reported to the Migration Engine and the Remap Table. -/
def State.channelResetEvent (s : State) : State :=
  { s with
    ctr := { s.ctr with records := recordsClosed }
    mge := { s.mge with channelResets := s.mge.channelResets + 1 }
    rmt := { s.rmt with channelResets := s.rmt.channelResets + 1 } }

/-- R63 to R66: the line changes from deasserted to asserted. Outside ACTIVE only the setting is tracked; a line already
asserted does not change. -/
def execChannelReset (s : State) : Host.Outcome State Fault Refusal :=
  .next (if s.ctr.resetLine then s
    else match s.geometry with
      | some _ => if s.powerHeld then s.setResetLine true else s.channelResetEvent.setResetLine true
      | none => s.setResetLine true)

/-- R64: the deassertion ends the pass-through and changes nothing else. -/
def execChannelResetDeassert (s : State) : Host.Outcome State Fault Refusal := .next (s.setResetLine false)

end Sys2Proof.Machine
end

