-- ==== Sys2Proof/Machine/Reports.lean ====
section
/-!
DEFINITION. Meanings: the reports of the Command Translator as the Migration Engine and the Remap Table take them, each in an
event of its own (R15, R25, R59, R73, R74, R83, R97).
-/

namespace Sys2Proof.Machine

/-- Whether a report is a source write. -/
def Report.isSourceWrite : Report → Bool
  | .sourceWrite .. => true
  | _ => false

/-- Whether a report is a destination write. -/
def Report.isDestWrite : Report → Bool
  | .destWrite .. => true
  | _ => false

/-- Whether a report is a close. -/
def Report.isClose : Report → Bool
  | .close .. => true
  | _ => false

/-- The head of the report queue is taken when it is of the kind the event names; there is no such event otherwise
(DESIGN CHOICE, assumption 5). -/
def State.takeHeadIf (s : State) (kind : Report → Bool) : State :=
  match s.mge.reports with
  | x :: _ => if kind x then s.takeHeadReport else s
  | [] => s

/-- R73, R74: the source write report at the head of the queue. -/
def execSourceWriteReport (s : State) : Host.Outcome State Fault Refusal := .next (s.takeHeadIf Report.isSourceWrite)

/-- R73, R74: the destination write report at the head of the queue. -/
def execDestWriteReport (s : State) : Host.Outcome State Fault Refusal := .next (s.takeHeadIf Report.isDestWrite)

/-- R83, R74: the close report at the head of the queue. -/
def execCloseReportMigration (s : State) : Host.Outcome State Fault Refusal := .next (s.takeHeadIf Report.isClose)

/-- R15: the Remap Table takes the oldest close report made and not yet taken. -/
def execCloseReportTable (s : State) : Host.Outcome State Fault Refusal :=
  .next (match s.rmt.closes with
    | [] => s
    | x :: rest => { s with rmt := { s.rmt with closes := rest } }.tableClose x)

/-- Whether a message is kept when a channel reset ends the contexts of a list (R117). -/
def OutMsg.survives (ended : List Ctx) (m : OutMsg) : Bool :=
  match m.owner with
  | some c => !ended.contains c
  | none => true

/-- The Migration Engine's part of a channel reset: the queued reports first, then every context ends, and the unsent
messages of the contexts so ended are removed (R97, R117). -/
def State.migrationChannelReset (s : State) : State :=
  let s1 := s.takeAllReports
  (s1.endAllSilently .channelReset).purgeOutbound (OutMsg.survives s1.busyContexts)

/-- R97: the Migration Engine takes the channel reset that the translator reported. -/
def execChannelResetMigration (s : State) : Host.Outcome State Fault Refusal :=
  .next (if s.mge.channelResets = 0 then s
    else { s with mge := { s.mge with channelResets := s.mge.channelResets - 1 } }.migrationChannelReset)

/-- Every RETIRING entry is freed (R25). -/
def State.freeAllRetiring (s : State) : State := (List.finRange 96).foldl State.freeIfRetiring s

/-- R25: the Remap Table takes the channel reset that the translator reported. -/
def execChannelResetTable (s : State) : Host.Outcome State Fault Refusal :=
  .next (if s.rmt.channelResets = 0 then s
    else { s with rmt := { s.rmt with channelResets := s.rmt.channelResets - 1 } }.freeAllRetiring)

end Sys2Proof.Machine
end

