-- ==== Sys2Proof/Machine/Messages.lean ====
section
/-!
DEFINITION. Meanings: frames and messages of the sideband link: how a frame is received (R109 to R111), how greetings are
taken by the link (R104 to R107) and how the controller's replies are taken by the Migration Engine (R77 to R81, R90, R91).
-/

namespace Sys2Proof.Machine

/-! ## Receiving -/

/-- Whether the receiver takes frames: not in DOWN (R99), and not while the power-on reset input is asserted (R172). -/
def State.receiving (s : State) : Bool := !s.powerHeld && s.sbl.state != .down

/-- Every context's PENDING is emptied (R110). -/
def State.clearAllHeld (s : State) : State :=
  { s with mge := { s.mge with contexts := s.mge.contexts.map fun x => { x with held := [] } } }

/-- LINK_STATE becomes DOWN with BAD_RUN 0, RETRY_TIMER stopped and OUTBOUND and WAITING emptied; what has begun on the
wire is finished (R110, R120). -/
def State.linkDown (s : State) : State :=
  { s with sbl := { s.sbl with state := .down, badRun := 0, retryTimer := none, outbound := [], waiting := [] } }

/-- The link fails: it goes DOWN, every migration ends with LINK_DOWN, LINK_FAULT is raised, and the link enters GREETING,
in one event (R110, R95). -/
def State.linkFail (s : State) : State :=
  (((s.linkDown.endAllSilently .linkDown).clearAllHeld).raise .linkFault).enterGreeting

/-- A bad frame: BAD_RUN rises by 1, and at 4 the link fails (R110). -/
def State.badFrame (s : State) : State :=
  if s.receiving then
    if s.sbl.badRun + 1 ≥ Config.badRunLimit then s.linkFail
    else { s with sbl := { s.sbl with badRun := s.sbl.badRun + 1 } }
  else s

/-- A greeting of another protocol level or context count (R107). -/
def mismatched (level count : Byte) : Bool := level != Config.protocolLevel || count != Config.contextCount

/-- OUTBOUND holds the HELLO_ACK alone and WAITING is empty (R106). -/
def State.onlyHelloAck (s : State) : State := (s.setOutbound [.helloAck]).setWaiting []

/-- A HELLO taken while UP starts the conversation anew (R106, R96). -/
def State.greetAnew (s : State) : State := (((s.queueGreeting .helloAck).endAllSilently .linkReset).clearAllHeld).onlyHelloAck

/-- The link takes a HELLO in the event that receives it (R105 to R107). In GREETING the report to the Migration Engine finds
every context IDLE (R105, R96); a context that is not, which R102 rules out, would end with LINK_RESET (DESIGN CHOICE,
assumption 13). -/
def State.takeHello (s : State) (level count : Byte) : State :=
  if mismatched level count then s.raise .linkFault
  else match s.sbl.state with
    | .down => s
    | .greeting => (s.linkUp.queueGreeting .helloAck).endAllSilently .linkReset
    | .up => s.greetAnew

/-- The link takes a HELLO_ACK in the event that receives it (R104, R107). -/
def State.takeHelloAck (s : State) (level count : Byte) : State :=
  if mismatched level count then s.raise .linkFault
  else match s.sbl.state with
    | .down => s
    | .greeting => s.linkUp
    | .up => s

/-- An error note is passed to the Watch List, which takes it in its own event (R101, R111). -/
def State.passNote (s : State) (n : ErrorNote) : State :=
  if s.sbl.state = .up then { s with wls := { s.wls with notes := s.wls.notes ++ [n] } } else s

/-- A reply is passed to the Migration Engine, which takes it in its own event (R101, R111). -/
def State.passReply (s : State) (r : Reply) : State :=
  if s.sbl.state = .up then { s with mge := { s.mge with replies := s.mge.replies ++ [r] } } else s

/-- A good frame: BAD_RUN becomes 0, and the message is dispatched by its kind and LINK_STATE (R109, R111). -/
def State.receive (s : State) (m : InMsg) : State :=
  if s.receiving then
    match m with
    | .errorNote n => s.goodFrame.passNote n
    | .reply r => s.goodFrame.passReply r
    | .hello level count => s.goodFrame.takeHello level count
    | .helloAck level count => s.goodFrame.takeHelloAck level count
  else s

/-- R109: a frame received whole is checked and then dispatched, or taken as bad. -/
def execInboundFrame (bytes : List Byte) (s : State) : Host.Outcome State Fault Refusal :=
  .next (if bytes.isEmpty then s
    else match parseSideband bytes with
      | some m => s.receive m
      | none => s.badFrame)

/-- R110: a bad frame. -/
def execBadFrame (s : State) : Host.Outcome State Fault Refusal := .next s.badFrame

/-- R104 to R107: a HELLO. -/
def execHello (level count : Byte) (s : State) : Host.Outcome State Fault Refusal := .next (s.receive (.hello level count))

/-- R104, R107: a HELLO_ACK. -/
def execHelloAck (level count : Byte) (s : State) : Host.Outcome State Fault Refusal :=
  .next (s.receive (.helloAck level count))

/-- The oldest passed error note is taken by the Watch List. -/
def State.takePassedNote (s : State) (n : ErrorNote) : State :=
  match s.wls.notes with
  | m :: rest => if m = n then { s with wls := { s.wls with notes := rest } }.takeNote n else s
  | [] => s

/-- R101, R123: the Watch List takes an error note. A note that the link has not passed arrives as a good frame first; with
older notes before it, it waits its turn (DESIGN CHOICE, assumption 4). A REPEAT of 0 makes the frame bad (R109). -/
def execErrorNote (n : ErrorNote) (s : State) : Host.Outcome State Fault Refusal :=
  .next (if s.powerHeld then s
    else if s.wls.notes.head? = some n then s.takePassedNote n
    else if n.rep = 0 then s.badFrame
    else (s.receive (.errorNote n)).takePassedNote n)

/-! ## Replies (R77 to R81, R90, R91) -/

/-- What a STALE_NOTE names of a reply: its kind, with the action of a FENCE_ACK (R91). -/
def staleKindOf : ReplyBody → StaleKind
  | .copyAccept => .copyAccept
  | .copyRefuse _ => .copyRefuse
  | .copyDone => .copyDone
  | .fenceAck a => .fenceAck a

/-- A reply that does not match is answered as stale (R91, R116). -/
def State.answerStale (s : State) (r : Reply) : State := s.sendStale (.staleNote r.ctx r.round (staleKindOf r.body))

/-- Whether a held message is a COPY_ORDER that has never been queued. -/
def HeldMsg.unsentOrder (h : HeldMsg) : Bool :=
  match h.msg with
  | .copyOrder .. => !h.started
  | _ => false

/-- Whether a held message is a FENCE_ORDER of an action that has never been queued. -/
def HeldMsg.unsentFence (a : FenceAction) (h : HeldMsg) : Bool :=
  match h.msg with
  | .fenceOrder _ _ b _ => a == b && !h.started
  | _ => false

/-- The job of a context in a state with a round, for the match of R91. -/
def Context.jobIn (x : Context) (st : BusyState) (round : RoundField) : Option Job :=
  match x.body with
  | .busy st' j => if st' = st ∧ j.round = round.toNat then some j else none
  | .idle _ => none

/-- The job that a COPY_ACCEPT or COPY_REFUSE matches (R77, R91). -/
def Context.offered (x : Context) (round : RoundField) : Option Job :=
  if x.held.any HeldMsg.unsentOrder then none else x.jobIn .offering round

/-- The job that a FENCE_ACK matches (R81, R90, R91). -/
def Context.fenceAsked (x : Context) (a : FenceAction) (round : RoundField) : Option Job :=
  if x.held.any (HeldMsg.unsentFence a) then none
  else match a with
    | .set => x.jobIn .fencing round
    | .release => x.jobIn .closing round

/-- A COPY_ACCEPT (R77). -/
def State.takeAccept (s : State) (r : Reply) : State :=
  match (s.ctx r.ctx).offered r.round with
  | some j => s.enterTimed r.ctx .copying j j.captured.roundTimeout
  | none => s.answerStale r

/-- A COPY_REFUSE (R77). -/
def State.takeRefuse (s : State) (r : Reply) : State :=
  match (s.ctx r.ctx).offered r.round with
  | some _ => s.abort r.ctx .refused
  | none => s.answerStale r

/-- The test of a round's end, once the reports are in (R78 to R80). -/
def State.endRound (s : State) (c : Ctx) (j : Job) : State :=
  if j.clean then s.armOrCutover c j else s.afterUncleanRound c j

/-- A COPY_DONE: the reports made first, then the test, unless a report has ended the migration (R78). -/
def State.takeDone (s : State) (r : Reply) : State :=
  match (s.ctx r.ctx).jobIn .copying r.round with
  | some _ =>
    let s1 := s.takeAllReports
    match (s1.ctx r.ctx).jobIn .copying r.round with
    | some j => s1.endRound r.ctx j
    | none => s1.answerStale r
  | none => s.answerStale r

/-- After the fence is held on a complete copy: the reports made first, then ARMED or the cutover, unless a report has ended
the migration (R81). -/
def State.fencedTest (s : State) (c : Ctx) : State :=
  let s1 := s.takeAllReports
  match (s1.ctx c).body with
  | .busy .fencing j => s1.armOrCutover c j
  | _ => s1

/-- A FENCE_ACK(SET): the fence is held (R81). -/
def State.takeFenceSet (s : State) (r : Reply) : State :=
  match (s.ctx r.ctx).fenceAsked .set r.round with
  | some j =>
    let k := { j with fenced := .held }
    if k.clean then (s.enterState r.ctx .fencing k).fencedTest r.ctx else s.startRound r.ctx k
  | none => s.answerStale r

/-- A FENCE_ACK(RELEASE) (R90). -/
def State.takeFenceRelease (s : State) (r : Reply) : State :=
  match (s.ctx r.ctx).fenceAsked .release r.round with
  | some j => s.enterIdle r.ctx j
  | none => s.answerStale r

/-- The Migration Engine takes a reply by its kind. -/
def State.takeReplyBody (s : State) (r : Reply) : State :=
  match r.body with
  | .copyAccept => s.takeAccept r
  | .copyRefuse _ => s.takeRefuse r
  | .copyDone => s.takeDone r
  | .fenceAck .set => s.takeFenceSet r
  | .fenceAck .release => s.takeFenceRelease r

/-- The oldest passed reply is taken by the Migration Engine. One that the link passed before it left UP is void with the
conversation it belongs to and is discarded (R102, R111; DEDUCED, assumption 4). -/
def State.takePassedReply (s : State) (r : Reply) : State :=
  match s.mge.replies with
  | m :: rest =>
    if m = r then
      let s1 := { s with mge := { s.mge with replies := rest } }
      if s.sbl.state = .up then s1.takeReplyBody r else s1
    else s
  | [] => s

/-- A reply command: the Migration Engine's event for a reply. A reply that the link has not passed arrives as a good frame
first; with older replies before it, it waits its turn (R101; DESIGN CHOICE, assumption 4). -/
def State.takeReply (s : State) (r : Reply) : State :=
  if s.powerHeld then s
  else if s.mge.replies.head? = some r then s.takePassedReply r
  else (s.receive (.reply r)).takePassedReply r

/-- R77: COPY_ACCEPT. -/
def execCopyAccept (c : Ctx) (round : RoundField) (s : State) : Host.Outcome State Fault Refusal :=
  .next (s.takeReply ⟨c, round, .copyAccept⟩)

/-- R77: COPY_REFUSE. -/
def execCopyRefuse (c : Ctx) (round : RoundField) (reason : RefuseReason) (s : State) : Host.Outcome State Fault Refusal :=
  .next (s.takeReply ⟨c, round, .copyRefuse reason⟩)

/-- R78: COPY_DONE. -/
def execCopyDone (c : Ctx) (round : RoundField) (s : State) : Host.Outcome State Fault Refusal :=
  .next (s.takeReply ⟨c, round, .copyDone⟩)

/-- R81: FENCE_ACK(SET). -/
def execFenceAckSet (c : Ctx) (round : RoundField) (s : State) : Host.Outcome State Fault Refusal :=
  .next (s.takeReply ⟨c, round, .fenceAck .set⟩)

/-- R90: FENCE_ACK(RELEASE). -/
def execFenceAckRelease (c : Ctx) (round : RoundField) (s : State) : Host.Outcome State Fault Refusal :=
  .next (s.takeReply ⟨c, round, .fenceAck .release⟩)

/-! ## Transmission -/

/-- The head of OUTBOUND leaves for the wire, and the room is used for waiting messages (R113, R114). -/
def State.transmitHead (s : State) : State :=
  match s.sbl.outbound with
  | m :: rest => ({ s with sbl := { s.sbl with outbound := rest, wire := some m } }).refill
  | [] => s

/-- R113: the transmitter, with the wire free, begins to send the message at the head of OUTBOUND. -/
def execTransmitBegin (s : State) : Host.Outcome State Fault Refusal :=
  .next (if s.receiving then s.transmitHead else s)

end Sys2Proof.Machine
end

