-- ==== Sys2Proof/Machine/Timers.lean ====
section
/-!
DEFINITION. Meanings: the expiries of the part's timers (R75, R84, R87, R90, R103, R134, R160). An expiry command says that its
timer has run out; a timer that is stopped does not expire.
-/

namespace Sys2Proof.Machine

/-! ## The greeting retry timer -/

/-- A HELLO is queued unless one waits unsent, and the timer starts again (R103). -/
def State.retry (s : State) : State :=
  let s1 := s.queueGreeting .hello
  { s1 with sbl := { s1.sbl with retryTimer := some Config.retryInterval } }

/-- R103: the retry timer expires while the link is GREETING. -/
def execRetryTimerExpiry (s : State) : Host.Outcome State Fault Refusal :=
  .next (if s.sbl.state = .greeting ∧ s.sbl.retryTimer.isSome then s.retry else s)

/-! ## The context timer -/

/-- Whether a context is in a state with its timer running (R75). -/
def Context.runs (x : Context) (st : BusyState) : Bool :=
  match x.body with
  | .busy st' _ => st' == st && x.timer.isSome
  | .idle _ => false

/-- The expiry of the timer of an active state aborts the context (R75, R87). -/
def State.expire (s : State) (c : Ctx) (st : BusyState) (reason : AbortReason) : State :=
  if (s.ctx c).runs st then s.abort c reason else s

/-- R77: the offer timer expires in OFFERING. -/
def execOfferTimerExpiry (c : Ctx) (s : State) : Host.Outcome State Fault Refusal :=
  .next (s.expire c .offering .offerTimeout)

/-- R87: the round timer expires in COPYING. -/
def execRoundTimerExpiry (c : Ctx) (s : State) : Host.Outcome State Fault Refusal :=
  .next (s.expire c .copying .roundTimeout)

/-- R84: the arm timer expires in ARMED. -/
def execArmTimerExpiry (c : Ctx) (s : State) : Host.Outcome State Fault Refusal :=
  .next (s.expire c .armed .armTimeout)

/-- R81: the fence timer expires in FENCING. -/
def execFenceTimerExpiry (c : Ctx) (s : State) : Host.Outcome State Fault Refusal :=
  .next (s.expire c .fencing .fenceTimeout)

/-- The fence timer expires in CLOSING: IDLE, with LINK_FAULT (R90). -/
def State.closingExpiry (s : State) (c : Ctx) : State :=
  match (s.ctx c).body with
  | .busy .closing j => if (s.ctx c).timer.isSome then (s.enterIdle c j).raise .linkFault else s
  | _ => s

/-- R90: the fence timer expires in CLOSING. -/
def execClosingFenceTimerExpiry (c : Ctx) (s : State) : Host.Outcome State Fault Refusal := .next (s.closingExpiry c)

/-! ## The decay timer -/

/-- The four steps of a decay boundary, in order (R134, R145, R149). -/
def State.decayBoundary (s : State) : State := ((s.decayItems.applyPendingRun).startDecay).startPass

/-- R134: the decay timer expires. -/
def execDecayBoundary (s : State) : Host.Outcome State Fault Refusal :=
  .next (if s.wls.decayTimer.isSome then s.decayBoundary else s)

/-! ## The timers of the stage register -/

/-- The register after PROBATION_TIMER has run out: READY, with EXPIRY_TIMER running on. The two timers run together, so what
was left of the first has passed for the second too (R158, R160). -/
def Stage.proven : Stage → Stage
  | .probation e r p x => .ready e r (x - p)
  | x => x

/-- R160: the probation timer expires in PROBATION. -/
def execProbationTimerExpiry (s : State) : Host.Outcome State Fault Refusal := .next (s.setStage s.rst.stage.proven)

/-- A stage in READY ends unburned (R160). -/
def State.stageExpiry (s : State) : State :=
  match s.rst.stage with
  | .ready i _ _ => (s.dropStage i).raise .stageExpired
  | _ => s

/-- R160: the expiry timer expires in READY. -/
def execStageExpired (s : State) : Host.Outcome State Fault Refusal := .next s.stageExpiry

end Sys2Proof.Machine
end

