-- ==== Sys2Proof/Machine/PolicySteps.lean ====
section
/-!
DEFINITION. Meanings: the Policy Unit's own events (R148, R149).
-/

namespace Sys2Proof.Machine

/-- The head of the pass order is taken and its item considered (R149). -/
def State.passStep (s : State) : State :=
  match s.pol.passOrder with
  | k :: rest => { s with pol := { s.pol with passOrder := rest } }.consider k
  | [] => s

/-- R149: one step of a retry pass. -/
def execRetryPassStep (s : State) : Host.Outcome State Fault Refusal := .next s.passStep

/-- The head of the nomination queue is taken; its item is considered when AUTO_REPAIR of the run profile is ON (R148). -/
def State.takeNomination (s : State) : State :=
  match s.pol.nominations with
  | k :: rest =>
    let s1 := { s with pol := { s.pol with nominations := rest } }
    if s1.runProfile.autoRepair then s1.consider k else s1
  | [] => s

/-- R148: the Policy Unit takes a nomination. -/
def execNominationTake (s : State) : Host.Outcome State Fault Refusal := .next s.takeNomination

end Sys2Proof.Machine
end

