-- ==== Sys2Proof/Machine/Burns.lean ====
section
/-!
DEFINITION. Meanings: the completions of the burn engine's operations (R164 to R166). `verified` is the outcome of the verify. A
completion of an operation that is not in flight does not happen.
-/

namespace Sys2Proof.Machine

/-- A burn in flight completes (R164). -/
def State.burnCompletes (s : State) (verified : Bool) : State :=
  match s.rst.operation with
  | some (.burn k i o n) => s.finishBurn k i o n verified
  | _ => s

/-- R164: the completion of a burn. -/
def execBurnComplete (verified : Bool) (s : State) : Host.Outcome State Fault Refusal := .next (s.burnCompletes verified)

/-- A revoke in flight completes (R165). -/
def State.revokeCompletes (s : State) (verified : Bool) : State :=
  match s.rst.operation with
  | some (.revoke k) => s.finishRevoke k verified
  | _ => s

/-- R165: the completion of a revoke. -/
def execRevokeComplete (verified : Bool) (s : State) : Host.Outcome State Fault Refusal := .next (s.revokeCompletes verified)

/-- A geometry burn in flight completes (R166). -/
def State.geometryCompletes (s : State) (verified : Bool) : State :=
  match s.rst.operation with
  | some (.geometry g) => s.finishGeometry g verified
  | _ => s

/-- R166: the completion of a geometry burn. -/
def execBurnGeometryComplete (verified : Bool) (s : State) : Host.Outcome State Fault Refusal :=
  .next (s.geometryCompletes verified)

end Sys2Proof.Machine
end

