-- ==== Sys2Proof/Machine/TableRequests.lean ====
section
/-!
DEFINITION. Meanings: the request frame (R181, R183) and the requests that the Remap Table and the Slot Directory decide (R13,
R14, R22, R23, R38 to R41).
-/

namespace Sys2Proof.Machine

/-! ## REQUEST_FRAME -/

/-- A frame is checked and then answered at once or taken in hand (R181, R183). -/
def State.takeFrame (s : State) (bytes : List Byte) : State :=
  match frameCheck bytes with
  | .refused st => s.refuseFrame (frameTag bytes) st
  | .request q => s.acceptRequest (frameTag bytes) q

/-- R181, R183: a write transaction ends. One without bytes is not a frame; while the power-on reset input is asserted the port
does not acknowledge its address (R172). -/
def execRequestFrame (bytes : List Byte) (s : State) : Host.Outcome State Fault Refusal :=
  .next (if s.powerHeld ∨ bytes.isEmpty then s else s.takeFrame bytes)

/-! ## Remap Table -/

/-- R22. -/
def State.decideTableRead (index : Byte) (s : State) : State :=
  s.whenLoaded (s.whenSome (indexOf 96 index) fun i => s.answer .ok (.entry i (s.entry i) s.rmt.generation))

/-- R22: TABLE_READ. -/
def execTableRead (index : Byte) (s : State) : Host.Outcome State Fault Refusal :=
  .next (s.takeRequest (.tableRead index) (State.decideTableRead index))

/-- R23. -/
def State.decideTableFind (rank bank : Byte) (row : RowField) (s : State) : State :=
  s.whenActive fun g => s.whenSome (originOf g rank bank row) fun o =>
    match s.lookup o with
    | some i => s.answer .ok (.entry i (s.entry i) s.rmt.generation)
    | none => s.answer .notFound (.generation s.rmt.generation)

/-- R23: TABLE_FIND. -/
def execTableFind (rank bank : Byte) (row : RowField) (s : State) : Host.Outcome State Fault Refusal :=
  .next (s.takeRequest (.tableFind rank bank row) (State.decideTableFind rank bank row))

/-- Whether a burn or revoke is in flight for the record of a stage (R13). -/
def State.burningRecord (s : State) (staged : Option RecIx) : Bool :=
  match staged, s.rst.operation with
  | some k, some (.burn k' _ _ _) => k == k'
  | some k, some (.revoke k') => k == k'
  | _, _ => false

/-- Whether the spare row of a slot is open in its bank (R14, R62). -/
def State.spareOpen (s : State) (g : Geometry) (o : Origin) (k : SlotNo) : Bool :=
  match s.record o.rank o.bank with
  | some x => x.physical == g.slotRow k
  | none => false

/-- A release that passed its checks (R14): the stage is cancelled, and the entry becomes RETIRING while its spare row is open
and FREE otherwise. -/
def State.release (s : State) (g : Geometry) (i : EntryIx) (o : Origin) (k : SlotNo) (moves : Nat) : State :=
  let s1 := s.cancelStageFor i
  if s.spareOpen g o k then
    (((s1.setEntry i (.retiring o k moves)).removeSlotItems o)).answer .ok (.released .retiring)
  else (s1.freeEntry i o k).answer .ok (.released .free)

/-- R13. -/
def State.decideRelease (index : Byte) (s : State) : State :=
  s.whenActive fun g => s.whenSome (indexOf 96 index) fun i =>
    match s.entry i with
    | .free => s.refuse .notFound
    | .live o k moves staged => if s.burningRecord staged then s.refuse .state else s.release g i o k moves
    | _ => s.refuse .state

/-- R13, R14: RELEASE. -/
def execRelease (index : Byte) (s : State) : Host.Outcome State Fault Refusal :=
  .next (s.takeRequest (.release index) (State.decideRelease index))

/-! ## Slot Directory -/

/-- R41. -/
def State.decideSlotRead (rank bank slot : Byte) (s : State) : State :=
  s.whenActive fun g => s.whenSome (slotPlaceOf g rank bank slot) fun p =>
    s.answer .ok (.slot p.rank p.bank p.slot (s.slot p.rank p.bank p.slot))

/-- R41: SLOT_READ. -/
def execSlotRead (rank bank slot : Byte) (s : State) : Host.Outcome State Fault Refusal :=
  .next (s.takeRequest (.slotRead rank bank slot) (State.decideSlotRead rank bank slot))

/-- R38. -/
def State.decideTestBegin (rank bank slot : Byte) (s : State) : State :=
  s.whenActive fun g => s.whenSome (slotPlaceOf g rank bank slot) fun p =>
    match (s.slot p.rank p.bank p.slot).state with
    | .free => (s.setSlotState p.rank p.bank p.slot (.testing false)).answer .ok .none
    | _ => s.refuse .state

/-- R38: SLOT_TEST_BEGIN. -/
def execSlotTestBegin (rank bank slot : Byte) (s : State) : Host.Outcome State Fault Refusal :=
  .next (s.takeRequest (.slotTestBegin rank bank slot) (State.decideTestBegin rank bank slot))

/-- The grade a test ends with (R39). -/
def testGrade (pass faultSeen : Bool) : Grade := if pass && !faultSeen then .good else .bad

/-- The operands of SLOT_TEST_END (R39). -/
def testEndOf (g : Geometry) (rank bank slot verdict : Byte) : Option (SlotPlace × Bool) :=
  match slotPlaceOf g rank bank slot, verdictOf verdict with
  | some p, some v => some (p, v)
  | _, _ => none

/-- R39. -/
def State.decideTestEnd (rank bank slot verdict : Byte) (s : State) : State :=
  s.whenActive fun g => s.whenSome (testEndOf g rank bank slot verdict) fun a =>
    match (s.slot a.1.rank a.1.bank a.1.slot).state with
    | .testing seen =>
      (s.setSlot a.1.rank a.1.bank a.1.slot ⟨.free, testGrade a.2 seen⟩).answer .ok (.grade (testGrade a.2 seen))
    | _ => s.refuse .state

/-- R39: SLOT_TEST_END. -/
def execSlotTestEnd (rank bank slot verdict : Byte) (s : State) : Host.Outcome State Fault Refusal :=
  .next (s.takeRequest (.slotTestEnd rank bank slot verdict) (State.decideTestEnd rank bank slot verdict))

/-- The operands of SLOT_GRADE (R40). -/
def gradeArgsOf (g : Geometry) (rank bank slot grade : Byte) : Option (SlotPlace × Grade) :=
  match slotPlaceOf g rank bank slot, gradeOf grade with
  | some p, some x => some (p, x)
  | _, _ => none

/-- R40. -/
def State.decideSlotGrade (rank bank slot grade : Byte) (s : State) : State :=
  s.whenActive fun g => s.whenSome (gradeArgsOf g rank bank slot grade) fun a =>
    match (s.slot a.1.rank a.1.bank a.1.slot).state with
    | .free => (s.setSlot a.1.rank a.1.bank a.1.slot ⟨.free, a.2⟩).answer .ok .none
    | _ => s.refuse .state

/-- R40: SLOT_GRADE. -/
def execSlotGrade (rank bank slot grade : Byte) (s : State) : Host.Outcome State Fault Refusal :=
  .next (s.takeRequest (.slotGrade rank bank slot grade) (State.decideSlotGrade rank bank slot grade))

end Sys2Proof.Machine
end

