-- ==== Sys2Proof/Machine/RepairRequests.lean ====
section
/-!
DEFINITION. Meanings: the requests that the Migration Engine, the Watch List and the Policy Unit decide (R70, R71, R93, R94,
R136, R137, R142 to R146).
-/

namespace Sys2Proof.Machine

/-! ## Migration Engine -/

/-- R94. -/
def State.decideContextRead (context : Byte) (s : State) : State :=
  s.whenLoaded (s.whenSome (indexOf 4 context) fun c => s.answer .ok (.context c (s.ctx c)))

/-- R94: CONTEXT_READ. -/
def execContextRead (context : Byte) (s : State) : Host.Outcome State Fault Refusal :=
  .next (s.takeRequest (.contextRead context) (State.decideContextRead context))

/-- R70, R71. -/
def State.decideRepair (rank bank : Byte) (row : RowField) (s : State) : State :=
  s.whenActive fun g => s.whenSome (originOf g rank bank row) fun o => s.answerLaunch (s.launchFirst o)

/-- R70, R71: REPAIR. -/
def execRepair (rank bank : Byte) (row : RowField) (s : State) : Host.Outcome State Fault Refusal :=
  .next (s.takeRequest (.repair rank bank row) (State.decideRepair rank bank row))

/-- R70, R71. -/
def State.decideMove (index : Byte) (s : State) : State :=
  s.whenActive fun _ => s.whenSome (indexOf 96 index) fun i => s.answerLaunch (s.launchMove i)

/-- R70, R71: MOVE. -/
def execMove (index : Byte) (s : State) : Host.Outcome State Fault Refusal :=
  .next (s.takeRequest (.move index) (State.decideMove index))

/-- The payload of CANCEL: the state the context entered (R93). -/
def State.cancelPayload (s : State) (c : Ctx) : Payload := .cancelled (!(s.ctx c).isIdle)

/-- R93. -/
def State.decideCancel (context : Byte) (s : State) : State :=
  s.whenActive fun _ => s.whenSome (indexOf 4 context) fun c =>
    match (s.ctx c).activeJob with
    | some _ => (s.abort c .cancelled).answer .ok ((s.abort c .cancelled).cancelPayload c)
    | none => s.refuse .state

/-- R93: CANCEL. -/
def execCancel (context : Byte) (s : State) : Host.Outcome State Fault Refusal :=
  .next (s.takeRequest (.cancel context) (State.decideCancel context))

/-! ## Watch List -/

/-- R136. -/
def State.decideWatchRead (position : Byte) (s : State) : State :=
  s.whenLoaded (s.whenSome (indexOf 32 position) fun p =>
    match s.wls.items[p.val]? with
    | some i => s.answer .ok (.item i s.wls.items.length)
    | none => s.answer .notFound (.itemCount s.wls.items.length))

/-- R136: WATCH_READ. -/
def execWatchRead (position : Byte) (s : State) : Host.Outcome State Fault Refusal :=
  .next (s.takeRequest (.watchRead position) (State.decideWatchRead position))

/-- The key that WATCH_CLEAR names (R137). -/
def keyOf (g : Geometry) (rank bank : Byte) (row : RowField) (subject : Byte) : Option Key :=
  match originOf g rank bank row, subjectOf subject with
  | some o, some x => some ⟨o, x⟩
  | _, _ => none

/-- R137. -/
def State.decideWatchClear (rank bank : Byte) (row : RowField) (subject : Byte) (s : State) : State :=
  s.whenActive fun g => s.whenSome (keyOf g rank bank row subject) fun k =>
    match s.findItem k with
    | none => s.refuse .notFound
    | some i => if i.inRepair.isSome then s.refuse .state else (s.removeItem k).answer .ok .none

/-- R137: WATCH_CLEAR. -/
def execWatchClear (rank bank : Byte) (row : RowField) (subject : Byte) (s : State) : Host.Outcome State Fault Refusal :=
  .next (s.takeRequest (.watchClear rank bank row subject) (State.decideWatchClear rank bank row subject))

/-! ## Policy Unit -/

/-- R146. -/
def State.decideProfileRead (p : Byte) (s : State) : State :=
  s.whenLoaded (s.whenSome (indexOf 2 p) fun k =>
    s.answer .ok (.profile s.pol.profiles[k] s.pol.run s.pol.edit s.pol.pendingRun))

/-- R146: PROFILE_READ. -/
def execProfileRead (p : Byte) (s : State) : Host.Outcome State Fault Refusal :=
  .next (s.takeRequest (.profileRead p) (State.decideProfileRead p))

/-- R142. -/
def State.decideEditSelect (p : Byte) (s : State) : State :=
  s.whenLoaded (s.whenSome (indexOf 2 p) fun k => ({ s with pol := { s.pol with edit := k } }).answer .ok .none)

/-- R142: PROFILE_EDIT_SELECT. -/
def execProfileEditSelect (p : Byte) (s : State) : Host.Outcome State Fault Refusal :=
  .next (s.takeRequest (.profileEditSelect p) (State.decideEditSelect p))

/-- Writes the edit profile. -/
def State.setEditProfile (s : State) (x : Profile) : State :=
  { s with pol := { s.pol with profiles := s.pol.profiles.set s.pol.edit.val x s.pol.edit.isLt } }

/-- R143. -/
def State.decideProfileWrite (field : Byte) (value : BitVec 16) (s : State) : State :=
  s.whenLoaded (s.whenSome ((s.pol.profiles[s.pol.edit]).write field value) fun x =>
    if s.pol.edit = s.pol.run then s.refuse .state else (s.setEditProfile x).answer .ok .none)

/-- R143: PROFILE_WRITE. -/
def execProfileWrite (field : Byte) (value : BitVec 16) (s : State) : Host.Outcome State Fault Refusal :=
  .next (s.takeRequest (.profileWrite field value) (State.decideProfileWrite field value))

/-- R144. -/
def State.decideRunSelect (p : Byte) (s : State) : State :=
  s.whenLoaded (s.whenSome (indexOf 2 p) fun k => ({ s with pol := { s.pol with pendingRun := some k } }).answer .ok .none)

/-- R144: PROFILE_RUN_SELECT. -/
def execProfileRunSelect (p : Byte) (s : State) : Host.Outcome State Fault Refusal :=
  .next (s.takeRequest (.profileRunSelect p) (State.decideRunSelect p))

end Sys2Proof.Machine
end

