-- ==== Sys2Proof/Machine/StoreRequests.lean ====
section
/-!
DEFINITION. Meanings: the requests that the Repair Store decides (R159, R163, R165 to R167, R169).
-/

namespace Sys2Proof.Machine

/-- Decides a request that could begin an operation: LOCKED, then BUSY, then its own checks (R159, R163, R165, R166). -/
def State.whenEngineFree (s : State) (k : State) : State :=
  if s.rst.lock then s.refuse .locked
  else if s.rst.operation.isSome then s.refuse .busy
  else k

/-- The burn engine begins an operation, and the request is answered ACCEPTED (R162, R185). -/
def State.beginOperation (s : State) (x : Operation) : State :=
  ({ s with rst := { s.rst with operation := some x } }).answer .accepted .none

/-! ## STAGE -/

/-- Whether a record is WRITTEN with an origin's rank and bank and with its row or a slot (R159). -/
def RecordState.names (r : RecordState) (o : Origin) (k : SlotNo) : Bool :=
  match r with
  | .written o' k' => o'.rank == o.rank && o'.bank == o.bank && (o'.row == o.row || k' == k)
  | _ => false

/-- Whether any WRITTEN record names an origin or its slot (R159). -/
def State.storeNames (s : State) (o : Origin) (k : SlotNo) : Bool :=
  (List.finRange 40).any fun r => (s.storeRecord r).names o k

/-- A stage is taken: the register enters PROBATION with both timers started, and the entry is marked (R159, R18). -/
def State.takeStage (s : State) (i : EntryIx) (o : Origin) (k : SlotNo) (moves : Nat) (r : RecIx) : State :=
  ((s.setStage (.probation i r Config.probationLength Config.expiryLength)).setEntry i (.live o k moves (some r))).answer .ok
    (.staged r)

/-- The checks of STAGE on the entry (R159). -/
def State.stageEntry (s : State) (i : EntryIx) : State :=
  match s.entry i with
  | .free => s.refuse .notFound
  | .live o k moves none =>
    if s.storeNames o k then s.refuse .state
    else match s.lowestBlankRecord with
      | some r => s.takeStage i o k moves r
      | none => s.refuse .storeFull
  | _ => s.refuse .state

/-- R159. -/
def State.decideStage (index : Byte) (s : State) : State :=
  s.whenActive fun _ => s.whenSome (indexOf 96 index) fun i => s.whenEngineFree
    (if s.rst.stage = .empty then s.stageEntry i else s.refuse .state)

/-- R159: STAGE. -/
def execStage (index : Byte) (s : State) : Host.Outcome State Fault Refusal :=
  .next (s.takeRequest (.stage index) (State.decideStage index))

/-! ## BURN -/

/-- The origin and slot a burn latches from the staged entry. An entry that does not redirect has none; the law of R158 rules
that out while a stage is held. -/
def Entry.image (e : Entry) : Option (Origin × SlotNo) :=
  match e.origin, e.slot with
  | some o, some k => some (o, k)
  | _, _ => none

/-- R163. A staged entry without an image, which R158 rules out, is answered STATE (DESIGN CHOICE, assumption 13). -/
def State.decideBurn (s : State) : State :=
  s.whenActive fun _ => s.whenEngineFree
    (match s.rst.stage with
    | .ready i r _ => match (s.entry i).image with
      | some (o, k) => (s.setStage (.committed i r)).beginOperation (.burn r i o k)
      | none => s.refuse .state
    | .probation .. => s.refuse .early
    | .empty => s.refuse .state
    | .committed .. => s.refuse .state)

/-- R163: BURN. -/
def execBurn (s : State) : Host.Outcome State Fault Refusal := .next (s.takeRequest .burn State.decideBurn)

/-! ## REVOKE, BURN_GEOMETRY, LOCK_STORE -/

/-- R165. -/
def State.decideRevoke (record : Byte) (s : State) : State :=
  s.whenActive fun _ => s.whenSome (indexOf 40 record) fun r => s.whenEngineFree
    (match s.storeRecord r with
    | .written _ _ => s.beginOperation (.revoke r)
    | _ => s.refuse .state)

/-- R165: REVOKE. -/
def execRevoke (record : Byte) (s : State) : Host.Outcome State Fault Refusal :=
  .next (s.takeRequest (.revoke record) (State.decideRevoke record))

/-- R166. -/
def State.decideBurnGeometry (s : State) : State :=
  s.whenLoaded (s.whenEngineFree
    (match s.geometry with
    | some g => if s.rst.geometryCells.read = .blank then s.beginOperation (.geometry g) else s.refuse .state
    | none => s.refuse .state))

/-- R166: BURN_GEOMETRY. -/
def execBurnGeometry (s : State) : Host.Outcome State Fault Refusal := .next (s.takeRequest .burnGeometry State.decideBurnGeometry)

/-- Sets the store lock (R167). -/
def State.setLock (s : State) : State := { s with rst := { s.rst with lock := true } }

/-- R167. -/
def State.decideLockStore (s : State) : State := s.whenLoaded ((s.setLock.cancelStage).answer .ok .none)

/-- R167: LOCK_STORE. -/
def execLockStore (s : State) : Host.Outcome State Fault Refusal := .next (s.takeRequest .lockStore State.decideLockStore)

/-! ## Reading -/

/-- R169. -/
def State.decideStoreRead (record : Byte) (s : State) : State :=
  s.whenLoaded (s.whenSome (indexOf 40 record) fun r => s.answer .ok (.storeRecord (s.storeRecord r) s.rst.loadResults[r]))

/-- R169: STORE_READ. -/
def execStoreRead (record : Byte) (s : State) : Host.Outcome State Fault Refusal :=
  .next (s.takeRequest (.storeRead record) (State.decideStoreRead record))

/-- What STORE_STATUS carries (R169). -/
def State.statusPayload (s : State) : Payload :=
  .storeStatus s.rst.lock s.rst.operation s.rst.lastOperation s.rst.stage s.blankRecords s.rst.geometryCells.read

/-- R169. -/
def State.decideStoreStatus (s : State) : State := s.whenLoaded (s.answer .ok s.statusPayload)

/-- R169: STORE_STATUS. -/
def execStoreStatus (s : State) : Host.Outcome State Fault Refusal := .next (s.takeRequest .storeStatus State.decideStoreStatus)

end Sys2Proof.Machine
end

