-- ==== Sys2Proof/Machine/PortRequests.lean ====
section
/-!
DEFINITION. Meanings: the requests that the Management Port decides itself (R177, R188 to R191) and the owners' parts of a warm
reset (R44, R98, R120, R138, R170, R192).
-/

namespace Sys2Proof.Machine

/-! ## CONFIGURE -/

/-- A CONFIGURE that passed its checks (R177). -/
def State.configure (s : State) (g : Geometry) : State :=
  (s.enterActive g).answer .ok (.configured (s.load g).loaded.length (s.enterActive g).rmt.generation)

/-- R177. -/
def State.decideConfigure (ranks w : Byte) (s : State) : State :=
  match s.mode with
  | .loading => s.refuse .notReady
  | .active _ => s.refuse .state
  | .unconfigured => s.whenSome (geometryOf ranks w) fun g => s.configure g

/-- R177: CONFIGURE. -/
def execConfigure (ranks w : Byte) (s : State) : Host.Outcome State Fault Refusal :=
  .next (s.takeRequest (.configure ranks w) (State.decideConfigure ranks w))

/-! ## Conditions and ALERT -/

/-- What CONDITION_READ carries (R188). -/
def State.conditionPayload (s : State) : Payload :=
  .conditions s.port.conditions s.port.alertMask s.mode s.sbl.state s.sbl.outbound.length s.ctr.aliasCount

/-- R188. -/
def State.decideConditionRead (s : State) : State := s.whenLoaded (s.answer .ok s.conditionPayload)

/-- R188: CONDITION_READ. -/
def execConditionRead (s : State) : Host.Outcome State Fault Refusal :=
  .next (s.takeRequest .conditionRead State.decideConditionRead)

/-- R189. -/
def State.decideConditionClear (set : BitVec 32) (s : State) : State :=
  s.whenLoaded (s.whenSome (conditionSetOf set) fun x =>
    (s.clearConditions x).answer .ok (.conditionSet (s.clearConditions x).port.conditions))

/-- R189: CONDITION_CLEAR. -/
def execConditionClear (set : BitVec 32) (s : State) : Host.Outcome State Fault Refusal :=
  .next (s.takeRequest (.conditionClear set) (State.decideConditionClear set))

/-- R190. -/
def State.decideAlertMask (set : BitVec 32) (s : State) : State :=
  s.whenLoaded (s.whenSome (conditionSetOf set) fun x => (s.setAlertMask x).answer .ok .none)

/-- R190: ALERT_MASK. -/
def execAlertMask (set : BitVec 32) (s : State) : Host.Outcome State Fault Refusal :=
  .next (s.takeRequest (.alertMask set) (State.decideAlertMask set))

/-! ## WARM_RESET -/

/-- The OK is composed and the warm reset is handed to its owners; the request stays in hand until they have taken it,
in any order (R191; DEDUCED, assumption 15). -/
def State.beginWarmReset (s : State) : State :=
  let s1 := s.compose .ok .none
  { s1 with port := { s1.port with warmParts := allWarmParts } }

/-- R191. -/
def State.decideWarmReset (s : State) : State := s.whenLoaded s.beginWarmReset

/-- R191: WARM_RESET. -/
def execWarmReset (s : State) : Host.Outcome State Fault Refusal := .next (s.takeRequest .warmReset State.decideWarmReset)

/-- The Migration Engine's part of a warm reset: every migration ends with WARM_RESET (R98). A migration launched after the
link's part, once the link is UP again, ends too, and its unsent messages are removed, so that nothing is left behind (R120;
DEDUCED, assumption 15). While the link's part is still to come, the messages stay for that part to remove. -/
def State.warmMigration (s : State) : State :=
  let s1 := s.endAllSilently .warmReset
  if s.port.warmParts.contains .link then s1 else s1.purgeOutbound (OutMsg.survives s.busyContexts)

/-- R98: the Migration Engine's part. -/
def execWarmResetMigration (s : State) : Host.Outcome State Fault Refusal :=
  .next (s.takeWarmPart .migration State.warmMigration)

/-- The Sideband Link's part of a warm reset: the link goes DOWN, every context still active or CLOSING ends in that event, since
none is outside IDLE once the link has left UP (R102, R108, R112; DEDUCED, assumption 15), and the link enters GREETING (R120). -/
def State.warmLink (s : State) : State := ((s.linkDown.endAllSilently .warmReset).clearAllHeld).enterGreeting

/-- R120: the Sideband Link's part. -/
def execWarmResetLink (s : State) : Host.Outcome State Fault Refusal := .next (s.takeWarmPart .link State.warmLink)

/-- R138: the Watch List's part. -/
def execWarmResetWatch (s : State) : Host.Outcome State Fault Refusal :=
  .next (s.takeWarmPart .watch fun s => s.setItems [])

/-- A slot under test goes back to FREE with its grade kept (R44). -/
def SlotRecord.warm (x : SlotRecord) : SlotRecord :=
  match x.state with
  | .testing _ => ⟨.free, x.grade⟩
  | _ => x

/-- Every slot's record after the Slot Directory's part of a warm reset (R44). -/
def State.endTests (s : State) : State :=
  { s with sld := s.sld.map fun rank => rank.map fun bank => bank.map SlotRecord.warm }

/-- R44: the Slot Directory's part. -/
def execWarmResetSlots (s : State) : Host.Outcome State Fault Refusal := .next (s.takeWarmPart .slots State.endTests)

/-- R170: the Repair Store's part. -/
def execWarmResetStore (s : State) : Host.Outcome State Fault Refusal := .next (s.takeWarmPart .store State.cancelStage)

/-- R192: the Management Port's part. -/
def execWarmResetConditions (s : State) : Host.Outcome State Fault Refusal :=
  .next (s.takeWarmPart .conditions fun s => s.clearConditions (BitVec.allOnes 16))

end Sys2Proof.Machine
end

