-- ==== Sys2Proof/Machine/Dispatch.lean ====
section
/-! DEFINITION. The dispatch of a command to its meaning, one arm per row of the table of operations and events. -/

namespace Sys2Proof.Machine

/-- The effect of a command on everything but the queue. -/
def exec (i : Instr) (s : State) : Host.Outcome State Fault Refusal :=
  match i with
  | .powerOn => Sys2Proof.Machine.execPowerOn s
  | .powerOnResetAssert => Sys2Proof.Machine.execPowerOnResetAssert s
  | .loadComplete => Sys2Proof.Machine.execLoadComplete s
  | .activate rank bank row => Sys2Proof.Machine.execActivate rank bank row s
  | .read rank bank column => Sys2Proof.Machine.execRead rank bank column s
  | .write rank bank column => Sys2Proof.Machine.execWrite rank bank column s
  | .readAp rank bank column => Sys2Proof.Machine.execReadAp rank bank column s
  | .writeAp rank bank column => Sys2Proof.Machine.execWriteAp rank bank column s
  | .precharge rank bank => Sys2Proof.Machine.execPrecharge rank bank s
  | .prechargeAll rank => Sys2Proof.Machine.execPrechargeAll rank s
  | .refresh rank => Sys2Proof.Machine.execRefresh rank s
  | .otherCommand code => Sys2Proof.Machine.execOtherCommand code s
  | .channelReset => Sys2Proof.Machine.execChannelReset s
  | .channelResetDeassert => Sys2Proof.Machine.execChannelResetDeassert s
  | .channelResetMigration => Sys2Proof.Machine.execChannelResetMigration s
  | .channelResetTable => Sys2Proof.Machine.execChannelResetTable s
  | .sourceWriteReport => Sys2Proof.Machine.execSourceWriteReport s
  | .destWriteReport => Sys2Proof.Machine.execDestWriteReport s
  | .closeReportMigration => Sys2Proof.Machine.execCloseReportMigration s
  | .closeReportTable => Sys2Proof.Machine.execCloseReportTable s
  | .inboundFrame bytes => Sys2Proof.Machine.execInboundFrame bytes s
  | .badFrame => Sys2Proof.Machine.execBadFrame s
  | .errorNote note => Sys2Proof.Machine.execErrorNote note s
  | .copyAccept ctx round => Sys2Proof.Machine.execCopyAccept ctx round s
  | .copyRefuse ctx round reason => Sys2Proof.Machine.execCopyRefuse ctx round reason s
  | .copyDone ctx round => Sys2Proof.Machine.execCopyDone ctx round s
  | .fenceAckSet ctx round => Sys2Proof.Machine.execFenceAckSet ctx round s
  | .fenceAckRelease ctx round => Sys2Proof.Machine.execFenceAckRelease ctx round s
  | .hello level count => Sys2Proof.Machine.execHello level count s
  | .helloAck level count => Sys2Proof.Machine.execHelloAck level count s
  | .transmitBegin => Sys2Proof.Machine.execTransmitBegin s
  | .retryTimerExpiry => Sys2Proof.Machine.execRetryTimerExpiry s
  | .offerTimerExpiry ctx => Sys2Proof.Machine.execOfferTimerExpiry ctx s
  | .roundTimerExpiry ctx => Sys2Proof.Machine.execRoundTimerExpiry ctx s
  | .armTimerExpiry ctx => Sys2Proof.Machine.execArmTimerExpiry ctx s
  | .fenceTimerExpiry ctx => Sys2Proof.Machine.execFenceTimerExpiry ctx s
  | .closingFenceTimerExpiry ctx => Sys2Proof.Machine.execClosingFenceTimerExpiry ctx s
  | .decayBoundary => Sys2Proof.Machine.execDecayBoundary s
  | .retryPassStep => Sys2Proof.Machine.execRetryPassStep s
  | .nominationTake => Sys2Proof.Machine.execNominationTake s
  | .probationTimerExpiry => Sys2Proof.Machine.execProbationTimerExpiry s
  | .stageExpired => Sys2Proof.Machine.execStageExpired s
  | .burnComplete verified => Sys2Proof.Machine.execBurnComplete verified s
  | .revokeComplete verified => Sys2Proof.Machine.execRevokeComplete verified s
  | .burnGeometryComplete verified => Sys2Proof.Machine.execBurnGeometryComplete verified s
  | .requestFrame bytes => Sys2Proof.Machine.execRequestFrame bytes s
  | .tableRead index => Sys2Proof.Machine.execTableRead index s
  | .tableFind rank bank row => Sys2Proof.Machine.execTableFind rank bank row s
  | .release index => Sys2Proof.Machine.execRelease index s
  | .slotRead rank bank slot => Sys2Proof.Machine.execSlotRead rank bank slot s
  | .slotTestBegin rank bank slot => Sys2Proof.Machine.execSlotTestBegin rank bank slot s
  | .slotTestEnd rank bank slot verdict => Sys2Proof.Machine.execSlotTestEnd rank bank slot verdict s
  | .slotGrade rank bank slot grade => Sys2Proof.Machine.execSlotGrade rank bank slot grade s
  | .contextRead context => Sys2Proof.Machine.execContextRead context s
  | .repair rank bank row => Sys2Proof.Machine.execRepair rank bank row s
  | .move index => Sys2Proof.Machine.execMove index s
  | .cancel context => Sys2Proof.Machine.execCancel context s
  | .watchRead position => Sys2Proof.Machine.execWatchRead position s
  | .watchClear rank bank row subject => Sys2Proof.Machine.execWatchClear rank bank row subject s
  | .profileRead p => Sys2Proof.Machine.execProfileRead p s
  | .profileEditSelect p => Sys2Proof.Machine.execProfileEditSelect p s
  | .profileWrite field value => Sys2Proof.Machine.execProfileWrite field value s
  | .profileRunSelect p => Sys2Proof.Machine.execProfileRunSelect p s
  | .configure ranks w => Sys2Proof.Machine.execConfigure ranks w s
  | .stage index => Sys2Proof.Machine.execStage index s
  | .burn => Sys2Proof.Machine.execBurn s
  | .revoke record => Sys2Proof.Machine.execRevoke record s
  | .burnGeometry => Sys2Proof.Machine.execBurnGeometry s
  | .lockStore => Sys2Proof.Machine.execLockStore s
  | .storeRead record => Sys2Proof.Machine.execStoreRead record s
  | .storeStatus => Sys2Proof.Machine.execStoreStatus s
  | .conditionRead => Sys2Proof.Machine.execConditionRead s
  | .conditionClear set => Sys2Proof.Machine.execConditionClear set s
  | .alertMask set => Sys2Proof.Machine.execAlertMask set s
  | .warmReset => Sys2Proof.Machine.execWarmReset s
  | .warmResetMigration => Sys2Proof.Machine.execWarmResetMigration s
  | .warmResetLink => Sys2Proof.Machine.execWarmResetLink s
  | .warmResetWatch => Sys2Proof.Machine.execWarmResetWatch s
  | .warmResetSlots => Sys2Proof.Machine.execWarmResetSlots s
  | .warmResetStore => Sys2Proof.Machine.execWarmResetStore s
  | .warmResetConditions => Sys2Proof.Machine.execWarmResetConditions s

end Sys2Proof.Machine
end

