-- ==== Sys2Proof/Safety.lean ====
section
/-!
DEFINITION. The vocabulary of the claims: what it means that a request is in hand and how its decision leaves the port, which
channel command a command of the table is, what an abort and a cutover leave, and the laws that every reachable state keeps.
-/

namespace Sys2Proof.Machine

/-! ## Requests -/

/-- The command that decides a request (R184). -/
def commandOf : Request → Instr
  | .tableRead i => .tableRead i
  | .tableFind r b w => .tableFind r b w
  | .release i => .release i
  | .slotRead r b k => .slotRead r b k
  | .slotTestBegin r b k => .slotTestBegin r b k
  | .slotTestEnd r b k v => .slotTestEnd r b k v
  | .slotGrade r b k g => .slotGrade r b k g
  | .contextRead c => .contextRead c
  | .repair r b w => .repair r b w
  | .move i => .move i
  | .cancel c => .cancel c
  | .watchRead p => .watchRead p
  | .watchClear r b w k => .watchClear r b w k
  | .profileRead p => .profileRead p
  | .profileEditSelect p => .profileEditSelect p
  | .profileWrite f v => .profileWrite f v
  | .profileRunSelect p => .profileRunSelect p
  | .configure r w => .configure r w
  | .stage i => .stage i
  | .burn => .burn
  | .revoke k => .revoke k
  | .burnGeometry => .burnGeometry
  | .lockStore => .lockStore
  | .storeRead k => .storeRead k
  | .storeStatus => .storeStatus
  | .conditionRead => .conditionRead
  | .conditionClear x => .conditionClear x
  | .alertMask x => .alertMask x
  | .warmReset => .warmReset

/-- Request `q` is in hand as `h` and waits for its owner's decision (R180, R184). -/
def State.hasInHand (s : State) (h : InHand) (q : Request) : Prop :=
  s.powerHeld = false ∧ s.port.inHand = some h ∧ h.request = q ∧ s.port.warmParts = []

/-- The port after the decision of the request in hand: IDLE, with the response in RESPONSE unless it was superseded (R182). -/
def State.decided (s : State) (h : InHand) (st : Status) (p : Payload) : State :=
  { s with port := { s.port with
      inHand := none
      response := if h.superseded then s.port.response else .composed h.tag st p } }

/-! ## Commands of the channel -/

/-- The channel command that a command of the table puts on the bus, if it is one (R46). -/
def busCommand : Instr → Option ChannelCommand
  | .activate r b row => some (.activate r b row)
  | .read r b c => some (.read r b c)
  | .write r b c => some (.write r b c)
  | .readAp r b c => some (.readAp r b c)
  | .writeAp r b c => some (.writeAp r b c)
  | .precharge r b => some (.precharge r b)
  | .prechargeAll r => some (.prechargeAll r)
  | .refresh r => some (.refresh r)
  | .otherCommand k => some (.other k)
  | _ => none

/-- The state with a command driven on the downstream port and nothing else changed. -/
def State.drives (s : State) (x : ChannelCommand) : State := { s with ctr := { s.ctr with downstream := some x } }

/-- The part translates commands to a rank under a geometry (R47, R64 to R66). -/
def State.translates (s : State) (r : Rank) (g : Geometry) : Prop :=
  s.mode = .active g ∧ s.powerHeld = false ∧ s.ctr.resetLine = false ∧ r.val < g.ranks.toNat

/-! ## Power-on values -/

/-- Every block at its power-on value (R3, R31, R48, R52, R69, R74, R99, R122, R133, R139, R140, R148, R149, R155, R158, R162,
R171, R175, R180, R186, R187). -/
structure State.AtPowerOn (t : State) : Prop where
  mode : t.mode = .loading
  ready : t.ready = false
  entries : ∀ i, t.entry i = .free
  generation : t.rmt.generation = 0
  slots : ∀ r b k, t.slot r b k = ⟨if k = 0 then .sink else .free, .untested⟩
  records : ∀ r b, t.record r b = none
  aliasCount : t.ctr.aliasCount = 0
  contexts : ∀ c, t.ctx c = ⟨.idle none, none, [], none⟩
  reports : t.mge.reports = []
  link : t.sbl.state = .down ∧ t.sbl.badRun = 0 ∧ t.sbl.retryTimer = none ∧ t.sbl.outbound = [] ∧ t.sbl.waiting = []
  watch : t.wls.items = [] ∧ t.wls.counter = 0 ∧ t.wls.decayTimer = none
  profile0 : t.pol.profiles[0] = ⟨16, 512, 128, 1000, 8, true, false, 3, 20, 500, 10⟩
  profile1 : t.pol.profiles[1] = ⟨16, 512, 128, 1000, 8, false, false, 3, 20, 500, 10⟩
  selectors : t.pol.run = 0 ∧ t.pol.edit = 1 ∧ t.pol.pendingRun = none
  queues : t.pol.nominations = [] ∧ t.pol.passOrder = []
  loadResults : ∀ k : RecIx, t.rst.loadResults[k] = none
  store : t.rst.stage = .empty ∧ t.rst.operation = none ∧ t.rst.lastOperation = none ∧ t.rst.lock = false
  port : t.port.inHand = none ∧ t.port.response = .none
  conditions : t.port.conditions = 0 ∧ t.port.alertMask = BitVec.allOnes 16 ∧ t.port.alert = false

/-! ## Ends of migrations -/

/-- What of a state an event of the Migration Engine on one context may not touch: every block but the table, the directory, the
contexts, the link's queue and WAITING, the items and the conditions. -/
structure State.SameElsewhere (s t : State) : Prop where
  pending : t.pending = s.pending
  mode : t.mode = s.mode
  ready : t.ready = s.ready
  powerHeld : t.powerHeld = s.powerHeld
  pins : t.adrPins = s.adrPins ∧ t.target = s.target
  ctr : t.ctr = s.ctr
  linkState : t.sbl.state = s.sbl.state ∧ t.sbl.badRun = s.sbl.badRun ∧ t.sbl.retryTimer = s.sbl.retryTimer ∧
    t.sbl.wire = s.sbl.wire
  watch : t.wls.counter = s.wls.counter ∧ t.wls.decayTimer = s.wls.decayTimer ∧ t.wls.notes = s.wls.notes
  pol : t.pol = s.pol
  rst : t.rst = s.rst
  port : t.port.inHand = s.port.inHand ∧ t.port.response = s.port.response ∧ t.port.warmParts = s.port.warmParts ∧
    t.port.alertMask = s.port.alertMask
  freeCount : t.freeCount = s.freeCount

/-- Every slot record but one is as before. -/
def State.SlotsExcept (s t : State) (r : Rank) (b : Bank) (k : SlotNo) : Prop :=
  ∀ r' b' k', (r', b', k') ≠ (r, b, k) → t.slot r' b' k' = s.slot r' b' k'

/-- What an abort of the migration `j` of context `c` changes before its messages (R88): the entry and the slot go back, the
item's IN_REPAIR is cleared, LAST_RESULT takes the reason, MIGRATION_FAILED is raised except for WARM_RESET, and PENDING is
emptied. `key` names the item the migration is for. -/
structure State.AbortEffects (s t : State) (c : Ctx) (j : Job) (reason : AbortReason) (key : Key) : Prop where
  entry : t.entry j.entry = match s.entry j.entry with
    | .forming _ _ _ => .free
    | .moving o k _ _ m => .live o k m none
    | e => e
  otherEntries : ∀ i, i ≠ j.entry → t.entry i = s.entry i
  generation : t.rmt.generation = s.rmt.generation
  slot : t.slot j.origin.rank j.origin.bank j.destSlot =
    ⟨.free, if reason = .targetFault then .bad else (s.slot j.origin.rank j.origin.bank j.destSlot).grade⟩
  otherSlots : s.SlotsExcept t j.origin.rank j.origin.bank j.destSlot
  items : t.wls.items = s.wls.items.map fun i => if i.key = key then { i with inRepair := none } else i
  lastResult : (t.ctx c).lastResult = some (.aborted reason)
  otherContexts : ∀ d, d ≠ c → t.ctx d = s.ctx d
  conditions : t.port.conditions =
    if reason = .warmReset then s.port.conditions else s.port.conditions ||| conditionBit .migrationFailed
  elsewhere : s.SameElsewhere t

/-- The messages of an abort for a messaging reason, in order (R89). -/
def abortMsgs (c : Ctx) (j : Job) : List OutMsg :=
  if j.fenced = .no then [.cancelOrder c j.round]
  else [.cancelOrder c j.round, .fenceOrder c j.round .release j.origin]

/-- What an abort for a messaging reason leaves (R88, R89): with no fence asked the context is IDLE, otherwise it is CLOSING; the
messages join OUTBOUND as far as there is room. -/
structure State.AbortedWithMessages (s t : State) (c : Ctx) (j : Job) (reason : AbortReason) (key : Key) : Prop where
  effects : s.AbortEffects t c j reason key
  body : (t.ctx c).body =
    if j.fenced = .no then .idle (some ⟨j.direction, j.origin, j.round⟩) else .busy .closing j
  outbound : t.sbl.outbound = s.sbl.outbound ++ (abortMsgs c j).take (8 - s.sbl.outbound.length)
  timer : (t.ctx c).timer =
    if j.fenced ≠ .no ∧ s.sbl.outbound.length + 2 ≤ 8 then some j.captured.fenceTimeout else none

/-- What a cutover of the migration `j` of context `c` leaves (R85, R86), with room in OUTBOUND for the release of a held
fence. `key` names the item the migration is for. -/
structure State.CutOver (s t : State) (c : Ctx) (j : Job) (key : Key) : Prop where
  entry : t.entry j.entry = match s.entry j.entry with
    | .forming o _ _ => .live o j.destSlot 0 none
    | .moving o _ _ _ m => .live o j.destSlot (m + 1) none
    | e => e
  otherEntries : ∀ i, i ≠ j.entry → t.entry i = s.entry i
  generation : t.rmt.generation = s.rmt.generation + 1
  slot : (t.slot j.origin.rank j.origin.bank j.destSlot) =
    ⟨.mapped j.entry, (s.slot j.origin.rank j.origin.bank j.destSlot).grade⟩
  oldSlot : j.direction = .move → ∀ k, (s.entry j.entry).slot = some k → k ≠ j.destSlot →
    t.slot j.origin.rank j.origin.bank k = ⟨.free, .bad⟩
  otherSlots : ∀ r b k, (r, b, k) ≠ (j.origin.rank, j.origin.bank, j.destSlot) →
    (j.direction = .move → (r, b) = (j.origin.rank, j.origin.bank) → (s.entry j.entry).slot ≠ some k) →
    t.slot r b k = s.slot r b k
  items : t.wls.items = s.wls.items.filter fun i => i.key != key
  lastResult : (t.ctx c).lastResult = some .success
  body : (t.ctx c).body =
    if j.fenced = .held then .busy .closing j else .idle (some ⟨j.direction, j.origin, j.round⟩)
  timer : (t.ctx c).timer = if j.fenced = .held then some j.captured.fenceTimeout else none
  otherContexts : ∀ d, d ≠ c → t.ctx d = s.ctx d
  outbound : t.sbl.outbound =
    s.sbl.outbound ++ if j.fenced = .held then [.fenceOrder c j.round .release j.origin] else []
  conditions : t.port.conditions = s.port.conditions ||| conditionBit .migrationDone
  elsewhere : s.SameElsewhere t

/-! ## Messages of the link -/

/-- The command by which the Migration Engine takes a reply (R101). -/
def commandOfReply (r : Reply) : Instr :=
  match r.body with
  | .copyAccept => .copyAccept r.ctx r.round
  | .copyRefuse x => .copyRefuse r.ctx r.round x
  | .copyDone => .copyDone r.ctx r.round
  | .fenceAck .set => .fenceAckSet r.ctx r.round
  | .fenceAck .release => .fenceAckRelease r.ctx r.round

/-- The link is UP and reply `r` is the oldest it has passed on, with `rest` behind it (R101, R111). -/
def State.hasReply (s : State) (r : Reply) (rest : List Reply) : Prop :=
  s.powerHeld = false ∧ s.sbl.state = .up ∧ s.mge.replies = r :: rest

/-- The state with the replies passed on and not yet taken. -/
def State.withReplies (s : State) (l : List Reply) : State := { s with mge := { s.mge with replies := l } }

/-- Error note `n` is the oldest the link has passed on, with `rest` behind it (R101). -/
def State.hasNote (s : State) (n : ErrorNote) (rest : List ErrorNote) : Prop := s.powerHeld = false ∧ s.wls.notes = n :: rest

/-- The state with the error notes passed on and not yet taken. -/
def State.withNotes (s : State) (l : List ErrorNote) : State := { s with wls := { s.wls with notes := l } }

/-- The context state in which a reply is awaited (R91). -/
def awaitedIn : ReplyBody → BusyState
  | .copyAccept => .offering
  | .copyRefuse _ => .offering
  | .copyDone => .copying
  | .fenceAck .set => .fencing
  | .fenceAck .release => .closing

/-- Whether a message of PENDING is an order that the reply would answer and that has never been queued (R91). -/
def HeldMsg.unsentFor (b : ReplyBody) (h : HeldMsg) : Bool :=
  match b, h.msg with
  | .copyAccept, .copyOrder .. => !h.started
  | .copyRefuse _, .copyOrder .. => !h.started
  | .fenceAck a, .fenceOrder _ _ a' _ => decide (a = a') && !h.started
  | _, _ => false

/-- A reply matches the context's present state, with job `j`, and its round (R91). -/
def State.answeredBy (s : State) (r : Reply) (j : Job) : Prop :=
  (s.ctx r.ctx).body = .busy (awaitedIn r.body) j ∧ j.round = r.round.toNat ∧
    ∀ h ∈ (s.ctx r.ctx).held, h.unsentFor r.body = false

/-- What a STALE_NOTE names of a reply (R91). -/
def staleNameOf : ReplyBody → StaleKind
  | .copyAccept => .copyAccept
  | .copyRefuse _ => .copyRefuse
  | .copyDone => .copyDone
  | .fenceAck a => .fenceAck a

/-- The command by which the Migration Engine takes a report at the head of the report queue (R73, R74, R83). -/
def commandOfReport : Report → Instr
  | .sourceWrite .. => .sourceWriteReport
  | .destWrite .. => .destWriteReport
  | .close .. => .closeReportMigration

/-! ## The load -/

/-- Store record `k` was loaded, as its LOAD_RESULT says (R153, R156). -/
def State.loadedAt (s : State) (k : RecIx) : Bool :=
  match s.rst.loadResults[k] with
  | some (.loaded _) => true
  | _ => false

/-- Store record `k`, WRITTEN with origin `o` and slot `n`, passes every check of R157 in a load under `g` that left `t`. -/
def State.passesLoad (s t : State) (g : Geometry) (k : RecIx) (o : Origin) (n : SlotNo) : Prop :=
  o.rank.val < g.ranks.toNat ∧ o.row ≤ g.n - 17 ∧ n ≠ 0 ∧
    ∀ k' o' n', k' < k → t.loadedAt k' = true → s.storeRecord k' = .written o' n' →
      o' ≠ o ∧ ¬(o'.rank = o.rank ∧ o'.bank = o.bank ∧ n' = n)

/-! ## Launches -/

/-- Context `c` is the lowest-numbered IDLE context (R70). -/
def State.nextContext (s : State) (c : Ctx) : Prop := (s.ctx c).isIdle = true ∧ ∀ d, d < c → (s.ctx d).isIdle = false

/-- Entry `i` is the lowest-numbered FREE entry (R8). -/
def State.nextEntry (s : State) (i : EntryIx) : Prop := s.entry i = .free ∧ ∀ i', i' < i → s.entry i' ≠ .free

/-- No entry outside FREE has the origin (R4). -/
def State.holdsNo (s : State) (o : Origin) : Prop := ∀ i, (s.entry i).origin ≠ some o

/-- The allocation of R32 grants slot `k` of a bank. -/
def State.grants (s : State) (r : Rank) (b : Bank) (k : SlotNo) : Prop :=
  (s.slot r b k = ⟨.free, .good⟩ ∧ ∀ k', k' < k → s.slot r b k' ≠ ⟨.free, .good⟩) ∨
  (s.runProfile.allowUntested = true ∧ (∀ k', s.slot r b k' ≠ ⟨.free, .good⟩) ∧ s.slot r b k = ⟨.free, .untested⟩ ∧
    ∀ k', k' < k → s.slot r b k' ≠ ⟨.free, .untested⟩)

/-- The allocation of R32 refuses a bank with NO_SLOT. -/
def State.refusesSlot (s : State) (r : Rank) (b : Bank) : Prop :=
  (∀ k, s.slot r b k ≠ ⟨.free, .good⟩) ∧
    (s.runProfile.allowUntested = true → ∀ k, s.slot r b k ≠ ⟨.free, .untested⟩)

/-- What a granted launch leaves (R71), with room in OUTBOUND, apart from the watch items and the port. -/
structure State.Launched (s t : State) (c : Ctx) (d : Direction) (i : EntryIx) (o : Origin) (k : SlotNo) : Prop where
  entry : t.entry i = match d, s.entry i with
    | .move, .live o' old m _ => .moving o' old k c m
    | _, _ => .forming o k c
  otherEntries : ∀ i', i' ≠ i → t.entry i' = s.entry i'
  generation : t.rmt.generation = s.rmt.generation
  slot : t.slot o.rank o.bank k = ⟨.target i, (s.slot o.rank o.bank k).grade⟩
  otherSlots : s.SlotsExcept t o.rank o.bank k
  body : (t.ctx c).body = .busy .offering
    { direction := d, entry := i, origin := o, destSlot := k, round := 1, ordered := BitVec.allOnes 32, copied := 0, dirty := 0,
      fenced := .no, captured := ⟨s.runProfile.maxRounds, s.runProfile.offerTimeout, s.runProfile.roundTimeout,
        s.runProfile.fenceTimeout⟩ }
  timer : (t.ctx c).timer = some s.runProfile.offerTimeout
  kept : (t.ctx c).lastResult = (s.ctx c).lastResult ∧ (t.ctx c).held = (s.ctx c).held
  otherContexts : ∀ c', c' ≠ c → t.ctx c' = s.ctx c'
  sbl : t.sbl = { s.sbl with outbound := s.sbl.outbound ++ [.copyOrder c 1 o k (BitVec.allOnes 32)] }
  record : t.record o.rank o.bank =
    (s.record o.rank o.bank).map fun x => if x.issued = o.row then { x with role := .source c } else x
  otherRecords : ∀ r b, (r, b) ≠ (o.rank, o.bank) → t.record r b = s.record r b
  translator : t.ctr.aliasCount = s.ctr.aliasCount ∧ t.ctr.resetLine = s.ctr.resetLine ∧ t.ctr.downstream = s.ctr.downstream
  watch : t.wls.counter = s.wls.counter ∧ t.wls.decayTimer = s.wls.decayTimer ∧ t.wls.notes = s.wls.notes
  reports : t.mge.reports = s.mge.reports ∧ t.rmt.closes = s.rmt.closes
  rest : t.mode = s.mode ∧ t.pol = s.pol ∧ t.rst = s.rst ∧ t.pending = s.pending

/-- It is the Policy Unit's turn on key `k`, by a nomination under AUTO_REPAIR ON or by a step of a retry pass, and `s1` is the
state with the key taken (R148, R149). -/
def State.policyTurn (s : State) (cmd : Instr) (k : Key) (s1 : State) : Prop :=
  (∃ rest, cmd = .nominationTake ∧ s.pol.nominations = k :: rest ∧ s.runProfile.autoRepair = true ∧
    s1 = { s with pol := { s.pol with nominations := rest } }) ∨
  (∃ rest, cmd = .retryPassStep ∧ s.pol.passOrder = k :: rest ∧ s1 = { s with pol := { s.pol with passOrder := rest } })

/-! ## Silent endings (R95 to R98) -/

/-- The active migrations of a state. -/
def State.activeJobs (s : State) : List Job := (List.finRange 4).filterMap fun c => (s.ctx c).activeJob

/-- What the silent ending of every migration leaves: every context IDLE, those that were active with the reason as LAST_RESULT;
their entries and slots gone back; IN_REPAIR cleared on their items; no generation change. -/
structure State.EndedSilently (s t : State) (reason : AbortReason) : Prop where
  idle : ∀ c, (s.ctx c).isIdle = true →
    (t.ctx c).body = (s.ctx c).body ∧ (t.ctx c).lastResult = (s.ctx c).lastResult ∧ (t.ctx c).timer = (s.ctx c).timer
  ended : ∀ c st j, (s.ctx c).body = .busy st j →
    (t.ctx c).body = .idle (some ⟨j.direction, j.origin, j.round⟩) ∧ (t.ctx c).timer = none ∧ (t.ctx c).held = [] ∧
      (t.ctx c).lastResult = if st = .closing then (s.ctx c).lastResult else some (.aborted reason)
  entries : ∀ i, t.entry i = if s.activeJobs.any (fun j => j.entry == i) then
      (match s.entry i with
      | .forming _ _ _ => .free
      | .moving o k _ _ m => .live o k m none
      | e => e) else s.entry i
  generation : t.rmt.generation = s.rmt.generation
  slots : ∀ r b k, t.slot r b k =
    if s.activeJobs.any (fun j => j.origin.rank == r && j.origin.bank == b && j.destSlot == k) then
      ⟨.free, (s.slot r b k).grade⟩ else s.slot r b k
  items : t.wls.items = s.wls.items.map fun x =>
    if s.activeJobs.any (fun j => s.migrationKey j == x.key) then { x with inRepair := none } else x

/-- MIGRATION_FAILED as a set of kinds, when a state holds an active migration. -/
def State.failedBit (s : State) : BitVec 16 := if s.activeJobs = [] then 0 else conditionBit .migrationFailed

/-! ## Scoring -/

/-- A note of a class and weight scored under a key: the items and the creation counter after it, whether the item is newly
nominated, and whether WATCH_FULL is raised (R127 to R131). `r` is the context of a migration already running for the subject. -/
inductive Scored (s : State) (key : Key) (cls : NoteClass) (w : Nat) (r : Option Ctx) :
    List WatchItem → BitVec 32 → Bool → Bool → Prop where
  /-- an item holds the key (R128) -/
  | existing (x : WatchItem) (nom : Bool) :
      s.wls.items.find? (fun i => i.key == key) = some x →
      nom = (!x.nominated && decide (s.runProfile.nominateThreshold ≤ min 1023 (x.score + w))) →
      Scored s key cls w r
        (s.wls.items.map fun i => if i.key = key then { i with
          score := min 1023 (i.score + w), notes := min 65535 (i.notes + 1), lastClass := cls,
          nominated := i.nominated || nom } else i)
        s.wls.counter nom false
  /-- no item and weight 0 (R127) -/
  | ignored : s.wls.items.find? (fun i => i.key == key) = none → w = 0 →
      Scored s key cls w r s.wls.items s.wls.counter false false
  /-- a new item, with room (R129) -/
  | created (nom : Bool) : s.wls.items.find? (fun i => i.key == key) = none → 0 < w → s.wls.items.length < 32 →
      nom = decide (s.runProfile.nominateThreshold ≤ w) →
      Scored s key cls w r (s.wls.items ++ [⟨key, w, 1, cls, nom, r, none, s.wls.counter⟩]) (s.wls.counter + 1) nom false
  /-- a new item in place of a victim of lower score (R130) -/
  | evicted (v : WatchItem) (nom : Bool) : s.wls.items.find? (fun i => i.key == key) = none → 32 ≤ s.wls.items.length →
      v ∈ s.wls.items → v.nominated = false → (∀ x ∈ s.wls.items, x.nominated = false → v.score ≤ x.score) →
      s.wls.items.find? (fun x => !x.nominated && x.score == v.score) = some v → v.score < w →
      nom = decide (s.runProfile.nominateThreshold ≤ w) →
      Scored s key cls w r ((s.wls.items.filter fun x => x.key != v.key) ++ [⟨key, w, 1, cls, nom, r, none, s.wls.counter⟩])
        (s.wls.counter + 1) nom false
  /-- no victim of lower score (R130) -/
  | dropped : s.wls.items.find? (fun i => i.key == key) = none → 0 < w → 32 ≤ s.wls.items.length →
      (∀ x ∈ s.wls.items, x.nominated = false → w ≤ x.score) →
      Scored s key cls w r s.wls.items s.wls.counter false true

/-! ## The laws of a reachable state -/

/-- R187: ALERT goes by its test. -/
def State.AlertFollows (s : State) : Prop := s.port.alert = (s.port.conditions &&& s.port.alertMask != 0)

/-- R175, R172: READY is low exactly in LOADING, and the part is in LOADING while the power-on reset input is asserted. -/
def State.ReadyFollows (s : State) : Prop :=
  s.ready = decide (s.mode ≠ .loading) ∧ (s.powerHeld = true → s.mode = .loading)

/-- R74, R99, R110, R113, R121, R148, R149: no queue outgrows its capacity, and BAD_RUN is below 4. -/
def State.QueuesBounded (s : State) : Prop :=
  s.mge.reports.length ≤ 32 ∧ s.sbl.outbound.length ≤ 8 ∧ s.sbl.badRun ≤ 3 ∧ s.wls.items.length ≤ 32 ∧
    s.pol.nominations.length ≤ 32 ∧ s.pol.passOrder.length ≤ 32

/-- R2, R11: MOVES is at most 3, and at most 2 while a move is running. -/
def Entry.MovesBounded : Entry → Prop
  | .live _ _ m _ => m ≤ 3
  | .moving _ _ _ _ m => m ≤ 2
  | .retiring _ _ m => m ≤ 3
  | .permanent _ _ m _ => m ≤ 3
  | _ => True

/-- R11: no entry's MOVES exceeds its bound. -/
def State.MovesBounded (s : State) : Prop := ∀ i, (s.entry i).MovesBounded

/-- R1, R27, R32: no entry, context or engine names slot 0, and slot 0 of every bank is SINK and UNTESTED. -/
def State.SinkKept (s : State) : Prop :=
  (∀ r b, s.slot r b 0 = ⟨.sink, .untested⟩) ∧
  (∀ i, (s.entry i).slot ≠ some 0 ∧ (s.entry i).nextSlot ≠ some 0) ∧
  (∀ c st j, (s.ctx c).body = .busy st j → j.destSlot ≠ 0) ∧
  (∀ k i o n, s.rst.operation = some (.burn k i o n) → n ≠ 0)

/-- R4: no two entries outside FREE share an origin, and none is outside FREE before the part is ACTIVE (R3). -/
def State.OriginsUnique (s : State) : Prop :=
  (∀ i k o, (s.entry i).origin = some o → (s.entry k).origin = some o → i = k) ∧
  (s.geometry = none → ∀ i, s.entry i = .free)

/-- R153, R158, R162: a record reserved by a stage or under a burn is BLANK, a record under a revoke is WRITTEN, and the geometry
area under a burn is BLANK. -/
def State.StoreSound (s : State) : Prop :=
  (∀ i k p x, s.rst.stage = .probation i k p x → s.storeRecord k = .blank) ∧
  (∀ i k x, s.rst.stage = .ready i k x → s.storeRecord k = .blank) ∧
  (∀ k i o n, s.rst.operation = some (.burn k i o n) → s.storeRecord k = .blank) ∧
  (∀ k, s.rst.operation = some (.revoke k) → ∃ o n, s.storeRecord k = .written o n) ∧
  (∀ g, s.rst.operation = some (.geometry g) → s.rst.geometryCells.read = .blank)

/-- R122: no two items have the same key. -/
def State.KeysUnique (s : State) : Prop := (s.wls.items.map WatchItem.key).Nodup

/-- R68, R72, R139: MAX_ROUNDS is 1..6, ROUND is 1..MAX_ROUNDS+1, a round beyond MAX_ROUNDS runs with the fence held only, and in
FENCING the fence is asked for and not yet held. -/
def State.RoundsBounded (s : State) : Prop :=
  (∀ p : ProfileNo, 1 ≤ s.pol.profiles[p].maxRounds ∧ s.pol.profiles[p].maxRounds ≤ 6) ∧
  ∀ c st j, (s.ctx c).body = .busy st j →
    1 ≤ j.captured.maxRounds ∧ j.captured.maxRounds ≤ 6 ∧ 1 ≤ j.round ∧ j.round ≤ j.captured.maxRounds + 1 ∧
    (j.captured.maxRounds < j.round → j.fenced = .held) ∧ (st = .fencing → j.fenced = .requested)

/-- R69, R99, R102: an IDLE context holds no message and runs no timer; every context is IDLE until the part is ACTIVE and whenever
the link is not UP, and then nothing waits and OUTBOUND holds greetings only. -/
def State.LinkQuiet (s : State) : Prop :=
  (∀ c, (s.ctx c).isIdle = true → (s.ctx c).held = [] ∧ (s.ctx c).timer = none) ∧
  ((∀ g, s.mode ≠ .active g) → ∀ c, (s.ctx c).isIdle = true) ∧
  (s.sbl.state ≠ .up → (∀ c, (s.ctx c).isIdle = true) ∧ s.sbl.waiting = [] ∧ ∀ m ∈ s.sbl.outbound, m = .hello ∨ m = .helloAck)

/-- Context `c` is active on entry `i` of origin `o` with destination `k` (R69). -/
def State.migrates (s : State) (c : Ctx) (d : Direction) (i : EntryIx) (o : Origin) (k : SlotNo) : Prop :=
  ∃ j, (s.ctx c).activeJob = some j ∧ j.direction = d ∧ j.entry = i ∧ j.origin = o ∧ j.destSlot = k

/-- R3, R14, R18, R29, R71, R163: the table, the directory, the contexts and the stage name one another. -/
structure State.TablesTied (s : State) : Prop where
  /-- no entry is outside FREE before the part is ACTIVE -/
  table : (∀ g, s.mode ≠ .active g) → ∀ i, s.entry i = .free
  /-- an entry's slots name it, and the context of a FORMING or MOVING entry is active on it -/
  entries : ∀ i, match s.entry i with
    | .free => True
    | .forming o k c => (s.slot o.rank o.bank k).state = .target i ∧ s.migrates c .first i o k
    | .live o k _ _ => (s.slot o.rank o.bank k).state = .mapped i
    | .moving o k n c _ =>
      (s.slot o.rank o.bank k).state = .mapped i ∧ (s.slot o.rank o.bank n).state = .target i ∧ s.migrates c .move i o n
    | .retiring o k _ => (s.slot o.rank o.bank k).state = .mapped i
    | .permanent o k _ _ => (s.slot o.rank o.bank k).state = .permanent i
  /-- a slot in use names the entry whose slot it is -/
  slots : ∀ r b k, match (s.slot r b k).state with
    | .target i => ∃ o, (s.entry i).origin = some o ∧ o.rank = r ∧ o.bank = b ∧ (s.entry i).nextSlot = some k
    | .mapped i => ∃ o, (s.entry i).origin = some o ∧ o.rank = r ∧ o.bank = b ∧ (s.entry i).slot = some k ∧
      ∀ o' k' m r', s.entry i ≠ .permanent o' k' m r'
    | .permanent i => ∃ o m r', s.entry i = .permanent o k m r' ∧ o.rank = r ∧ o.bank = b
    | _ => True
  /-- an active context's entry is FORMING or MOVING for it -/
  contexts : ∀ c j, (s.ctx c).activeJob = some j →
    (j.direction = .first ∧ s.entry j.entry = .forming j.origin j.destSlot c) ∨
    (j.direction = .move ∧ ∃ k m, s.entry j.entry = .moving j.origin k j.destSlot c m)
  /-- a stage in PROBATION or READY, and a burn, keep their LIVE entry marked with their record -/
  stage : (∀ i r p x, s.rst.stage = .probation i r p x → ∃ o n m, s.entry i = .live o n m (some r)) ∧
    (∀ i r x, s.rst.stage = .ready i r x → ∃ o n m, s.entry i = .live o n m (some r)) ∧
    (∀ k i o n, s.rst.operation = some (.burn k i o n) → s.rst.stage = .committed i k ∧ ∃ m, s.entry i = .live o n m (some k))

end Sys2Proof.Machine
end

