-- ==== Sys2Proof/Certificates/Slice0/Obligations.lean ====
section
/-!
DEFINITION. The statements for the provers. Each docstring names the rules of spec/ that the statement rests on. A statement whose
conclusion is `exec c s = .next t` also says that the command completes there.
-/

open Sys2Proof Sys2Proof.Machine

/-! ## The whole machine -/

/-- The model's choice (assumption 18): a step runs the command at the front of the queue on the state with the queue's rest. -/
def Obligations.StepRunsFront : Prop :=
  ∀ (c : Instr) (rest : List Instr) (s : State),
    step { s with pending := c :: rest } = exec c { s with pending := rest }

/-- The model's choice (assumption 1): with nothing waiting, every running timer has one ms less to run and nothing else changes;
while the power-on reset input is asserted no timer runs. -/
def Obligations.IdleStepPassesOneMs : Prop :=
  ∀ s : State, s.pending = [] →
    (s.powerHeld = true → step s = .next s) ∧
    (s.powerHeld = false → step s = .next { s with
      mge := { s.mge with contexts := s.mge.contexts.map fun x => { x with timer := x.timer.map (· - 1) } }
      sbl := { s.sbl with retryTimer := s.sbl.retryTimer.map (· - 1) }
      wls := { s.wls with decayTimer := s.wls.decayTimer.map (· - 1) }
      rst := { s.rst with stage := match s.rst.stage with
        | .probation e r p x => .probation e r (p - 1) (x - 1)
        | .ready e r x => .ready e r (x - 1)
        | x => x } })

/-- The model's choice (assumption 18): the queue of commands waiting is the senders', and no command's effect touches it. -/
def Obligations.QueueIsTheSenders : Prop := ∀ (c : Instr) (s t : State), exec c s = .next t → t.pending = s.pending

/-- The laws of a reachable state hold right after power-on. The values the spec does not give at reset (assumption 9) play no
part in them. -/
def Obligations.LawsHoldAtReset : Prop :=
  State.reset.AlertFollows ∧ State.reset.ReadyFollows ∧ State.reset.QueuesBounded ∧ State.reset.MovesBounded ∧
  State.reset.SinkKept ∧ State.reset.OriginsUnique ∧ State.reset.StoreSound ∧
  State.reset.KeysUnique ∧ State.reset.RoundsBounded ∧ State.reset.LinkQuiet ∧ State.reset.TablesTied

/-- R187, R175: every step keeps ALERT at its test, and READY low in LOADING and high in the other modes. -/
def Obligations.StepKeepsOutputs : Prop :=
  ∀ s t : State, s.AlertFollows → s.ReadyFollows → step s = .next t → t.AlertFollows ∧ t.ReadyFollows

/-- R74, R99, R110, R113, R121, R148, R149: every step keeps the report queue, OUTBOUND, BAD_RUN, the watch list, the nomination
queue and the pass order within their bounds. -/
def Obligations.StepKeepsQueuesBounded : Prop := ∀ s t : State, s.QueuesBounded → step s = .next t → t.QueuesBounded

/-- R11: every step keeps MOVES within its bound. -/
def Obligations.StepKeepsMovesBounded : Prop := ∀ s t : State, s.MovesBounded → step s = .next t → t.MovesBounded

/-- R27: every step keeps slot 0 of every bank in SINK, and no entry, migration or burn names it. -/
def Obligations.StepKeepsSink : Prop := ∀ s t : State, s.SinkKept → step s = .next t → t.SinkKept

/-- R4: every step keeps the origins of the entries outside FREE apart. -/
def Obligations.StepKeepsOriginsUnique : Prop := ∀ s t : State, s.OriginsUnique → step s = .next t → t.OriginsUnique

/-- R158, R162: every step keeps the records that a stage or an operation names in the state their rules give. -/
def Obligations.StepKeepsStoreSound : Prop := ∀ s t : State, s.StoreSound → step s = .next t → t.StoreSound

/-- R29, R68, R69, R71, R72, R99, R102, R122: every step keeps four laws. The keys of the watch items are apart; ROUND stays within
MAX_ROUNDS and the one fenced round; contexts are IDLE and OUTBOUND holds greetings only whenever the link is not UP; and the table,
the directory, the contexts and the stage name one another. -/
def Obligations.StepKeepsMigrationsTied : Prop :=
  ∀ s t : State, step s = .next t →
    (s.KeysUnique → t.KeysUnique) ∧ (s.RoundsBounded → t.RoundsBounded) ∧ (s.LinkQuiet → t.LinkQuiet) ∧
    (s.TablesTied → t.TablesTied)

/-- R175, with R171: READY is low from the power events, stays low while the power-on reset input is held asserted, goes high in the
load-complete event, whichever mode that leads to, and stays as it is at every other command. The mode moves forward only: apart from the two power events no command takes the part out
of ACTIVE, changes the geometry in force, or takes it back to LOADING. -/
def Obligations.ReadyAndModeMoveForward : Prop :=
  (∀ s : State, ∃ t, exec .powerOn s = .next t ∧ t.ready = false ∧ t.mode = .loading) ∧
  (∀ s : State, ∃ t, exec .powerOnResetAssert s = .next t ∧ t.ready = false ∧ t.mode = .loading) ∧
  (∀ s : State, s.powerHeld = false → s.mode = .loading →
    ∃ t, exec .loadComplete s = .next t ∧ t.ready = true ∧ t.mode ≠ .loading) ∧
  (∀ s : State, s.powerHeld = true → exec .loadComplete s = .next s) ∧
  (∀ (c : Instr) (s t : State), c ≠ .powerOn → c ≠ .powerOnResetAssert → exec c s = .next t →
    (∀ g, s.mode = .active g → t.mode = .active g) ∧ (s.mode = .unconfigured → t.mode ≠ .loading) ∧
    (c ≠ .loadComplete ∨ s.mode ≠ .loading → t.ready = s.ready) ∧
    (c ≠ .loadComplete → s.mode = .loading → t.mode = .loading))

/-- R167: while the lock is set it stays set, the cells change only at the completion of an operation, and with the engine IDLE no
operation begins and no cell changes, until a power event. -/
def Obligations.LockHolds : Prop :=
  ∀ (c : Instr) (s t : State), c ≠ .powerOn → c ≠ .powerOnResetAssert → s.rst.lock = true → exec c s = .next t →
    t.rst.lock = true ∧
    ((∀ v, c ≠ .burnComplete v ∧ c ≠ .revokeComplete v ∧ c ≠ .burnGeometryComplete v) →
      t.rst.cells = s.rst.cells ∧ t.rst.geometryCells = s.rst.geometryCells) ∧
    (s.rst.operation = none →
      t.rst.operation = none ∧ t.rst.cells = s.rst.cells ∧ t.rst.geometryCells = s.rst.geometryCells)

/-- R153: a store record never returns to BLANK. -/
def Obligations.RecordsNeverReturnToBlank : Prop :=
  ∀ (c : Instr) (s t : State), s.StoreSound → exec c s = .next t →
    ∀ k, s.storeRecord k ≠ .blank → t.storeRecord k ≠ .blank

/-- R139, R145: the profiles change only at PROFILE_WRITE and at the power events, and RUN_PROFILE only at a decay boundary, at
the entry to ACTIVE and at the power events. -/
def Obligations.ProfilesChangeOnlyWhereWritten : Prop :=
  ∀ (c : Instr) (s t : State), c ≠ .powerOn → c ≠ .powerOnResetAssert → exec c s = .next t →
    ((∀ f v, c ≠ .profileWrite f v) → t.pol.profiles = s.pol.profiles) ∧
    (c ≠ .decayBoundary → c ≠ .loadComplete → (∀ r w, c ≠ .configure r w) → t.pol.run = s.pol.run)

/-- Section 10.3: a refused request changes nothing in any block; only the port's record takes the refusal. This is the frame of a
refusal that RESPONSE shows; that of a superseded request is discarded (R182). -/
def Obligations.RefusalsChangeNothing : Prop :=
  ∀ (q : Request) (s t : State) (h : InHand) (st : Status) (p : Payload), s.hasInHand h q → h.superseded = false →
    exec (commandOf q) s = .next t → t.port.response = .composed h.tag st p → st ≠ .ok → st ≠ .accepted →
    t = s.decided h st p

/-- R184, section 10.3: while the part is in LOADING every request is refused with NOT_READY, and in UNCONFIGURED so are the requests
that only ACTIVE decides. -/
def Obligations.RequestsWaitForTheirMode : Prop :=
  (∀ (q : Request) (s : State) (h : InHand), s.hasInHand h q → s.mode = .loading →
    exec (commandOf q) s = .next (s.decided h .notReady .none)) ∧
  ∀ (s : State) (h : InHand) (r b k v i : Byte) (row : RowField) (q : Request),
    q ∈ [Request.tableFind r b row, .release i, .slotRead r b k, .slotTestBegin r b k, .slotTestEnd r b k v,
      .slotGrade r b k v, .repair r b row, .move i, .cancel i, .watchClear r b row k, .stage i, .burn, .revoke i] →
    s.hasInHand h q → s.mode = .unconfigured → exec (commandOf q) s = .next (s.decided h .notReady .none)

/-- The model's choice (assumption 3): the command of a request that is not in hand stands for its frame with tag 00h, taken first.
With the port IDLE the request is then decided; with the port EXECUTING it is answered BUSY and the request in hand is superseded
(R183). -/
def Obligations.RequestNotInHand : Prop :=
  ∀ (q : Request) (s : State), s.powerHeld = false →
    (s.port.inHand = none → s.port.warmParts = [] →
      exec (commandOf q) s =
        exec (commandOf q) { s with port := { s.port with inHand := some ⟨q, 0, false⟩, response := .inProgress } }) ∧
    (∀ h, s.port.inHand = some h → h.request ≠ q ∨ s.port.warmParts ≠ [] →
      exec (commandOf q) s = .next { s with port := { s.port with
        inHand := some { h with superseded := true }, response := .composed 0 .busy .none } })

/-! ## Power and modes -/

/-- R172: the release and the assertion of the power-on reset input put every block at its power-on value. The address pins are
sampled at the release, the reset line is as observed, and without an operation in flight the cells are kept. -/
def Obligations.PowerEventsResetTheBlocks : Prop :=
  ∀ s : State,
    (∃ t, exec .powerOn s = .next t ∧ t.AtPowerOn ∧ t.powerHeld = false ∧ t.target = s.adrPins ∧
      t.ctr.resetLine = s.ctr.resetLine ∧
      (s.rst.operation = none ∨ s.powerHeld = true →
        t.rst.cells = s.rst.cells ∧ t.rst.geometryCells = s.rst.geometryCells)) ∧
    (∃ t, exec .powerOnResetAssert s = .next t ∧ t.AtPowerOn ∧ t.powerHeld = true ∧ t.ctr.resetLine = s.ctr.resetLine ∧
      (s.rst.operation = none → t.rst.cells = s.rst.cells ∧ t.rst.geometryCells = s.rst.geometryCells))

/-- R196, R172: an operation cut short, by the assertion of the power-on reset input or by a loss of power on a running part
(POWER_ON, assumption 10). A burn programs byte 0 first, then bytes 1..5, and byte 6 last; a revoke programs byte 7 alone; a
geometry burn programs byte 0 first, then bytes 1 and 2, and byte 3 last. Only cells of the image are programmed, in every byte, the
check byte included. How far it had gone is a free value; this holds for every value of it. -/
def Obligations.CutShortKeepsTheOrder : Prop :=
  ∀ (s : State) (cmd : Instr), cmd = .powerOnResetAssert ∨ (cmd = .powerOn ∧ s.powerHeld = false) →
    (∀ k i o n, s.rst.operation = some (.burn k i o n) → ∃ t, exec cmd s = .next t ∧
      (∀ k' : RecIx, k' ≠ k → t.rst.cells[k'] = s.rst.cells[k']) ∧ t.rst.geometryCells = s.rst.geometryCells ∧
      (∃ m, t.rst.cells[k].writeMark = 0xA5#8 &&& m) ∧ t.rst.cells[k].revokeMark = 0 ∧
      (t.rst.cells[k].writeMark ≠ 0xA5#8 →
        t.rst.cells[k].rankBank = 0 ∧ t.rst.cells[k].row = 0 ∧ t.rst.cells[k].slot = 0 ∧ t.rst.cells[k].check = 0) ∧
      (∃ m1 m2 m3, t.rst.cells[k].rankBank = BitVec.ofNat 8 (o.rank.val * 16 + o.bank.val) &&& m1 ∧
        t.rst.cells[k].row = BitVec.ofNat 24 o.row &&& m2 ∧ t.rst.cells[k].slot = BitVec.ofNat 8 n.val &&& m3) ∧
      (∃ m, t.rst.cells[k].check = (recordImage o n).check &&& m) ∧
      (t.rst.cells[k].check ≠ 0 →
        t.rst.cells[k].writeMark = 0xA5#8 ∧ t.rst.cells[k].rankBank = BitVec.ofNat 8 (o.rank.val * 16 + o.bank.val) ∧
        t.rst.cells[k].row = BitVec.ofNat 24 o.row ∧ t.rst.cells[k].slot = BitVec.ofNat 8 n.val)) ∧
    (∀ k, s.rst.operation = some (.revoke k) → ∃ t, exec cmd s = .next t ∧
      (∀ k' : RecIx, k' ≠ k → t.rst.cells[k'] = s.rst.cells[k']) ∧ t.rst.geometryCells = s.rst.geometryCells ∧
      ∃ m : Byte, t.rst.cells[k] = { s.rst.cells[k] with revokeMark := 0x5A#8 &&& m }) ∧
    (∀ g, s.rst.operation = some (.geometry g) → ∃ t, exec cmd s = .next t ∧
      t.rst.cells = s.rst.cells ∧ (∃ m, t.rst.geometryCells.writeMark = 0xA5#8 &&& m) ∧
      (t.rst.geometryCells.writeMark ≠ 0xA5#8 → t.rst.geometryCells.ranks = 0 ∧ t.rst.geometryCells.w = 0 ∧
        t.rst.geometryCells.check = 0) ∧
      (∃ m1 m2, t.rst.geometryCells.ranks = BitVec.ofNat 8 g.ranks.toNat &&& m1 ∧
        t.rst.geometryCells.w = BitVec.ofNat 8 g.w.toNat &&& m2) ∧
      (∃ m, t.rst.geometryCells.check = (geometryImage g).check &&& m) ∧
      (t.rst.geometryCells.check ≠ 0 → t.rst.geometryCells.writeMark = 0xA5#8 ∧
        t.rst.geometryCells.ranks = BitVec.ofNat 8 g.ranks.toNat ∧ t.rst.geometryCells.w = BitVec.ofNat 8 g.w.toNat))

/-- R174, R175, R102, R145, R133: the end of LOADING. READY goes high and the link enters GREETING; a WRITTEN geometry area leads
to ACTIVE, with a pending selection applied and the decay timer started, and a BLANK or TORN one to UNCONFIGURED, a TORN one with
STORE_CONFLICT. -/
def Obligations.LoadCompleteEndsLoading : Prop :=
  ∀ s : State, s.powerHeld = false → s.mode = .loading → ∃ t, exec .loadComplete s = .next t ∧
    t.ready = true ∧ t.sbl.state = .greeting ∧ t.sbl.badRun = 0 ∧ t.sbl.outbound = [.hello] ∧ t.sbl.waiting = [] ∧
    t.sbl.retryTimer = some 100 ∧
    (s.rst.geometryCells.read = .blank →
      t.mode = .unconfigured ∧ t.rmt = s.rmt ∧ t.sld = s.sld ∧ t.pol = s.pol ∧ t.wls = s.wls ∧ t.port = s.port) ∧
    (s.rst.geometryCells.read = .torn →
      t.mode = .unconfigured ∧ t.rmt = s.rmt ∧ t.sld = s.sld ∧ t.pol = s.pol ∧ t.wls = s.wls ∧
      t.port.conditions = s.port.conditions ||| conditionBit .storeConflict) ∧
    (∀ g, s.rst.geometryCells.read = .written g →
      t.mode = .active g ∧ t.rmt = (s.load g).state.rmt ∧ t.sld = (s.load g).state.sld ∧ t.pol.pendingRun = none ∧
      t.pol.run = s.pol.pendingRun.getD s.pol.run ∧ t.wls.decayTimer = some t.runProfile.decayInterval ∧
      t.port.conditions = (s.load g).state.port.conditions)

/-- R156, R157, R17: the load, from a table with every entry FREE. A WRITTEN record that passes every check of R157 (its rank and
origin in range, its slot not 0, and no lower-numbered record loaded with its origin or its slot) is LOADED: the lowest FREE entry
becomes PERMANENT for it, and its slot PERMANENT. One that fails a check is SKIPPED with STORE_CONFLICT. BLANK records are passed over,
REVOKED ones SKIPPED, TORN ones SKIPPED with STORE_CONFLICT. The generation rises by one for each record loaded, and the entries that
no record took stay FREE. -/
def Obligations.LoadDecidesEveryRecord : Prop :=
  ∀ (s : State) (g : Geometry), (∀ i, s.entry i = .free) → (∀ k : RecIx, s.rst.loadResults[k] = none) →
    let t := (s.load g).state
    let loadedBelow (n : Nat) : Nat := (List.finRange 40).countP fun k => decide (k.val < n) && t.loadedAt k
    (s.load g).loaded.length = loadedBelow 40 ∧
    t.rmt.generation = s.rmt.generation + BitVec.ofNat 16 (loadedBelow 40) ∧
    (∀ i : EntryIx, loadedBelow 40 ≤ i.val → t.entry i = .free) ∧
    ∀ k : RecIx,
      (s.storeRecord k = .blank → t.rst.loadResults[k] = none) ∧
      (∀ o n, s.storeRecord k = .revoked o n → t.rst.loadResults[k] = some .skipped) ∧
      (s.storeRecord k = .torn → t.rst.loadResults[k] = some .skipped ∧
        t.port.conditions &&& conditionBit .storeConflict ≠ 0) ∧
      (∀ o n, s.storeRecord k = .written o n →
        (s.passesLoad t g k o n → ∃ i : EntryIx, i.val = loadedBelow k.val ∧ t.rst.loadResults[k] = some (.loaded i) ∧
          t.entry i = .permanent o n 0 k ∧ (t.slot o.rank o.bank n).state = .permanent i) ∧
        (¬s.passesLoad t g k o n → t.rst.loadResults[k] = some .skipped ∧
          t.port.conditions &&& conditionBit .storeConflict ≠ 0))

/-! ## The command path -/

/-- R46, R64 to R66, R47: a command passes through unchanged, with no report and no change of record, in UNCONFIGURED, while the
reset line is held asserted outside LOADING, while the power-on reset input is asserted, and when it names a rank that is not
configured; in LOADING it passes through and raises EARLY_TRAFFIC; READ and other commands pass through in ACTIVE too. -/
def Obligations.CommandsPassThrough : Prop :=
  ∀ (c : Instr) (x : ChannelCommand) (s : State), busCommand c = some x →
    (s.powerHeld = true ∨ s.mode = .unconfigured ∨ (s.mode ≠ .loading ∧ s.ctr.resetLine = true) →
      exec c s = .next (s.drives x)) ∧
    (s.powerHeld = false → s.mode = .loading → exec c s = .next ((s.drives x).raise .earlyTraffic)) ∧
    (∀ w, s.mode = .active ⟨.one, w⟩ → (∃ b row, c = .activate 1 b row) ∨ (∃ b k, c = .write 1 b k) ∨
        (∃ b k, c = .readAp 1 b k) ∨ (∃ b k, c = .writeAp 1 b k) ∨ (∃ b, c = .precharge 1 b) ∨ c = .prechargeAll 1 ∨
        c = .refresh 1 →
      exec c s = .next (s.drives x)) ∧
    (s.mode ≠ .loading → (∃ r b k, c = .read r b k) ∨ (∃ k, c = .otherCommand k) → exec c s = .next (s.drives x))

/-- R50, R5: an ACTIVATE on a data row with the bank CLOSED is forwarded with the row the entry found names, and the bank opens in
the role the answer gives. Nothing else changes. -/
def Obligations.ActivateTranslatesDataRows : Prop :=
  ∀ (s : State) (g : Geometry) (r : Rank) (b : Bank) (row : Nat), s.translates r g → row % g.n < g.dataRows →
    s.record r b = none →
    let o : Origin := ⟨r, b, row % g.n⟩
    let plainTo (p : Nat) : OpenRow := ⟨o.row, p, .plain⟩
    let x : OpenRow := match (s.lookup o).map s.entry with
      | some (.forming _ _ c) => ⟨o.row, o.row, .source c⟩
      | some (.live _ k _ _) => plainTo (g.n - 16 + k.val)
      | some (.moving _ k _ c _) => ⟨o.row, g.n - 16 + k.val, .source c⟩
      | some (.retiring _ k _) => plainTo (g.n - 16 + k.val)
      | some (.permanent _ k _ _) => plainTo (g.n - 16 + k.val)
      | _ => plainTo o.row
    exec (.activate r b row) s = .next ((s.setRecord r b (some x)).drives (.activate r b x.physical))

/-- R42, R51, R52: an ACTIVATE on an alias row with the bank CLOSED goes to the slot itself when the slot is TESTING or TARGET, and
to the sink row otherwise, with the violation counted (saturating) and ALIAS_VIOLATION raised. -/
def Obligations.ActivateObeysTheAliasRule : Prop :=
  ∀ (s : State) (g : Geometry) (r : Rank) (b : Bank) (row : Nat) (k : SlotNo), s.translates r g →
    row % g.n = g.n - 16 + k.val → s.record r b = none →
    let a := row % g.n
    let opened (x : OpenRow) : State := (s.setRecord r b (some x)).drives (.activate r b x.physical)
    let sunk : State := opened ⟨a, g.n - 16, .sunk⟩
    (∀ f, (s.slot r b k).state = .testing f → exec (.activate r b row) s = .next (opened ⟨a, a, .aliasTest⟩)) ∧
    (∀ i c, (s.slot r b k).state = .target i → (s.entry i).context = some c →
      exec (.activate r b row) s = .next (opened ⟨a, a, .dest c⟩)) ∧
    ((s.slot r b k).state = .sink ∨ (s.slot r b k).state = .free ∨ (∃ i, (s.slot r b k).state = .mapped i) ∨
        (∃ i, (s.slot r b k).state = .permanent i) →
      exec (.activate r b row) s = .next (State.raise .aliasViolation
        { sunk with ctr := { sunk.ctr with aliasCount := min 65535 (s.ctr.aliasCount + 1) } }))

/-- R53, R59, R5, R50 to R52: an ACTIVATE to an OPEN bank closes the previous row first, and is then handled as one to a CLOSED bank.
The close is reported to the Migration Engine behind the reports already queued. On a data row the Remap Table takes its close reports
before it answers, so the row and the role are those of the entry found afterwards, and there is no violation; a RETIRING entry whose
spare row was open is FREE and its origin is reached as issued. On an alias row the slot's state gives the row and the role, and a sunk
one counts a violation. That the table takes every close report waiting, and that an ACTIVATE on an alias row leaves them waiting, is
the model's choice (assumption 7). -/
def Obligations.ActivateClosesAnOpenBankFirst : Prop :=
  ∀ (s : State) (g : Geometry) (r : Rank) (b : Bank) (row : Nat) (y : OpenRow), s.translates r g →
    s.record r b = some y → s.mge.reports.length < 32 →
    let a := row % g.n
    (∃ t, exec (.activate r b row) s = .next t ∧
      t.mge.reports = s.mge.reports ++ [.close r b y.issued y.physical y.role] ∧
      (∃ x, t.record r b = some x ∧ x.issued = a ∧ t.ctr.downstream = some (.activate r b x.physical)) ∧
      (∀ r' b', (r', b') ≠ (r, b) → t.record r' b' = s.record r' b') ∧
      (a < g.dataRows →
        let x : OpenRow := match (t.lookup ⟨r, b, a⟩).map t.entry with
          | some (.forming _ _ c) => ⟨a, a, .source c⟩
          | some (.moving _ k _ c _) => ⟨a, g.n - 16 + k.val, .source c⟩
          | some (.live _ k _ _) => ⟨a, g.n - 16 + k.val, .plain⟩
          | some (.retiring _ k _) => ⟨a, g.n - 16 + k.val, .plain⟩
          | some (.permanent _ k _ _) => ⟨a, g.n - 16 + k.val, .plain⟩
          | _ => ⟨a, a, .plain⟩
        t.record r b = some x ∧ t.rmt.closes = [] ∧ t.ctr.aliasCount = s.ctr.aliasCount ∧ t.port = s.port ∧
        (s.rmt.closes = [] →
          (∀ i o k m, s.entry i = .retiring o k m → o.rank = r → o.bank = b → y.physical ≠ g.n - 16 + k.val) →
          ∀ i, t.entry i = s.entry i))) ∧
    (∀ i o k m, s.rmt.closes = [] → s.entry i = .retiring o k m → o.rank = r → o.bank = b → y.physical = g.n - 16 + k.val →
      s.OriginsUnique → (∀ i' o' k' m', s.entry i' = .retiring o' k' m' → o'.rank = r → o'.bank = b → k' = k → i' = i) →
      o.row = a → o.row < g.dataRows →
      ∃ t, exec (.activate r b row) s = .next t ∧ t.entry i = .free ∧ t.rmt.generation = s.rmt.generation + 1 ∧
        t.record r b = some ⟨o.row, o.row, .plain⟩ ∧ t.ctr.downstream = some (.activate r b o.row)) ∧
    ∀ k : SlotNo, a = g.n - 16 + k.val →
      let closed : State := { s with
        mge := { s.mge with reports := s.mge.reports ++ [.close r b y.issued y.physical y.role] }
        rmt := { s.rmt with closes := s.rmt.closes ++ [⟨r, b, y.physical⟩] } }
      let reopened (x : OpenRow) : State := (closed.setRecord r b (some x)).drives (.activate r b x.physical)
      let sunk := reopened ⟨a, g.n - 16, .sunk⟩
      (∀ f, (s.slot r b k).state = .testing f → exec (.activate r b row) s = .next (reopened ⟨a, a, .aliasTest⟩)) ∧
      (∀ i c, (s.slot r b k).state = .target i → (s.entry i).context = some c →
        exec (.activate r b row) s = .next (reopened ⟨a, a, .dest c⟩)) ∧
      ((s.slot r b k).state = .sink ∨ (s.slot r b k).state = .free ∨ (∃ i, (s.slot r b k).state = .mapped i) ∨
          (∃ i, (s.slot r b k).state = .permanent i) →
        exec (.activate r b row) s = .next (State.raise .aliasViolation
          { sunk with ctr := { sunk.ctr with aliasCount := min 65535 (s.ctr.aliasCount + 1) } }))

/-- R54, R55: a WRITE to an OPEN bank in role SOURCE(c) or DEST(c) is forwarded and reported with its copy block; in any other
role, and to a CLOSED bank, it is forwarded only. With them R74: a report made into a full report queue, by a WRITE or by a close,
has the report at the head taken first in the same event, and then joins the tail. That the head is taken while the record of a closing
bank is still OPEN is the model's choice (assumption 7). -/
def Obligations.WritesAreReportedByRole : Prop :=
  ∀ (s : State) (g : Geometry) (r : Rank) (b : Bank) (col : Column), s.translates r g →
    let d := s.drives (.write r b col)
    let reported (u : State) (x : Report) : State := { u with mge := { u.mge with reports := u.mge.reports ++ [x] } }
    let writeReport (y : OpenRow) (c : Ctx) : Report := .sourceWrite c r b y.issued (Fin.ofNat 32 (col.val / 4))
    let copyReport (y : OpenRow) (c : Ctx) : Report := .destWrite c r b (y.physical - (g.n - 16)) (Fin.ofNat 32 (col.val / 4))
    (s.mge.reports.length < 32 →
      (∀ y c, s.record r b = some y → y.role = .source c → exec (.write r b col) s = .next (reported d (writeReport y c))) ∧
      (∀ y c, s.record r b = some y → y.role = .dest c → exec (.write r b col) s = .next (reported d (copyReport y c))) ∧
      ((∀ y, s.record r b = some y → y.role = .plain ∨ y.role = .aliasTest ∨ y.role = .sunk) →
        exec (.write r b col) s = .next d)) ∧
    (∀ h rest y, s.mge.reports = h :: rest → 32 ≤ s.mge.reports.length → s.record r b = some y →
      let takesHead (x : ChannelCommand) (u : State) : Prop :=
        exec (commandOfReport h) (s.drives x) = .next u ∧ u.mge.reports.length < s.mge.reports.length
      (∀ c, y.role = .source c → ∃ u, takesHead (.write r b col) u ∧
        exec (.write r b col) s = .next (reported u (writeReport y c))) ∧
      (∀ c, y.role = .dest c → ∃ u, takesHead (.write r b col) u ∧
        exec (.write r b col) s = .next (reported u (copyReport y c))) ∧
      (y.role = .plain ∨ y.role = .aliasTest ∨ y.role = .sunk → exec (.write r b col) s = .next d) ∧
      ∃ u, takesHead (.precharge r b) u ∧ exec (.precharge r b) s = .next
        { (reported u (.close r b y.issued y.physical y.role)).setRecord r b none with
          rmt := { u.rmt with closes := u.rmt.closes ++ [⟨r, b, y.physical⟩] } }) ∧
    (s.record r b = none → exec (.write r b col) s = .next d)

/-- R55 to R57, R59: READ-AP, WRITE-AP and PRECHARGE are forwarded and close an OPEN bank: the close is reported to the Migration
Engine and the Remap Table and the record goes CLOSED; a WRITE-AP is reported by role before its close. A CLOSED bank stays
CLOSED, with no report. -/
def Obligations.BankClosesAreReported : Prop :=
  ∀ (s : State) (g : Geometry) (r : Rank) (b : Bank) (col : Column), s.translates r g → s.mge.reports.length < 31 →
    let closed (d : State) (y : OpenRow) (first : List Report) : State :=
      { d.setRecord r b none with
        mge := { d.mge with reports := d.mge.reports ++ first ++ [.close r b y.issued y.physical y.role] }
        rmt := { d.rmt with closes := d.rmt.closes ++ [⟨r, b, y.physical⟩] } }
    (∀ y, s.record r b = some y →
      exec (.readAp r b col) s = .next (closed (s.drives (.readAp r b col)) y []) ∧
      exec (.precharge r b) s = .next (closed (s.drives (.precharge r b)) y []) ∧
      (∀ c, y.role = .source c → exec (.writeAp r b col) s = .next (closed (s.drives (.writeAp r b col)) y
        [.sourceWrite c r b y.issued (Fin.ofNat 32 (col.val / 4))])) ∧
      (∀ c, y.role = .dest c → exec (.writeAp r b col) s = .next (closed (s.drives (.writeAp r b col)) y
        [.destWrite c r b (y.physical - (g.n - 16)) (Fin.ofNat 32 (col.val / 4))])) ∧
      (y.role = .plain ∨ y.role = .aliasTest ∨ y.role = .sunk →
        exec (.writeAp r b col) s = .next (closed (s.drives (.writeAp r b col)) y []))) ∧
    (s.record r b = none →
      exec (.readAp r b col) s = .next (s.drives (.readAp r b col)) ∧
      exec (.precharge r b) s = .next (s.drives (.precharge r b)) ∧
      exec (.writeAp r b col) s = .next (s.drives (.writeAp r b col)))

/-- R58, R59: PRECHARGE-ALL and REFRESH close every OPEN bank of their rank, each with its own close report to the Remap Table and, while
the report queue has room for them all, its own to the Migration Engine, and leave the other rank's records alone. The order of the
reports is the model's choice (assumption 7): by bank. -/
def Obligations.RankClosesEveryOpenBank : Prop :=
  ∀ (s : State) (g : Geometry) (r : Rank) (c : Instr) (x : ChannelCommand), s.translates r g →
    (c, x) = (.prechargeAll r, .prechargeAll r) ∨ (c, x) = (.refresh r, .refresh r) →
    ∃ t, exec c s = .next t ∧ t.ctr.downstream = some x ∧ (∀ b, t.record r b = none) ∧
      (∀ r' b, r' ≠ r → t.record r' b = s.record r' b) ∧
      t.rmt.closes = s.rmt.closes ++
        ((List.finRange 16).filterMap fun b => (s.record r b).map fun y => ⟨r, b, y.physical⟩) ∧
      (let reports : List Report := (List.finRange 16).filterMap fun b =>
          (s.record r b).map fun y => .close r b y.issued y.physical y.role;
        s.mge.reports.length + reports.length ≤ 32 →
          t = { s with
            ctr := { s.ctr with records := t.ctr.records, downstream := some x }
            mge := { s.mge with reports := s.mge.reports ++ reports }
            rmt := { s.rmt with closes := t.rmt.closes } })

/-- R63 to R66: the assertion of the channel-reset line in ACTIVE closes every record without close events and is reported to the
Migration Engine and the Remap Table; in the other modes only the line's setting is tracked. Its deassertion changes nothing but
the setting. -/
def Obligations.ChannelResetClosesTheRecords : Prop :=
  ∀ s : State,
    (∀ g, s.mode = .active g → s.powerHeld = false → s.ctr.resetLine = false →
      ∃ t, exec .channelReset s = .next t ∧ (∀ r b, t.record r b = none) ∧
        t = { s with
          ctr := { s.ctr with records := t.ctr.records, resetLine := true }
          mge := { s.mge with channelResets := s.mge.channelResets + 1 }
          rmt := { s.rmt with channelResets := s.rmt.channelResets + 1 } }) ∧
    ((∀ g, s.mode ≠ .active g) →
      exec .channelReset s = .next { s with ctr := { s.ctr with resetLine := true } }) ∧
    exec .channelResetDeassert s = .next { s with ctr := { s.ctr with resetLine := false } }

/-! ## Reports taken -/

/-- R73, R82, R84: the Migration Engine takes a source write report from the head of the queue. With the fence not held its block
joins DIRTY; in ARMED the next round starts with the dirty blocks ordered while ROUND is below MAX_ROUNDS, and at MAX_ROUNDS the fence
is asked for and the context enters FENCING; under a held fence the context aborts with FENCE_BREACH and the block does not join DIRTY;
in IDLE and CLOSING the report is discarded. -/
def Obligations.SourceWritesSpoilTheCopy : Prop :=
  ∀ (s : State) (c : Ctx) (r : Rank) (b : Bank) (row : Nat) (k : Fin 32) (rest : List Report),
    s.mge.reports = .sourceWrite c r b row k :: rest →
    let s1 : State := { s with mge := { s.mge with reports := rest } }
    (∀ st j, (s.ctx c).body = .busy st j → j.origin = ⟨r, b, row⟩ → st ≠ .closing → st ≠ .armed → j.fenced ≠ .held →
      exec .sourceWriteReport s =
        .next (s1.setCtx c { s.ctx c with body := .busy st { j with dirty := j.dirty ||| BitVec.twoPow 32 k.val } })) ∧
    (∀ j, (s.ctx c).body = .busy .armed j → j.origin = ⟨r, b, row⟩ → j.fenced = .no → j.round < j.captured.maxRounds →
      s.sbl.outbound.length < 8 →
      let d := ~~~j.copied ||| (j.dirty ||| BitVec.twoPow 32 k.val)
      exec .sourceWriteReport s = .next ((s1.setCtx c { s.ctx c with
        body := .busy .offering { j with round := j.round + 1, ordered := d, copied := j.copied &&& ~~~d, dirty := 0 }
        timer := some j.captured.offerTimeout }).setOutbound
          (s.sbl.outbound ++ [.copyOrder c (j.round + 1) j.origin j.destSlot d]))) ∧
    (∀ j, (s.ctx c).body = .busy .armed j → j.origin = ⟨r, b, row⟩ → j.fenced = .no → j.captured.maxRounds ≤ j.round →
      s.sbl.outbound.length < 8 →
      exec .sourceWriteReport s = .next ((s1.setCtx c { s.ctx c with
        body := .busy .fencing { j with dirty := j.dirty ||| BitVec.twoPow 32 k.val, fenced := .requested }
        timer := some j.captured.fenceTimeout }).setOutbound
          (s.sbl.outbound ++ [.fenceOrder c j.round .set j.origin]))) ∧
    (∀ st j, (s.ctx c).body = .busy st j → j.origin = ⟨r, b, row⟩ → st ≠ .closing → j.fenced = .held →
      ∃ t, exec .sourceWriteReport s = .next t ∧ t.mge.reports = rest ∧
        s.AbortedWithMessages t c j .fenceBreach (s.migrationKey j)) ∧
    ((s.ctx c).isIdle = true ∨ (∃ j, (s.ctx c).body = .busy .closing j) → exec .sourceWriteReport s = .next s1)

/-- R73: the Migration Engine takes a destination write report: a block of ORDERED joins COPIED, a block outside ORDERED changes
nothing. -/
def Obligations.DestWritesCompleteTheCopy : Prop :=
  ∀ (s : State) (c : Ctx) (r : Rank) (b : Bank) (n : Nat) (k : Fin 32) (rest : List Report) (st : BusyState) (j : Job),
    s.mge.reports = .destWrite c r b n k :: rest → (s.ctx c).body = .busy st j → st ≠ .closing → j.origin.rank = r →
    j.origin.bank = b → j.destSlot.val = n →
    let s1 : State := { s with mge := { s.mge with reports := rest } }
    (j.ordered.getLsbD k.val = true → exec .destWriteReport s =
      .next (s1.setCtx c { s.ctx c with body := .busy st { j with copied := j.copied ||| BitVec.twoPow 32 k.val } })) ∧
    (j.ordered.getLsbD k.val = false → exec .destWriteReport s = .next s1)

/-- R83 to R86, R74: a close report that belongs to an ARMED context cuts the migration over unless the source is open again. The release
of a held fence waits in PENDING when OUTBOUND is full. A source write queued behind the close is taken before the answer, so with the
fence not asked and rounds left the context goes back to OFFERING and the answer is discarded. A close that belongs to no ARMED context is
discarded, whatever its role and whatever is queued behind it. With a channel reset report still waiting, the cutover is the model's
choice (assumption 21). -/
def Obligations.BelongingCloseCutsOver : Prop :=
  ∀ (s : State) (r : Rank) (b : Bank) (issued physical : Nat),
    (∀ (c : Ctx) (j : Job), (s.ctx c).body = .busy .armed j → j.origin = ⟨r, b, issued⟩ →
      let close : Report := .close r b issued physical (.source c)
      let isOpen : Prop := ∃ x, s.record r b = some x ∧ x.issued = issued ∧ x.role = .source c
      let s1 : State := { s with mge := { s.mge with reports := [] } }
      (s.mge.reports = [close] → ¬isOpen → (s.entry j.entry).slot ≠ some j.destSlot → (s.ctx c).held = [] →
        c ∉ s.sbl.waiting → (j.fenced = .held → s.sbl.outbound.length < 8) →
        ∃ t, exec .closeReportMigration s = .next t ∧ t.mge.reports = [] ∧ s.CutOver t c j (s.migrationKey j)) ∧
      (s.mge.reports = [close] → ¬isOpen → (s.ctx c).held = [] → j.fenced = .held → 8 ≤ s.sbl.outbound.length →
        ∃ t, exec .closeReportMigration s = .next t ∧ t.mge.reports = [] ∧ (t.ctx c).body = .busy .closing j ∧
          (t.ctx c).lastResult = some .success ∧ (t.ctx c).timer = none ∧ t.rmt.generation = s.rmt.generation + 1 ∧
          (t.ctx c).held = [⟨.fenceOrder c j.round .release j.origin, false⟩] ∧
          t.sbl = { s.sbl with waiting := s.sbl.waiting ++ [c] }) ∧
      (s.mge.reports = [close] → isOpen → exec .closeReportMigration s = .next s1) ∧
      (∀ k : Fin 32, s.mge.reports = [close, .sourceWrite c r b issued k] → j.fenced = .no → j.round < j.captured.maxRounds →
        s.sbl.outbound.length < 8 →
        let d := ~~~j.copied ||| (j.dirty ||| BitVec.twoPow 32 k.val)
        exec .closeReportMigration s = .next ((s1.setCtx c { s.ctx c with
          body := .busy .offering { j with round := j.round + 1, ordered := d, copied := j.copied &&& ~~~d, dirty := 0 }
          timer := some j.captured.offerTimeout }).setOutbound
            (s.sbl.outbound ++ [.copyOrder c (j.round + 1) j.origin j.destSlot d])))) ∧
    ∀ (role : Role) (rest : List Report), s.mge.reports = .close r b issued physical role :: rest →
      (∀ c j, role = .source c → (s.ctx c).body = .busy .armed j → j.origin ≠ ⟨r, b, issued⟩) →
      exec .closeReportMigration s = .next { s with mge := { s.mge with reports := rest } }

/-- R15, R16: the Remap Table takes a close report. A RETIRING entry whose spare row it names is freed, with the generation
increased, its slot FREE with its grade kept and the slot items of its origin removed; a report that matches none changes
nothing in the table. -/
def Obligations.CloseFreesTheRetiringEntry : Prop :=
  ∀ (s : State) (g : Geometry) (x : CloseReport) (rest : List CloseReport), s.mode = .active g → s.rmt.closes = x :: rest →
    (∀ i o k m, s.entry i = .retiring o k m → o.rank = x.rank → o.bank = x.bank → x.physical = g.n - 16 + k.val →
      (∀ i' o' k' m', s.entry i' = .retiring o' k' m' → o'.rank = x.rank → o'.bank = x.bank → k' = k → i' = i) →
      ∃ t, exec .closeReportTable s = .next t ∧ t.rmt.closes = rest ∧ t.entry i = .free ∧
        (∀ i', i' ≠ i → t.entry i' = s.entry i') ∧ t.rmt.generation = s.rmt.generation + 1 ∧
        t.slot o.rank o.bank k = ⟨.free, (s.slot o.rank o.bank k).grade⟩ ∧ s.SlotsExcept t o.rank o.bank k ∧
        t.wls.items = s.wls.items.filter (fun a => !(a.key.origin == o && a.key.subject != .origin)) ∧
        t.ctr = s.ctr ∧ t.mge = s.mge ∧ t.sbl = s.sbl ∧ t.pol = s.pol ∧ t.rst = s.rst ∧ t.port = s.port) ∧
    ((∀ i o k m, s.entry i = .retiring o k m → o.rank = x.rank → o.bank = x.bank → x.physical ≠ g.n - 16 + k.val) →
      exec .closeReportTable s = .next { s with rmt := { s.rmt with closes := rest } })

/-- R97, R25, R45, R117: the two parts of a channel reset. Every context is IDLE afterwards, an active one with LAST_RESULT
CHANNEL_RESET, its entry and slot gone back and MIGRATION_FAILED raised; the queued reports have been taken; the unsent messages of the
contexts ended are gone; the link keeps its state. Every RETIRING entry is FREE, with one generation increment each, its slot FREE with its grade kept; every other entry stays. -/
def Obligations.ChannelResetEndsMigrationsAndRetirings : Prop :=
  ∀ s : State,
    (0 < s.mge.channelResets →
      ∃ t, exec .channelResetMigration s = .next t ∧ t.mge.channelResets = s.mge.channelResets - 1 ∧ t.mge.reports = [] ∧
        (∀ c, (t.ctx c).isIdle = true) ∧ t.sbl.state = s.sbl.state ∧ t.sbl.badRun = s.sbl.badRun ∧
        t.sbl.retryTimer = s.sbl.retryTimer ∧ t.ctr = s.ctr ∧ t.pol = s.pol ∧ t.rst = s.rst ∧
        (s.mge.reports = [] → s.EndedSilently t .channelReset ∧ t.port.conditions = s.port.conditions ||| s.failedBit) ∧
        (s.mge.reports = [] → s.sbl.waiting = [] → ∀ c st j, (s.ctx c).body = .busy st j →
          (st ≠ .closing → (t.ctx c).lastResult = some (.aborted .channelReset)) ∧
          (st = .closing → (t.ctx c).lastResult = (s.ctx c).lastResult) ∧
          ∀ m ∈ t.sbl.outbound, m.owner ≠ some c)) ∧
    (0 < s.rmt.channelResets →
      ∃ t, exec .channelResetTable s = .next t ∧ t.rmt.channelResets = s.rmt.channelResets - 1 ∧
        (∀ i, t.entry i = match s.entry i with | .retiring _ _ _ => .free | e => e) ∧
        t.rmt.generation = s.rmt.generation + BitVec.ofNat 16 ((List.finRange 96).countP fun i =>
          match s.entry i with | .retiring _ _ _ => true | _ => false) ∧
        (∀ i o k m, s.entry i = .retiring o k m → t.slot o.rank o.bank k = ⟨.free, (s.slot o.rank o.bank k).grade⟩) ∧
        t.ctr = s.ctr ∧ t.mge = s.mge ∧ t.sbl = s.sbl ∧ t.pol = s.pol ∧ t.rst = s.rst ∧ t.port = s.port)

/-! ## The sideband link -/

/-- R109, R111, R101: a frame whose bytes are a good ERROR_NOTE or reply is passed on while the link is UP and discarded while it is
GREETING, and resets BAD_RUN; one whose bytes are a greeting is that greeting's command; a frame is a bad
frame when its check byte is wrong, its kind is none of the seven, its LENGTH or its number of bytes is not its kind's, or it holds a
CLASS, REPEAT, REASON or action outside its list. While the link is DOWN, or the power-on reset input asserted, frames are not taken. -/
def Obligations.FramesAreDispatched : Prop :=
  ∀ s : State,
    let good : State := { s with sbl := { s.sbl with badRun := 0 } }
    (∀ bytes, s.powerHeld = true ∨ s.sbl.state = .down → exec (.inboundFrame bytes) s = .next s) ∧
    (s.powerHeld = false → s.sbl.state ≠ .down →
      (∀ rank bank r2 r1 r0 column rep : Byte, rep ≠ 0 → ∀ cls : NoteClass,
        let code : Byte := match cls with | .corrected => 0x01 | .uncorrected => 0x02
        let n : ErrorNote := ⟨rank, bank, (r2 ++ r1 ++ r0 : BitVec 24), column, cls, rep⟩
        exec (.inboundFrame (withCheck [0x10, 0x00, 0x08, rank, bank, r2, r1, r0, column, code, rep])) s = .next
          (if s.sbl.state = .up then { good with wls := { good.wls with notes := good.wls.notes ++ [n] } } else good)) ∧
      (∀ (c : Ctx) (round : RoundField) (b : ReplyBody),
        let header : Byte := BitVec.ofNat 8 (c.val * 64 + round.toNat)
        let bytes : List Byte := match b with
          | .copyAccept => [0x21, header, 0x00]
          | .copyRefuse .busy => [0x22, header, 0x01, 0x01]
          | .copyRefuse .unsupported => [0x22, header, 0x01, 0x02]
          | .copyDone => [0x23, header, 0x00]
          | .fenceAck .set => [0x31, header, 0x01, 0x01]
          | .fenceAck .release => [0x31, header, 0x01, 0x02]
        exec (.inboundFrame (withCheck bytes)) s = .next
          (if s.sbl.state = .up then { good with mge := { good.mge with replies := good.mge.replies ++ [⟨c, round, b⟩] } }
          else good)) ∧
      (∀ level count : Byte,
        exec (.inboundFrame (withCheck [0x01, 0x00, 0x02, level, count])) s = exec (.hello level count) s ∧
        exec (.inboundFrame (withCheck [0x02, 0x00, 0x02, level, count])) s = exec (.helloAck level count) s) ∧
      (∀ (body : List Byte) (check : Byte), check ≠ checkByte body →
        exec (.inboundFrame (body ++ [check])) s = exec .badFrame s) ∧
      (∀ bytes : List Byte, bytes ≠ [] → bytes.length < 4 → exec (.inboundFrame bytes) s = exec .badFrame s) ∧
      (∀ (kind header len : Byte) (rest : List Byte), rest.length ≠ len.toNat + 1 →
        exec (.inboundFrame (kind :: header :: len :: rest)) s = exec .badFrame s) ∧
      (∀ (kind header len : Byte) (payload : List Byte),
        (kind, payload.length) ∉ [(0x01#8, 2), (0x02#8, 2), (0x10#8, 8), (0x21#8, 0), (0x22#8, 1), (0x23#8, 0), (0x31#8, 1)] →
        exec (.inboundFrame (withCheck (kind :: header :: len :: payload))) s = exec .badFrame s) ∧
      (∀ header rank bank r2 r1 r0 column cls rep : Byte, (cls ≠ 0x01 ∧ cls ≠ 0x02) ∨ rep = 0 →
        exec (.inboundFrame (withCheck [0x10, header, 0x08, rank, bank, r2, r1, r0, column, cls, rep])) s = exec .badFrame s) ∧
      (∀ header code : Byte, code ≠ 0x01 → code ≠ 0x02 →
        exec (.inboundFrame (withCheck [0x22, header, 0x01, code])) s = exec .badFrame s ∧
        exec (.inboundFrame (withCheck [0x31, header, 0x01, code])) s = exec .badFrame s))

/-- R110, R95, R102: a bad frame raises BAD_RUN by one; the fourth in a row fails the link: it enters GREETING with a HELLO queued,
every migration ends with LINK_DOWN, and LINK_FAULT is raised. In DOWN nothing happens. -/
def Obligations.BadFramesFailTheLink : Prop :=
  ∀ s : State,
    (s.powerHeld = true ∨ s.sbl.state = .down → exec .badFrame s = .next s) ∧
    (s.powerHeld = false → s.sbl.state ≠ .down → s.sbl.badRun < 3 →
      exec .badFrame s = .next { s with sbl := { s.sbl with badRun := s.sbl.badRun + 1 } }) ∧
    (s.powerHeld = false → s.sbl.state ≠ .down → 3 ≤ s.sbl.badRun →
      ∃ t, exec .badFrame s = .next t ∧ s.EndedSilently t .linkDown ∧ (∀ c, (t.ctx c).held = []) ∧
        t.sbl = { s.sbl with state := .greeting, badRun := 0, retryTimer := some 100, outbound := [.hello], waiting := [] } ∧
        t.port.conditions = s.port.conditions ||| s.failedBit ||| conditionBit .linkFault ∧
        t.ctr = s.ctr ∧ t.pol = s.pol ∧ t.rst = s.rst ∧ t.mode = s.mode ∧ t.ready = s.ready)

/-- R104 to R107, R96: greetings. One of another level or count raises LINK_FAULT and changes nothing else but BAD_RUN. A good
HELLO_ACK or HELLO in GREETING takes the link UP, stops the retry timer and removes an unsent HELLO; the HELLO is answered at the head
of OUTBOUND. In UP a HELLO_ACK is discarded, and a HELLO ends every migration with LINK_RESET and leaves the HELLO_ACK alone in
OUTBOUND. -/
def Obligations.GreetingsAreTaken : Prop :=
  ∀ s : State, s.powerHeld = false → s.sbl.state ≠ .down →
    let good : State := { s with sbl := { s.sbl with badRun := 0 } }
    let up (l : List OutMsg) : State :=
      { s with sbl := { s.sbl with state := .up, badRun := 0, retryTimer := none, outbound := l } }
    let rest := s.sbl.outbound.filter fun m => decide (m ≠ .hello)
    (∀ level count : Byte, level ≠ 1 ∨ count ≠ 4 →
      exec (.hello level count) s = .next (good.raise .linkFault) ∧
      exec (.helloAck level count) s = .next (good.raise .linkFault)) ∧
    (s.sbl.state = .greeting → s.sbl.waiting = [] → exec (.helloAck 1 4) s = .next (up rest)) ∧
    (s.sbl.state = .greeting → s.sbl.waiting = [] → s.sbl.outbound.length < 8 → (∀ c, (s.ctx c).isIdle = true) →
      exec (.hello 1 4) s = .next (up (if .helloAck ∈ s.sbl.outbound then rest else .helloAck :: rest))) ∧
    (s.sbl.state = .up → exec (.helloAck 1 4) s = .next good) ∧
    (s.sbl.state = .up → ∃ t, exec (.hello 1 4) s = .next t ∧ s.EndedSilently t .linkReset ∧ (∀ c, (t.ctx c).held = []) ∧
      t.sbl = { s.sbl with badRun := 0, outbound := [.helloAck], waiting := [] } ∧
      t.port.conditions = s.port.conditions ||| s.failedBit ∧
      t.ctr = s.ctr ∧ t.pol = s.pol ∧ t.rst = s.rst ∧ t.mode = s.mode)

/-- R103, R113, R114, R99, R172: the retry timer's expiry queues a HELLO at the head unless one waits unsent, and starts again. A
transmission takes the head of OUTBOUND to the wire, and in the same event the room takes the first waiting message, whose timer
starts if it had not; in DOWN, and while the power-on reset input is asserted, nothing is sent. By the model's choice (assumption 2) an
expiry of the stopped timer, and a transmission with OUTBOUND empty, change nothing. -/
def Obligations.LinkSendsAndRetries : Prop :=
  ∀ s : State,
    (s.sbl.state = .greeting → s.sbl.retryTimer ≠ none → s.sbl.outbound.length < 8 →
      exec .retryTimerExpiry s = .next { s with sbl := { s.sbl with
        retryTimer := some 100, outbound := if .hello ∈ s.sbl.outbound then s.sbl.outbound else .hello :: s.sbl.outbound } }) ∧
    (s.sbl.state ≠ .greeting ∨ s.sbl.retryTimer = none → exec .retryTimerExpiry s = .next s) ∧
    (∀ m rest, s.powerHeld = false → s.sbl.state ≠ .down → s.sbl.outbound = m :: rest →
      (s.sbl.waiting = [] →
        exec .transmitBegin s = .next { s with sbl := { s.sbl with outbound := rest, wire := some m } }) ∧
      (∀ c ws x hs, s.sbl.waiting = c :: ws → (s.ctx c).held = x :: hs → rest.length = 7 →
        ∃ t, exec .transmitBegin s = .next t ∧
          t.sbl = { s.sbl with outbound := rest ++ [x.msg], wire := some m, waiting := ws } ∧
          t.ctx c = { s.ctx c with held := hs, timer := if x.started then (s.ctx c).timer else
            match (s.ctx c).timerFor x.msg with | some ms => some ms | none => (s.ctx c).timer } ∧
          (∀ d, d ≠ c → t.ctx d = s.ctx d) ∧ t.rmt = s.rmt ∧ t.sld = s.sld ∧ t.ctr = s.ctr ∧ t.wls = s.wls ∧ t.port = s.port)) ∧
    (s.sbl.outbound = [] ∨ s.sbl.state = .down ∨ s.powerHeld = true → exec .transmitBegin s = .next s)

/-! ## Replies and timers of a migration -/

/-- R77: the controller's answer to the round's order. An accept takes the context to COPYING with the round timer started; a refusal
aborts it with REFUSED, whatever its reason. -/
def Obligations.CopyAnswersMoveTheContext : Prop :=
  ∀ (s : State) (c : Ctx) (round : RoundField) (rest : List Reply) (j : Job),
    (s.hasReply ⟨c, round, .copyAccept⟩ rest → s.answeredBy ⟨c, round, .copyAccept⟩ j →
      exec (.copyAccept c round) s = .next ((s.withReplies rest).setCtx c
        { s.ctx c with body := .busy .copying j, timer := some j.captured.roundTimeout })) ∧
    (∀ reason, s.hasReply ⟨c, round, .copyRefuse reason⟩ rest → s.answeredBy ⟨c, round, .copyRefuse reason⟩ j →
      ∃ t, exec (.copyRefuse c round reason) s = .next t ∧ t.mge.replies = rest ∧
        s.AbortedWithMessages t c j .refused (s.migrationKey j))

/-- R78 to R80, R74, R85: a COPY_DONE with every report taken. A clean round arms while the source is open and cuts over otherwise;
an unclean one starts the next round below MAX_ROUNDS, asks for the fence at MAX_ROUNDS, and under a fence aborts with INCOMPLETE. A
source write reported before the COPY_DONE is taken first. With a channel reset report still waiting, deciding the round here is the
model's choice (assumption 21). -/
def Obligations.CopyDoneDecidesTheRound : Prop :=
  ∀ (s : State) (c : Ctx) (round : RoundField) (rest : List Reply) (j : Job),
    s.hasReply ⟨c, round, .copyDone⟩ rest → s.answeredBy ⟨c, round, .copyDone⟩ j → s.sbl.outbound.length < 8 →
    let s1 := s.withReplies rest
    let clean : Prop := j.copied = BitVec.allOnes 32 ∧ j.dirty = 0
    let isOpen : Prop := ∃ x, s.record j.origin.rank j.origin.bank = some x ∧ x.issued = j.origin.row ∧ x.role = .source c
    let again (dirty : BlockSet) (s2 : State) : State :=
      let d := ~~~j.copied ||| dirty
      (s2.setCtx c { s.ctx c with
        body := .busy .offering { j with round := j.round + 1, ordered := d, copied := j.copied &&& ~~~d, dirty := 0 }
        timer := some j.captured.offerTimeout }).setOutbound
        (s.sbl.outbound ++ [.copyOrder c (j.round + 1) j.origin j.destSlot d])
    (s.mge.reports = [] → clean → isOpen →
      exec (.copyDone c round) s = .next (s1.setCtx c
        { s.ctx c with body := .busy .armed j, timer := some j.captured.roundTimeout })) ∧
    (s.mge.reports = [] → clean → ¬isOpen → (s.entry j.entry).slot ≠ some j.destSlot →
      ∃ t, exec (.copyDone c round) s = .next t ∧ t.mge.replies = rest ∧ s.CutOver t c j (s.migrationKey j)) ∧
    (s.mge.reports = [] → ¬clean → j.round < j.captured.maxRounds →
      exec (.copyDone c round) s = .next (again j.dirty s1)) ∧
    (s.mge.reports = [] → ¬clean → j.captured.maxRounds ≤ j.round → j.fenced = .no →
      exec (.copyDone c round) s = .next ((s1.setCtx c { s.ctx c with
        body := .busy .fencing { j with fenced := .requested }, timer := some j.captured.fenceTimeout }).setOutbound
          (s.sbl.outbound ++ [.fenceOrder c j.round .set j.origin]))) ∧
    (s.mge.reports = [] → ¬clean → j.captured.maxRounds ≤ j.round → j.fenced ≠ .no →
      ∃ t, exec (.copyDone c round) s = .next t ∧ t.mge.replies = rest ∧
        s.AbortedWithMessages t c j .incomplete (s.migrationKey j)) ∧
    (∀ k : Fin 32, s.mge.reports = [.sourceWrite c j.origin.rank j.origin.bank j.origin.row k] → j.fenced = .no →
      j.round < j.captured.maxRounds →
      exec (.copyDone c round) s = .next (again (j.dirty ||| BitVec.twoPow 32 k.val)
        { s1 with mge := { s1.mge with reports := [] } }))

/-- R81, R79, R90: FENCE_ACK. With blocks left to copy the SET starts the fenced round; with the copy complete it arms or cuts over
under the held fence; with a channel reset report still waiting, that is the model's choice (assumption 21). The RELEASE takes the
context from CLOSING to IDLE with its last outcome kept. -/
def Obligations.FenceAcksAreTaken : Prop :=
  ∀ (s : State) (c : Ctx) (round : RoundField) (rest : List Reply) (j : Job),
    let s1 := s.withReplies rest
    let k : Job := { j with fenced := .held }
    let d := ~~~j.copied ||| j.dirty
    let isOpen : Prop := ∃ x, s.record j.origin.rank j.origin.bank = some x ∧ x.issued = j.origin.row ∧ x.role = .source c
    (s.hasReply ⟨c, round, .fenceAck .set⟩ rest → s.answeredBy ⟨c, round, .fenceAck .set⟩ j → s.sbl.outbound.length < 8 →
      (j.copied ≠ BitVec.allOnes 32 ∨ j.dirty ≠ 0 →
        exec (.fenceAckSet c round) s = .next ((s1.setCtx c { s.ctx c with
          body := .busy .offering { k with round := j.round + 1, ordered := d, copied := j.copied &&& ~~~d, dirty := 0 }
          timer := some j.captured.offerTimeout }).setOutbound
            (s.sbl.outbound ++ [.copyOrder c (j.round + 1) j.origin j.destSlot d]))) ∧
      (j.copied = BitVec.allOnes 32 → j.dirty = 0 → s.mge.reports = [] → isOpen →
        exec (.fenceAckSet c round) s = .next (s1.setCtx c
          { s.ctx c with body := .busy .armed k, timer := some j.captured.roundTimeout })) ∧
      (j.copied = BitVec.allOnes 32 → j.dirty = 0 → s.mge.reports = [] → ¬isOpen → (s.entry j.entry).slot ≠ some j.destSlot →
        ∃ t, exec (.fenceAckSet c round) s = .next t ∧ t.mge.replies = rest ∧ s.CutOver t c k (s.migrationKey j))) ∧
    (s.hasReply ⟨c, round, .fenceAck .release⟩ rest → s.answeredBy ⟨c, round, .fenceAck .release⟩ j →
      exec (.fenceAckRelease c round) s = .next ((s1.setCtx c { s.ctx c with
        body := .idle (some ⟨j.direction, j.origin, j.round⟩), timer := none, held := [] }).setWaiting
          (s.sbl.waiting.filter fun x => x != c)))

/-- R91, R116, R111: a reply that does not match its context's present state and round changes nothing but OUTBOUND, which takes a
STALE_NOTE when it has room. A reply still untaken when the link has left UP is void, by the model's choice (assumption 4). -/
def Obligations.StaleRepliesAreAnswered : Prop :=
  ∀ (s : State) (r : Reply) (rest : List Reply),
    (s.hasReply r rest → (∀ j, ¬s.answeredBy r j) →
      exec (commandOfReply r) s = .next (if s.sbl.outbound.length < 8 then
        (s.withReplies rest).setOutbound (s.sbl.outbound ++ [.staleNote r.ctx r.round (staleNameOf r.body)])
      else s.withReplies rest)) ∧
    (s.powerHeld = false → s.sbl.state ≠ .up → s.mge.replies = r :: rest →
      exec (commandOfReply r) s = .next (s.withReplies rest))

/-- R75, R77, R81, R84, R87, R90: the expiry of a context's timer. In an active state the context aborts with the reason of its state;
in CLOSING it enters IDLE with LINK_FAULT raised. A timer that is stopped, or measures another state, does not
expire: its command changes nothing (assumption 2). -/
def Obligations.ContextTimersExpire : Prop :=
  ∀ (s : State) (c : Ctx) (st : BusyState) (cmd : Instr) (reason : AbortReason),
    (st, cmd, reason) ∈ [(BusyState.offering, Instr.offerTimerExpiry c, AbortReason.offerTimeout),
      (.copying, .roundTimerExpiry c, .roundTimeout), (.armed, .armTimerExpiry c, .armTimeout),
      (.fencing, .fenceTimerExpiry c, .fenceTimeout)] →
    (∀ j n, (s.ctx c).body = .busy st j → (s.ctx c).timer = some n →
      ∃ t, exec cmd s = .next t ∧ s.AbortedWithMessages t c j reason (s.migrationKey j)) ∧
    ((s.ctx c).timer = none ∨ (∀ j, (s.ctx c).body ≠ .busy st j) → exec cmd s = .next s) ∧
    (∀ j n, (s.ctx c).body = .busy .closing j → (s.ctx c).timer = some n →
      exec (.closingFenceTimerExpiry c) s = .next (((s.setCtx c { s.ctx c with
        body := .idle (some ⟨j.direction, j.origin, j.round⟩), timer := none, held := [] }).setWaiting
          (s.sbl.waiting.filter fun x => x != c)).raise .linkFault)) ∧
    ((s.ctx c).timer = none ∨ (∀ j, (s.ctx c).body ≠ .busy .closing j) →
      exec (.closingFenceTimerExpiry c) s = .next s)

/-! ## The Watch List and the Policy Unit -/

/-- R125 to R131: the Watch List takes an error note on a data row. It is charged to the spare in service or to the origin by the
entry found, weighs the class weight times REPEAT up to 1023, and is scored; an item that reaches the threshold is nominated and handed
to the Policy Unit; a stage held for the entry is cancelled. -/
def Obligations.DataRowNotesAreScored : Prop :=
  ∀ (s : State) (n : ErrorNote) (rest : List ErrorNote) (g : Geometry) (o : Origin),
    s.hasNote n rest → s.mode = .active g → n.rank.toNat = o.rank.val → n.bank.toNat = o.bank.val → n.row.toNat = o.row →
    o.rank.val < g.ranks.toNat → o.row < g.n - 16 → n.column.toNat ≤ 127 →
    let key : Key := ⟨o, match (s.lookup o).bind fun i => (s.entry i).slot with | some k => .slot k | none => .origin⟩
    let w := min 1023 ((match n.cls with
      | .corrected => s.runProfile.weightCorrected
      | .uncorrected => s.runProfile.weightUncorrected) * n.rep.toNat)
    let running : Option Ctx := match s.lookup o with
      | some i => s.runningFor i
      | none => none
    ∃ t items counter nom full, exec (.errorNote n) s = .next t ∧ Scored s key n.cls w running items counter nom full ∧
      t.wls = { s.wls with items := items, counter := counter, notes := rest } ∧
      t.pol = { s.pol with nominations :=
        if nom = true ∧ key ∉ s.pol.nominations ∧ s.pol.nominations.length < 32 then s.pol.nominations ++ [key]
        else s.pol.nominations } ∧
      t.sld = s.sld ∧ t.ctr = s.ctr ∧ t.mge = s.mge ∧ t.sbl = s.sbl ∧ t.mode = s.mode ∧
      ((∀ i, s.lookup o = some i → s.rst.stage.cancellable ≠ some i ∨ (s.entry i).staged ≠ some true) →
        t.rmt = s.rmt ∧ t.rst = s.rst ∧
        t.port.conditions = s.port.conditions ||| (if nom then conditionBit .nomination else 0) |||
          (if full then conditionBit .watchFull else 0)) ∧
      (∀ i k m x, s.lookup o = some i → s.entry i = .live o k m (some x) → s.rst.stage.cancellable = some i →
        t.rst = { s.rst with stage := .empty } ∧ t.entry i = .live o k m none ∧ (∀ i', i' ≠ i → t.entry i' = s.entry i') ∧
        t.port.conditions = s.port.conditions ||| conditionBit .stageCancelled |||
          (if nom then conditionBit .nomination else 0) ||| (if full then conditionBit .watchFull else 0))

/-- R123, R124, R37: a note out of range raises BAD_NOTE, and one taken while the part is not ACTIVE is lost. A note on an alias row
grades a FREE slot BAD, marks a slot under test, aborts the migration that fills a TARGET slot, and raises BAD_NOTE for the others. -/
def Obligations.SpareRowNotesGoBySlot : Prop :=
  ∀ (s : State) (n : ErrorNote) (rest : List ErrorNote), s.hasNote n rest →
    let s1 := s.withNotes rest
    ((∀ g, s.mode ≠ .active g) → exec (.errorNote n) s = .next s1) ∧
    (∀ g, s.mode = .active g →
      (g.ranks.toNat ≤ n.rank.toNat ∨ 16 ≤ n.bank.toNat ∨ g.n ≤ n.row.toNat ∨ 127 < n.column.toNat →
        exec (.errorNote n) s = .next (s1.raise .badNote)) ∧
      (∀ (r : Rank) (b : Bank) (k : SlotNo), n.rank.toNat = r.val → n.bank.toNat = b.val → r.val < g.ranks.toNat →
        n.row.toNat = g.n - 16 + k.val → n.column.toNat ≤ 127 →
        ((s.slot r b k).state = .free → exec (.errorNote n) s = .next (s1.setSlot r b k ⟨.free, .bad⟩)) ∧
        (∀ f, (s.slot r b k).state = .testing f →
          exec (.errorNote n) s = .next (s1.setSlot r b k ⟨.testing true, (s.slot r b k).grade⟩)) ∧
        (∀ i c j, (s.slot r b k).state = .target i → (s.ctx c).activeJob = some j → j.entry = i →
          (∀ d j', d < c → (s.ctx d).activeJob = some j' → j'.entry ≠ i) →
          ∃ t, exec (.errorNote n) s = .next t ∧ t.mge.replies = s.mge.replies ∧
            s1.AbortedWithMessages t c j .targetFault (s.migrationKey j)) ∧
        ((s.slot r b k).state = .sink ∨ (∃ i, (s.slot r b k).state = .mapped i) ∨ (∃ i, (s.slot r b k).state = .permanent i) →
          exec (.errorNote n) s = .next (s1.raise .badNote))))

/-- R134, R145, R149: the decay boundary. Scores that are not nominated fall by DECAY_STEP, items at 0 leave, a pending selection is
applied, the timer starts with the new run profile's interval, and with its AUTO_REPAIR ON a pass starts over the nominated items
without IN_REPAIR, highest score first and oldest first among equals. A stopped timer does not expire: its command changes
nothing (assumption 2). -/
def Obligations.DecayBoundaryInOrder : Prop :=
  ∀ s : State,
    (s.wls.decayTimer = none → exec .decayBoundary s = .next s) ∧
    (s.wls.decayTimer ≠ none → ∃ t, exec .decayBoundary s = .next t ∧
      t.wls.items = (s.wls.items.map fun i =>
        if i.nominated then i else { i with score := i.score - s.runProfile.decayStep }).filter
          (fun i => i.nominated || i.score != 0) ∧
      t.pol.run = s.pol.pendingRun.getD s.pol.run ∧ t.pol.pendingRun = none ∧
      t.wls.decayTimer = some t.runProfile.decayInterval ∧
      (t.runProfile.autoRepair = false → t.pol.passOrder = []) ∧
      (t.runProfile.autoRepair = true → ∃ l : List WatchItem, t.pol.passOrder = l.map (·.key) ∧
        l.Perm (t.wls.items.filter fun i => i.nominated && i.inRepair.isNone) ∧
        l.Pairwise (fun a b => b.score ≤ a.score) ∧
        ∀ n, l.filter (fun i => i.score == n) =
          (t.wls.items.filter fun i => i.nominated && i.inRepair.isNone).filter (fun i => i.score == n)) ∧
      t.wls.counter = s.wls.counter ∧ t.wls.notes = s.wls.notes ∧ t.pol.profiles = s.pol.profiles ∧ t.pol.edit = s.pol.edit ∧
      t.pol.nominations = s.pol.nominations ∧ t.rmt = s.rmt ∧ t.sld = s.sld ∧ t.ctr = s.ctr ∧ t.mge = s.mge ∧ t.sbl = s.sbl ∧
      t.rst = s.rst ∧ t.port = s.port)

/-- R147 to R151: what the Policy Unit does on its turn, at a nomination or at a step of a retry pass. It launches the first repair or
the move that the item calls for; a launch that fails for want of an entry or a slot, and a worn spare, raise their condition unless the
item's last failure was the same; with the link down or no context idle it waits; for an item gone, not nominated or in repair it does
nothing. With AUTO_REPAIR OFF a nomination is only taken. -/
def Obligations.PolicyActsOnItems : Prop :=
  ∀ (s s1 : State) (cmd : Instr) (k : Key),
    (∀ rest, s.pol.nominations = k :: rest → s.runProfile.autoRepair = false →
      exec .nominationTake s = .next { s with pol := { s.pol with nominations := rest } }) ∧
    (s.policyTurn cmd k s1 →
      ((∀ x, s.wls.items.find? (fun i => i.key == k) = some x → x.nominated = false ∨ x.inRepair ≠ none) →
        exec cmd s = .next s1) ∧
      ∀ (x : WatchItem) (g : Geometry), s.wls.items.find? (fun i => i.key == k) = some x → x.nominated = true → x.inRepair = none →
        s.mode = .active g → k.origin.rank.val < g.ranks.toNat → k.origin.row < g.n - 16 →
        let failed (f : FailureKind) (cond : Condition) : State :=
          if x.lastFailure = some f then s1 else
            (s1.raise cond).setItems (s.wls.items.map fun i => if i.key = k then { i with lastFailure := some f } else i)
        let ready (c : Ctx) : Prop := s.sbl.state = .up ∧ s.nextContext c
        (k.subject = .origin → s.holdsNo k.origin →
          (∀ c i n, ready c → s.nextEntry i → s.grants k.origin.rank k.origin.bank n → s.sbl.outbound.length < 8 →
            ∃ t, exec cmd s = .next t ∧ s1.Launched t c .first i k.origin n ∧ t.port = s.port ∧
              t.wls.items = s.wls.items.map fun i =>
                if i.key = k then { i with inRepair := some c, lastFailure := none } else i) ∧
          (∀ c, ready c → (∀ i, s.entry i ≠ .free) → exec cmd s = .next (failed .tableFull .tableFull)) ∧
          (∀ c i, ready c → s.nextEntry i → s.refusesSlot k.origin.rank k.origin.bank →
            exec cmd s = .next (failed .noSlot .noSlot)) ∧
          (s.sbl.state ≠ .up ∨ (∀ c, (s.ctx c).isIdle = false) → exec cmd s = .next s1)) ∧
        (∀ i, k.subject = .origin → s.lookup k.origin = some i → exec cmd s = .next s1) ∧
        (∀ i n m, k.subject = .slot n → s.lookup k.origin = some i → s.entry i = .live k.origin n m none → m < 3 →
          (∀ c n', ready c → s.grants k.origin.rank k.origin.bank n' → s.sbl.outbound.length < 8 →
            ∃ t, exec cmd s = .next t ∧ s1.Launched t c .move i k.origin n' ∧ t.port = s.port ∧
              t.wls.items = s.wls.items.map fun i =>
                if i.key = k then { i with inRepair := some c, lastFailure := none } else i) ∧
          (∀ c, ready c → s.refusesSlot k.origin.rank k.origin.bank → exec cmd s = .next (failed .noSlot .noSlot)) ∧
          (s.sbl.state ≠ .up ∨ (∀ c, (s.ctx c).isIdle = false) → exec cmd s = .next s1)) ∧
        (∀ n, k.subject = .slot n → s.lookup k.origin = none ∨
            (∃ i, s.lookup k.origin = some i ∧ ((s.entry i).slot ≠ some n ∨
              (∃ m r, s.entry i = .live k.origin n m (some r) ∧ m < 3) ∨
              (∃ a c m, s.entry i = .moving k.origin n a c m) ∨ (∃ m, s.entry i = .retiring k.origin n m))) →
          exec cmd s = .next s1) ∧
        (∀ i n, k.subject = .slot n → s.lookup k.origin = some i →
          (∃ m st, s.entry i = .live k.origin n m st ∧ 3 ≤ m) ∨ (∃ m r, s.entry i = .permanent k.origin n m r) →
          exec cmd s = .next (failed .worn .worn)))

/-! ## The Repair Store's own events -/

/-- R158, R160, R164 to R166, R153: the timers of the stage and the completions of the burn engine. By the model's choice (assumption 1)
the READY stage keeps what is left of EXPIRY_TIMER. A failed verify leaves the record or area TORN; its cells are free values, and
this holds for every value of them. By the model's choice (assumption 2) an expiry of a timer that does not run, and a completion with
no operation in flight, change nothing. -/
def Obligations.StagesAndOperationsEnd : Prop :=
  ∀ s : State,
    let ended (s2 : State) (kind : OperationKind) (done : Bool) (cond : Condition) : State :=
      ({ s2 with rst := { s2.rst with operation := none, lastOperation := some ⟨kind, done⟩ } }).raise cond
    (∀ i r p x, s.rst.stage = .probation i r p x → exec .probationTimerExpiry s = .next (s.setStage (.ready i r (x - p)))) ∧
    ((∀ i r p x, s.rst.stage ≠ .probation i r p x) → exec .probationTimerExpiry s = .next s) ∧
    (∀ i r x o k m st, s.rst.stage = .ready i r x → s.entry i = .live o k m st →
      exec .stageExpired s = .next (((s.setStage .empty).setEntry i (.live o k m none)).raise .stageExpired)) ∧
    ((∀ i r x, s.rst.stage ≠ .ready i r x) → exec .stageExpired s = .next s) ∧
    (∀ k i o n m st, s.rst.operation = some (.burn k i o n) → s.entry i = .live o n m st →
      (s.slot o.rank o.bank n).state = .mapped i → o.row ≤ 131071 →
      (∃ t, exec (.burnComplete true) s = .next t ∧ t.storeRecord k = .written o n ∧
        t.rst.loadResults[k] = some (.loaded i) ∧ t.entry i = .permanent o n m k ∧
        t.slot o.rank o.bank n = ⟨.permanent i, (s.slot o.rank o.bank n).grade⟩ ∧ t.rmt.generation = s.rmt.generation ∧
        t.rst.stage = .empty ∧ t.rst.operation = none ∧ t.rst.lastOperation = some ⟨.burn k, true⟩ ∧
        (∀ k', k' ≠ k → t.storeRecord k' = s.storeRecord k') ∧ s.SlotsExcept t o.rank o.bank n ∧
        (∀ i', i' ≠ i → t.entry i' = s.entry i') ∧
        t.port.conditions = s.port.conditions ||| conditionBit .burnDone ∧ t.mge = s.mge ∧ t.sbl = s.sbl ∧ t.wls = s.wls) ∧
      (∃ t, exec (.burnComplete false) s = .next t ∧ t.storeRecord k = .torn ∧ t.rst.loadResults = s.rst.loadResults ∧
        t.entry i = .live o n m none ∧ t.sld = s.sld ∧ t.rst.stage = .empty ∧ t.rst.operation = none ∧
        t.rst.lastOperation = some ⟨.burn k, false⟩ ∧ (∀ k', k' ≠ k → t.storeRecord k' = s.storeRecord k') ∧
        (∀ i', i' ≠ i → t.entry i' = s.entry i') ∧
        t.port.conditions = s.port.conditions ||| conditionBit .burnFailed ∧ t.mge = s.mge ∧ t.sbl = s.sbl ∧ t.wls = s.wls)) ∧
    (∀ k o n, s.rst.operation = some (.revoke k) → s.storeRecord k = .written o n →
      (∃ cells, exec (.revokeComplete true) s = .next (ended (s.setCells k cells) (.revoke k) true .burnDone) ∧
        cells.read = .revoked o n) ∧
      (∃ cells, exec (.revokeComplete false) s =
          .next (ended { s.setCells k cells with freeCount := s.freeCount + 1 } (.revoke k) false .burnFailed) ∧
        cells.read = .torn)) ∧
    (∀ g, s.rst.operation = some (.geometry g) →
      (∃ area, exec (.burnGeometryComplete true) s =
          .next (ended { s with rst := { s.rst with geometryCells := area } } .geometry true .burnDone) ∧
        area.read = .written g) ∧
      (∃ area, exec (.burnGeometryComplete false) s = .next (ended
          { s with rst := { s.rst with geometryCells := area }, freeCount := s.freeCount + 1 } .geometry false .burnFailed) ∧
        area.read = .torn)) ∧
    (s.rst.operation = none → ∀ v, exec (.burnComplete v) s = .next s ∧ exec (.revokeComplete v) s = .next s ∧
      exec (.burnGeometryComplete v) s = .next s)

/-! ## Requests -/

/-- R181, R183, section 11.4: a request frame. One whose length or check byte is wrong is answered BAD_FRAME and one whose code or
operand count is unknown BAD_REQUEST, with the tag it carried; a good one is taken in hand when the port is IDLE and answered BUSY when
it is EXECUTING. Whatever is answered at once supersedes the request in hand. -/
def Obligations.RequestFramesAreAnswered : Prop :=
  ∀ s : State,
    let refused (tag : Byte) (st : Status) : State := { s with port := { s.port with
      inHand := s.port.inHand.map fun h => { h with superseded := true }
      response := .composed tag st .none } }
    (s.powerHeld = true → ∀ bytes, exec (.requestFrame bytes) s = .next s) ∧ exec (.requestFrame []) s = .next s ∧
    (s.powerHeld = false →
      (∀ (code tag : Byte) (ops : List Byte) (q : Request), ops.length ≤ 6 → requestOf code ops = some q →
        let bytes := withCheck (BitVec.ofNat 8 (ops.length + 4) :: code :: tag :: ops)
        (s.port.inHand = none → exec (.requestFrame bytes) s = .next { s with port := { s.port with
          inHand := some ⟨q, tag, false⟩, response := .inProgress } }) ∧
        (s.port.inHand ≠ none → exec (.requestFrame bytes) s = .next (refused tag .busy))) ∧
      (∀ (code tag : Byte) (ops : List Byte), ops.length ≤ 6 → requestOf code ops = none →
        exec (.requestFrame (withCheck (BitVec.ofNat 8 (ops.length + 4) :: code :: tag :: ops))) s =
          .next (refused tag .badRequest)) ∧
      (∀ (len code tag : Byte) (more : List Byte), len.toNat ≠ more.length + 3 ∨ 10 < len.toNat →
        exec (.requestFrame (len :: code :: tag :: more)) s = .next (refused tag .badFrame)) ∧
      (∀ (len code tag : Byte) (ops : List Byte) (check : Byte), check ≠ checkByte (len :: code :: tag :: ops) →
        exec (.requestFrame (len :: code :: tag :: (ops ++ [check]))) s = .next (refused tag .badFrame)))

/-- R146: PROFILE_READ answers every field of the profile with the three selectors as they stand, an absent PENDING_RUN as FFh, and
changes nothing; NOT_READY in LOADING, BAD_ARGUMENT for a profile other than 0 or 1. With it the other reads, R22, R23, R41, R94, R136,
R169 and R188: each answers what it names as it stands, refuses what is out of range, and changes nothing. -/
def Obligations.ReadsReportAndChangeNothing : Prop :=
  ∀ (s : State) (h : InHand),
    let answers (q : Request) (st : Status) (p : Payload) : Prop :=
      s.hasInHand h q → exec (commandOf q) s = .next (s.decided h st p)
    let count := s.wls.items.length
    let gen := s.rmt.generation
    (∀ p : Byte, s.mode = .loading → answers (.profileRead p) .notReady .none) ∧
    (∀ (p : Profile) (run edit : ProfileNo), (Payload.profile p run edit none).bytes.getLast? = some 0xFF#8) ∧
    (s.mode ≠ .loading →
      (∀ k : ProfileNo, answers (.profileRead (BitVec.ofNat 8 k.val)) .ok
        (.profile s.pol.profiles[k] s.pol.run s.pol.edit s.pol.pendingRun)) ∧
      (∀ p : Byte, 2 ≤ p.toNat → answers (.profileRead p) .badArgument .none) ∧
      (∀ i : EntryIx, answers (.tableRead (BitVec.ofNat 8 i.val)) .ok (.entry i (s.entry i) gen)) ∧
      (∀ x : Byte, 96 ≤ x.toNat → answers (.tableRead x) .badArgument .none) ∧
      (∀ c : Ctx, answers (.contextRead (BitVec.ofNat 8 c.val)) .ok (.context c (s.ctx c))) ∧
      (∀ x : Byte, 4 ≤ x.toNat → answers (.contextRead x) .badArgument .none) ∧
      (∀ (x : Byte) (i : WatchItem), x.toNat < 32 → s.wls.items[x.toNat]? = some i → answers (.watchRead x) .ok (.item i count)) ∧
      (∀ x : Byte, x.toNat < 32 → count ≤ x.toNat → answers (.watchRead x) .notFound (.itemCount count)) ∧
      (∀ x : Byte, 32 ≤ x.toNat → answers (.watchRead x) .badArgument .none) ∧
      (∀ k : RecIx, answers (.storeRead (BitVec.ofNat 8 k.val)) .ok (.storeRecord (s.storeRecord k) s.rst.loadResults[k])) ∧
      (∀ x : Byte, 40 ≤ x.toNat → answers (.storeRead x) .badArgument .none) ∧
      answers .storeStatus .ok (.storeStatus s.rst.lock s.rst.operation s.rst.lastOperation s.rst.stage
        ((List.finRange 40).countP fun k => decide (s.storeRecord k = .blank)) s.rst.geometryCells.read) ∧
      answers .conditionRead .ok (.conditions s.port.conditions s.port.alertMask s.mode s.sbl.state s.sbl.outbound.length
        s.ctr.aliasCount)) ∧
    (∀ g, s.mode = .active g →
      (∀ (r : Rank) (b : Bank) (k : SlotNo), r.val < g.ranks.toNat →
        answers (.slotRead (BitVec.ofNat 8 r.val) (BitVec.ofNat 8 b.val) (BitVec.ofNat 8 k.val)) .ok (.slot r b k (s.slot r b k))) ∧
      (∀ r b k : Byte, g.ranks.toNat ≤ r.toNat ∨ 16 ≤ b.toNat ∨ 16 ≤ k.toNat → answers (.slotRead r b k) .badArgument .none) ∧
      (∀ o : Origin, o.rank.val < g.ranks.toNat → o.row < g.n - 16 →
        let q : Request := .tableFind (BitVec.ofNat 8 o.rank.val) (BitVec.ofNat 8 o.bank.val) (BitVec.ofNat 24 o.row)
        (∀ i, s.lookup o = some i → answers q .ok (.entry i (s.entry i) gen)) ∧
        (s.lookup o = none → answers q .notFound (.generation gen))) ∧
      (∀ (r b : Byte) (row : RowField), g.ranks.toNat ≤ r.toNat ∨ 16 ≤ b.toNat ∨ g.n - 16 ≤ row.toNat →
        answers (.tableFind r b row) .badArgument .none))

/-- R13, R14, R16: RELEASE. An index above 95 is refused with BAD_ARGUMENT, a FREE entry with NOT_FOUND, an entry in another state and
one whose stage is being burned with STATE. A LIVE entry is freed, or becomes RETIRING while its spare row is open; either way a stage
held for it is cancelled, the slot items of its origin go, and every other entry stays. -/
def Obligations.ReleaseFreesOrRetires : Prop :=
  ∀ (s : State) (h : InHand) (g : Geometry), s.mode = .active g →
    let refuses (x : Byte) (st : Status) : Prop :=
      s.hasInHand h (.release x) → exec (.release x) s = .next (s.decided h st .none)
    (∀ x : Byte, 96 ≤ x.toNat → refuses x .badArgument) ∧
    ∀ i : EntryIx,
      let x : Byte := BitVec.ofNat 8 i.val
      (s.entry i = .free → refuses x .notFound) ∧
      ((∃ o k c, s.entry i = .forming o k c) ∨ (∃ o k n c m, s.entry i = .moving o k n c m) ∨
        (∃ o k m, s.entry i = .retiring o k m) ∨ (∃ o k m r, s.entry i = .permanent o k m r) → refuses x .state) ∧
      (∀ o k m r, s.entry i = .live o k m (some r) →
        (∃ i' o' k', s.rst.operation = some (.burn r i' o' k')) ∨ s.rst.operation = some (.revoke r) → refuses x .state) ∧
      (∀ o k m st, s.entry i = .live o k m st →
        (∀ r i' o' k', st = some r → s.rst.operation ≠ some (.burn r i' o' k') ∧ s.rst.operation ≠ some (.revoke r)) →
        s.hasInHand h (.release x) →
        let isOpen : Prop := ∃ y, s.record o.rank o.bank = some y ∧ y.physical = g.n - 16 + k.val
        ∃ t, exec (.release x) s = .next t ∧ (∀ i', i' ≠ i → t.entry i' = s.entry i') ∧
          t.wls = { s.wls with items := s.wls.items.filter (fun a => !(a.key.origin == o && a.key.subject != .origin)) } ∧
          t.rst = (if s.rst.stage.cancellable = some i then { s.rst with stage := .empty } else s.rst) ∧
          t.ctr = s.ctr ∧ t.mge = s.mge ∧ t.sbl = s.sbl ∧ t.pol = s.pol ∧ t.mode = s.mode ∧ s.SlotsExcept t o.rank o.bank k ∧
          (¬isOpen → t.entry i = .free ∧ t.rmt.generation = s.rmt.generation + 1 ∧
            t.slot o.rank o.bank k = ⟨.free, (s.slot o.rank o.bank k).grade⟩ ∧
            t.port = (s.decided h .ok (.released .free)).port) ∧
          (isOpen → t.entry i = .retiring o k m ∧ t.rmt.generation = s.rmt.generation ∧ t.sld = s.sld ∧
            t.port = (s.decided h .ok (.released .retiring)).port))

/-- R40: SLOT_GRADE, decided whole: NOT_READY unless ACTIVE, BAD_ARGUMENT out of range, STATE unless FREE, otherwise the grade is taken
and the state stays FREE. With it R38 and R39: SLOT_TEST_BEGIN takes a FREE slot to TESTING with no fault seen and its grade kept, and
SLOT_TEST_END takes it back to FREE, GOOD on a PASS with no fault seen and BAD otherwise, and refuses a verdict that is neither. -/
def Obligations.SlotsAreTestedAndGraded : Prop :=
  ∀ (s : State) (h : InHand),
    let does (q : Request) (t : State) (st : Status) (p : Payload) : Prop :=
      s.hasInHand h q → exec (commandOf q) s = .next (t.decided h st p)
    (∀ r b k v : Byte, (∀ g, s.mode ≠ .active g) → does (.slotGrade r b k v) s .notReady .none) ∧
    ∀ g, s.mode = .active g →
      (∀ r b k v : Byte, g.ranks.toNat ≤ r.toNat ∨ 16 ≤ b.toNat ∨ 16 ≤ k.toNat → does (.slotGrade r b k v) s .badArgument .none ∧
        does (.slotTestBegin r b k) s .badArgument .none ∧ does (.slotTestEnd r b k v) s .badArgument .none) ∧
      (∀ r b k v : Byte, 3 ≤ v.toNat → does (.slotGrade r b k v) s .badArgument .none ∧
        does (.slotTestEnd r b k v) s .badArgument .none) ∧
      (∀ r b k : Byte, does (.slotTestEnd r b k 0) s .badArgument .none) ∧
      ∀ (r : Rank) (b : Bank) (k : SlotNo), r.val < g.ranks.toNat →
        let x : Byte := BitVec.ofNat 8 r.val
        let y : Byte := BitVec.ofNat 8 b.val
        let z : Byte := BitVec.ofNat 8 k.val
        let old := s.slot r b k
        (old.state = .free →
          does (.slotGrade x y z 0) (s.setSlot r b k ⟨.free, .untested⟩) .ok .none ∧
          does (.slotGrade x y z 1) (s.setSlot r b k ⟨.free, .good⟩) .ok .none ∧
          does (.slotGrade x y z 2) (s.setSlot r b k ⟨.free, .bad⟩) .ok .none ∧
          does (.slotTestBegin x y z) (s.setSlot r b k ⟨.testing false, old.grade⟩) .ok .none) ∧
        (old.state ≠ .free → (∀ v : Byte, v.toNat < 3 → does (.slotGrade x y z v) s .state .none) ∧
          does (.slotTestBegin x y z) s .state .none) ∧
        (old.state = .testing false → does (.slotTestEnd x y z 1) (s.setSlot r b k ⟨.free, .good⟩) .ok (.grade .good)) ∧
        (old.state = .testing true → does (.slotTestEnd x y z 1) (s.setSlot r b k ⟨.free, .bad⟩) .ok (.grade .bad)) ∧
        (∀ f, old.state = .testing f → does (.slotTestEnd x y z 2) (s.setSlot r b k ⟨.free, .bad⟩) .ok (.grade .bad)) ∧
        ((∀ f, old.state ≠ .testing f) → does (.slotTestEnd x y z 1) s .state .none ∧ does (.slotTestEnd x y z 2) s .state .none)

/-- R70, R71, R8, R9, R32: REPAIR and MOVE, decided in the order of the checks: the arguments, the link, a context, the table's claim.
A launch takes the lowest IDLE context, the lowest FREE entry and the granted slot, and orders the whole row. -/
def Obligations.LaunchesOnRequest : Prop :=
  ∀ (s : State) (h : InHand) (g : Geometry), s.mode = .active g →
    let refuses (q : Request) (st : Status) : Prop :=
      s.hasInHand h q → exec (commandOf q) s = .next (s.decided h st .none)
    let ready (c : Ctx) : Prop := s.sbl.state = .up ∧ s.nextContext c
    let marked (t : State) (k : Key) (c : Ctx) : Prop :=
      t.wls.items = s.wls.items.map fun x => if x.key = k then { x with inRepair := some c } else x
    (∀ (r b : Byte) (row : RowField), g.ranks.toNat ≤ r.toNat ∨ 16 ≤ b.toNat ∨ g.n - 16 ≤ row.toNat →
      refuses (.repair r b row) .badArgument) ∧
    (∀ x : Byte, 96 ≤ x.toNat → refuses (.move x) .badArgument) ∧
    (∀ o : Origin, o.rank.val < g.ranks.toNat → o.row < g.n - 16 →
      let q : Request := .repair (BitVec.ofNat 8 o.rank.val) (BitVec.ofNat 8 o.bank.val) (BitVec.ofNat 24 o.row)
      (s.sbl.state ≠ .up → refuses q .linkDown) ∧
      (s.sbl.state = .up → (∀ c, (s.ctx c).isIdle = false) → refuses q .noContext) ∧
      (∀ c, ready c → ¬s.holdsNo o → refuses q .state) ∧
      (∀ c, ready c → s.holdsNo o → (∀ i, s.entry i ≠ .free) → refuses q .tableFull) ∧
      (∀ c i, ready c → s.holdsNo o → s.nextEntry i → s.refusesSlot o.rank o.bank → refuses q .noSlot) ∧
      (∀ c i k, ready c → s.holdsNo o → s.nextEntry i → s.grants o.rank o.bank k → s.sbl.outbound.length < 8 → s.hasInHand h q →
        ∃ t, exec (commandOf q) s = .next t ∧ s.Launched t c .first i o k ∧ marked t ⟨o, .origin⟩ c ∧
          t.port = (s.decided h .ok (.launched c)).port)) ∧
    (∀ i : EntryIx,
      let q : Request := .move (BitVec.ofNat 8 i.val)
      (s.sbl.state ≠ .up → refuses q .linkDown) ∧
      (s.sbl.state = .up → (∀ c, (s.ctx c).isIdle = false) → refuses q .noContext) ∧
      (∀ c, ready c → s.entry i = .free → refuses q .notFound) ∧
      (∀ c, ready c → s.entry i ≠ .free → (∀ o k m, s.entry i = .live o k m none → 3 ≤ m) → refuses q .state) ∧
      (∀ c o k m, ready c → s.entry i = .live o k m none → m < 3 → s.refusesSlot o.rank o.bank → refuses q .noSlot) ∧
      (∀ c o k m n, ready c → s.entry i = .live o k m none → m < 3 → s.grants o.rank o.bank n → s.sbl.outbound.length < 8 →
        s.hasInHand h q → ∃ t, exec (commandOf q) s = .next t ∧ s.Launched t c .move i o n ∧ marked t ⟨o, .slot k⟩ c ∧
          t.port = (s.decided h .ok (.launched c)).port))

/-- R93, R137: CANCEL aborts an active migration with CANCELLED and answers the state its context entered; it is refused for any
other. WATCH_CLEAR removes the item of its key, unless its arguments are out of range, there is none or it is in repair. -/
def Obligations.CancelAndWatchClear : Prop :=
  ∀ (s : State) (h : InHand) (g : Geometry), s.mode = .active g →
    let refuses (q : Request) (st : Status) : Prop :=
      s.hasInHand h q → exec (commandOf q) s = .next (s.decided h st .none)
    (∀ c : Ctx,
      let q : Request := .cancel (BitVec.ofNat 8 c.val)
      ((s.ctx c).activeJob = none → refuses q .state) ∧
      (∀ j, (s.ctx c).activeJob = some j → s.hasInHand h q → ∃ t u, exec (commandOf q) s = .next t ∧
        s.AbortedWithMessages u c j .cancelled (s.migrationKey j) ∧
        t = u.decided h .ok (.cancelled (decide (j.fenced ≠ .no))))) ∧
    (∀ x : Byte, 4 ≤ x.toNat → refuses (.cancel x) .badArgument) ∧
    (∀ (r b : Byte) (row : RowField) (sub : Byte), g.ranks.toNat ≤ r.toNat ∨ 16 ≤ b.toNat ∨ g.n - 16 ≤ row.toNat →
      refuses (.watchClear r b row sub) .badArgument) ∧
    (∀ (o : Origin) (sub : Byte), o.rank.val < g.ranks.toNat → o.row < g.n - 16 →
      let q : Request := .watchClear (BitVec.ofNat 8 o.rank.val) (BitVec.ofNat 8 o.bank.val) (BitVec.ofNat 24 o.row) sub
      (16 ≤ sub.toNat → refuses q .badArgument) ∧
      ∀ k : Key, k.origin = o → (sub = 0 ∧ k.subject = .origin ∨ ∃ n : SlotNo, n ≠ 0 ∧ sub.toNat = n.val ∧ k.subject = .slot n) →
        (s.wls.items.find? (fun i => i.key == k) = none → refuses q .notFound) ∧
        (∀ x, s.wls.items.find? (fun i => i.key == k) = some x → x.inRepair ≠ none → refuses q .state) ∧
        (∀ x, s.wls.items.find? (fun i => i.key == k) = some x → x.inRepair = none → s.hasInHand h q →
          exec (commandOf q) s = .next ((s.setItems (s.wls.items.filter fun i => i.key != k)).decided h .ok .none)))

/-- R142, R143: PROFILE_EDIT_SELECT and PROFILE_WRITE, decided whole: a write goes to the edit profile, in the field's range and while it
is not the run profile. With them R144: PROFILE_RUN_SELECT records the selection for the next boundary. -/
def Obligations.ProfileRequestsChangeThePolicy : Prop :=
  ∀ (s : State) (h : InHand),
    let does (q : Request) (t : State) (st : Status) : Prop :=
      s.hasInHand h q → exec (commandOf q) s = .next (t.decided h st .none)
    (s.mode = .loading → ∀ (p f : Byte) (v : BitVec 16), does (.profileEditSelect p) s .notReady ∧
      does (.profileRunSelect p) s .notReady ∧ does (.profileWrite f v) s .notReady) ∧
    (s.mode ≠ .loading →
      (∀ p : Byte, 2 ≤ p.toNat → does (.profileEditSelect p) s .badArgument ∧ does (.profileRunSelect p) s .badArgument) ∧
      (∀ k : ProfileNo,
        does (.profileEditSelect (BitVec.ofNat 8 k.val)) { s with pol := { s.pol with edit := k } } .ok ∧
        does (.profileRunSelect (BitVec.ofNat 8 k.val)) { s with pol := { s.pol with pendingRun := some k } } .ok) ∧
      (∀ (f : Byte) (v : BitVec 16),
        let old := s.pol.profiles[s.pol.edit]
        let wrote (p : Profile) : State :=
          { s with pol := { s.pol with profiles := s.pol.profiles.set s.pol.edit.val p s.pol.edit.isLt } }
        (f = 0 ∨ 11 < f.toNat → does (.profileWrite f v) s .badArgument) ∧
        (∀ x ∈ [(1#8, 0, 255), (2#8, 0, 1023), (3#8, 1, 1023), (4#8, 10, 60000), (5#8, 0, 1023), (6#8, 0, 1), (7#8, 0, 1),
            (8#8, 1, 6), (9#8, 1, 255), (10#8, 1, 65535), (11#8, 1, 255)],
          (v.toNat < x.2.1 ∨ x.2.2 < v.toNat → does (.profileWrite x.1 v) s .badArgument) ∧
          (x.2.1 ≤ v.toNat → v.toNat ≤ x.2.2 → s.pol.edit = s.pol.run → does (.profileWrite x.1 v) s .state)) ∧
        (s.pol.edit ≠ s.pol.run →
          (v.toNat ≤ 255 → does (.profileWrite 1 v) (wrote { old with weightCorrected := v.toNat }) .ok) ∧
          (v.toNat ≤ 1023 → does (.profileWrite 2 v) (wrote { old with weightUncorrected := v.toNat }) .ok) ∧
          (1 ≤ v.toNat ∧ v.toNat ≤ 1023 → does (.profileWrite 3 v) (wrote { old with nominateThreshold := v.toNat }) .ok) ∧
          (10 ≤ v.toNat ∧ v.toNat ≤ 60000 → does (.profileWrite 4 v) (wrote { old with decayInterval := v.toNat }) .ok) ∧
          (v.toNat ≤ 1023 → does (.profileWrite 5 v) (wrote { old with decayStep := v.toNat }) .ok) ∧
          (v.toNat ≤ 1 → does (.profileWrite 6 v) (wrote { old with autoRepair := decide (v = 1) }) .ok ∧
            does (.profileWrite 7 v) (wrote { old with allowUntested := decide (v = 1) }) .ok) ∧
          (1 ≤ v.toNat ∧ v.toNat ≤ 6 → does (.profileWrite 8 v) (wrote { old with maxRounds := v.toNat }) .ok) ∧
          (1 ≤ v.toNat ∧ v.toNat ≤ 255 → does (.profileWrite 9 v) (wrote { old with offerTimeout := v.toNat }) .ok) ∧
          (1 ≤ v.toNat → does (.profileWrite 10 v) (wrote { old with roundTimeout := v.toNat }) .ok) ∧
          (1 ≤ v.toNat ∧ v.toNat ≤ 255 → does (.profileWrite 11 v) (wrote { old with fenceTimeout := v.toNat }) .ok))))

/-- R177, R156, R145, R133: CONFIGURE is refused with STATE in ACTIVE and BAD_ARGUMENT out of range; in UNCONFIGURED it loads the
store under the geometry, applies a pending selection, starts the decay timer and takes the part to ACTIVE. -/
def Obligations.ConfigureTakesThePartToActive : Prop :=
  ∀ (s : State) (h : InHand) (r w : Byte), s.hasInHand h (.configure r w) →
    ((∃ g, s.mode = .active g) → exec (.configure r w) s = .next (s.decided h .state .none)) ∧
    (s.mode = .unconfigured → r.toNat = 0 ∨ 2 < r.toNat ∨ w.toNat < 14 ∨ 17 < w.toNat →
      exec (.configure r w) s = .next (s.decided h .badArgument .none)) ∧
    (∀ g : Geometry, s.mode = .unconfigured → r.toNat = g.ranks.toNat → w.toNat = g.w.toNat →
      ∃ t, exec (.configure r w) s = .next t ∧ t.mode = .active g ∧ t.ready = s.ready ∧ t.sbl = s.sbl ∧ t.rst.lock = s.rst.lock ∧
        t.rst.cells = s.rst.cells ∧ t.rst.geometryCells = s.rst.geometryCells ∧ t.rmt = (s.load g).state.rmt ∧
        t.sld = (s.load g).state.sld ∧ t.rst = (s.load g).state.rst ∧
        t.pol = { s.pol with run := s.pol.pendingRun.getD s.pol.run, pendingRun := none } ∧
        t.wls = { s.wls with decayTimer := some t.runProfile.decayInterval } ∧
        t.port.conditions = (s.load g).state.port.conditions ∧ t.port.inHand = none ∧
        (h.superseded = false →
          t.port.response = .composed h.tag .ok (.configured (s.load g).loaded.length t.rmt.generation)))

/-- R159, R163, R165 to R167: the requests that change the store. LOCKED comes first, then BUSY, then the request's own checks. STAGE
marks the LIVE entry and reserves the lowest BLANK record; BURN commits a READY stage and latches its image; REVOKE and BURN_GEOMETRY
begin their operation; LOCK_STORE sets the lock and drops a stage in PROBATION or READY. In UNCONFIGURED BURN_GEOMETRY is refused with
LOCKED, BUSY or STATE in that order, and LOCK_STORE is answered OK with the same effect. -/
def Obligations.StoreRequestsAreDecided : Prop :=
  (∀ (s : State) (h : InHand) (g : Geometry), s.mode = .active g →
    let does (q : Request) (t : State) (st : Status) (p : Payload) : Prop :=
      s.hasInHand h q → exec (commandOf q) s = .next (t.decided h st p)
    let begins (q : Request) (s2 : State) (x : Operation) : Prop :=
      does q { s2 with rst := { s2.rst with operation := some x } } .accepted .none
    (∀ (q : Request) (i : EntryIx) (k : RecIx),
      q ∈ [Request.stage (BitVec.ofNat 8 i.val), .burn, .revoke (BitVec.ofNat 8 k.val), .burnGeometry] →
      (s.rst.lock = true → does q s .locked .none) ∧
      (s.rst.lock = false → s.rst.operation ≠ none → does q s .busy .none)) ∧
    (∀ x : Byte, (96 ≤ x.toNat → does (.stage x) s .badArgument .none) ∧ (40 ≤ x.toNat → does (.revoke x) s .badArgument .none)) ∧
    (s.rst.lock = false → s.rst.operation = none →
      (∀ i : EntryIx,
        let q : Request := .stage (BitVec.ofNat 8 i.val)
        (s.rst.stage ≠ .empty → does q s .state .none) ∧
        (s.rst.stage = .empty → s.entry i = .free → does q s .notFound .none) ∧
        (s.rst.stage = .empty → s.entry i ≠ .free → (∀ o n m, s.entry i ≠ .live o n m none) → does q s .state .none) ∧
        (∀ o n m, s.rst.stage = .empty → s.entry i = .live o n m none →
          let named : Prop := ∃ k o' n', s.storeRecord k = .written o' n' ∧ o'.rank = o.rank ∧ o'.bank = o.bank ∧
            (o'.row = o.row ∨ n' = n)
          (named → does q s .state .none) ∧
          (¬named → (∀ k, s.storeRecord k ≠ .blank) → does q s .storeFull .none) ∧
          (∀ k, ¬named → s.storeRecord k = .blank → (∀ k', k' < k → s.storeRecord k' ≠ .blank) →
            does q ((s.setStage (.probation i k 100 10000)).setEntry i (.live o n m (some k))) .ok (.staged k)))) ∧
      (s.rst.stage = .empty → does .burn s .state .none) ∧
      (∀ i k p x, s.rst.stage = .probation i k p x → does .burn s .early .none) ∧
      (∀ i k x o n m st, s.rst.stage = .ready i k x → s.entry i = .live o n m st →
        begins .burn (s.setStage (.committed i k)) (.burn k i o n)) ∧
      (∀ k : RecIx,
        let q : Request := .revoke (BitVec.ofNat 8 k.val)
        (∀ o n, s.storeRecord k = .written o n → begins q s (.revoke k)) ∧
        ((∀ o n, s.storeRecord k ≠ .written o n) → does q s .state .none)) ∧
      (s.rst.geometryCells.read = .blank → begins .burnGeometry s (.geometry g)) ∧
      (s.rst.geometryCells.read ≠ .blank → does .burnGeometry s .state .none)) ∧
    (let locked : State := { s with rst := { s.rst with lock := true } };
      (s.rst.stage.cancellable = none → does .lockStore locked .ok .none) ∧
      (∀ i o n m st, s.rst.stage.cancellable = some i → s.entry i = .live o n m st →
        does .lockStore ((locked.setStage .empty).setEntry i (.live o n m none)) .ok .none))) ∧
  ∀ (s : State) (h : InHand), s.mode = .unconfigured →
    let does (q : Request) (t : State) (st : Status) : Prop :=
      s.hasInHand h q → exec (commandOf q) s = .next (t.decided h st .none)
    (s.rst.lock = true → does .burnGeometry s .locked) ∧
    (s.rst.lock = false → s.rst.operation ≠ none → does .burnGeometry s .busy) ∧
    (s.rst.lock = false → s.rst.operation = none → does .burnGeometry s .state) ∧
    (let locked : State := { s with rst := { s.rst with lock := true } };
      (s.rst.stage.cancellable = none → does .lockStore locked .ok) ∧
      (∀ i o n m st, s.rst.stage.cancellable = some i → s.entry i = .live o n m st →
        does .lockStore ((locked.setStage .empty).setEntry i (.live o n m none)) .ok))

/-- R190: ALERT_MASK, decided whole, the mask kept by everything else but the power events. With it R189: CONDITION_CLEAR clears the
kinds it names and answers the set that is left. Both re-evaluate ALERT (R187). -/
def Obligations.ConditionsAreClearedAndMasked : Prop :=
  (∀ (s : State) (h : InHand) (x : BitVec 32),
    let does (q : Request) (t : State) (st : Status) (p : Payload) : Prop :=
      s.hasInHand h q → exec (commandOf q) s = .next (t.decided h st p)
    let kinds : BitVec 16 := x.setWidth 16
    (s.mode = .loading → does (.alertMask x) s .notReady .none ∧ does (.conditionClear x) s .notReady .none) ∧
    (s.mode ≠ .loading → 65536 ≤ x.toNat → does (.alertMask x) s .badArgument .none ∧
      does (.conditionClear x) s .badArgument .none) ∧
    (s.mode ≠ .loading → x.toNat < 65536 →
      does (.alertMask x) { s with port := { s.port with
        alertMask := kinds, alert := decide (s.port.conditions &&& kinds ≠ 0) } } .ok .none ∧
      does (.conditionClear x) { s with port := { s.port with
        conditions := s.port.conditions &&& ~~~kinds
        alert := decide (s.port.conditions &&& ~~~kinds &&& s.port.alertMask ≠ 0) } } .ok
          (.conditionSet (s.port.conditions &&& ~~~kinds)))) ∧
  (∀ (c : Instr) (s t : State), c ≠ .powerOn → c ≠ .powerOnResetAssert → (∀ x, c ≠ .alertMask x) → exec c s = .next t →
    t.port.alertMask = s.port.alertMask) ∧
  (∀ (c : Instr) (s t : State), c = .powerOn ∨ c = .powerOnResetAssert → exec c s = .next t →
    t.port.alertMask = BitVec.allOnes 16)

/-- R191, R192, R98, R102, R108, R112, R120, R138, R44, R170: WARM_RESET is answered OK at once and hands every owner its part; each part
has its effect when its owner takes it, and the port is IDLE after the last. Every migration ends with WARM_RESET and no message at the
Migration Engine's part, and at the link's part too, since no context is outside IDLE once the link has left UP; what was launched
between the parts leaves no message behind. The order of the parts is free (assumption 15). By the model's choice (assumption 2) a part
that is not outstanding changes nothing. -/
def Obligations.WarmResetReachesEveryOwner : Prop :=
  ∀ s : State,
    (∀ h, s.hasInHand h .warmReset → s.mode ≠ .loading → exec .warmReset s = .next { s with port := { s.port with
      response := if h.superseded then s.port.response else .composed h.tag .ok .none
      warmParts := [.migration, .link, .watch, .slots, .store, .conditions] } }) ∧
    (let left (p : WarmPart) (port : Port) : Port :=
        { port with warmParts := s.port.warmParts.erase p
                    inHand := if s.port.warmParts.erase p = [] then none else s.port.inHand };
      (.migration ∈ s.port.warmParts → ∃ t, exec .warmResetMigration s = .next t ∧ s.EndedSilently t .warmReset ∧
        t.port = left .migration s.port ∧ t.ctr = s.ctr ∧ t.pol = s.pol ∧ t.rst = s.rst ∧ t.mode = s.mode ∧
        t.mge.reports = s.mge.reports ∧ t.sbl.state = s.sbl.state ∧
        (.link ∈ s.port.warmParts → t.sbl.outbound = s.sbl.outbound) ∧
        (.link ∉ s.port.warmParts → s.sbl.waiting = [] → t.sbl.outbound = s.sbl.outbound.filter fun m =>
          match m.owner with | some c => (s.ctx c).isIdle | none => true)) ∧
      (.link ∈ s.port.warmParts →
        let link : Link := { s.sbl with state := .greeting, badRun := 0, retryTimer := some 100, outbound := [.hello], waiting := [] };
        (∃ t, exec .warmResetLink s = .next t ∧ s.EndedSilently t .warmReset ∧ (∀ c, (t.ctx c).held = []) ∧ t.sbl = link ∧
          t.port = left .link s.port ∧ t.ctr = s.ctr ∧ t.pol = s.pol ∧ t.rst = s.rst ∧ t.mode = s.mode ∧
          t.mge.reports = s.mge.reports) ∧
        ((∀ c, (s.ctx c).isIdle = true ∧ (s.ctx c).held = []) →
          exec .warmResetLink s = .next { s with sbl := link, port := left .link s.port })) ∧
      (.watch ∈ s.port.warmParts → exec .warmResetWatch s = .next { s with
        wls := { s.wls with items := [] }, port := left .watch s.port }) ∧
      (.slots ∈ s.port.warmParts → ∃ t, exec .warmResetSlots s = .next t ∧ t = { s with sld := t.sld, port := left .slots s.port } ∧
        ∀ r b k, t.slot r b k = match (s.slot r b k).state with
          | .testing _ => ⟨.free, (s.slot r b k).grade⟩
          | _ => s.slot r b k) ∧
      (.store ∈ s.port.warmParts →
        (s.rst.stage.cancellable = none → exec .warmResetStore s = .next { s with port := left .store s.port }) ∧
        (∀ i o n m st, s.rst.stage.cancellable = some i → s.entry i = .live o n m st →
          exec .warmResetStore s = .next { (s.setStage .empty).setEntry i (.live o n m none) with port := left .store s.port })) ∧
      (.conditions ∈ s.port.warmParts → exec .warmResetConditions s = .next { s with
        port := left .conditions { s.port with conditions := 0, alert := false } }) ∧
      (s.port.warmParts = [] → exec .warmResetMigration s = .next s ∧ exec .warmResetLink s = .next s ∧
        exec .warmResetWatch s = .next s ∧ exec .warmResetSlots s = .next s ∧ exec .warmResetStore s = .next s ∧
        exec .warmResetConditions s = .next s))
end

