-- ==== Sys2Proof/Laws/State.lean ====
section
/-! SUPPORT. One lemma for each field and each plain update of `State`, so that no later proof unfolds a record update. -/

namespace Sys2Proof.Machine

variable (s : State)

@[simp] theorem State.setEntry_pending (i : EntryIx) (e : Entry) : (s.setEntry i e).pending = s.pending := rfl
@[simp] theorem State.setEntry_powerHeld (i : EntryIx) (e : Entry) : (s.setEntry i e).powerHeld = s.powerHeld := rfl
@[simp] theorem State.setEntry_mode (i : EntryIx) (e : Entry) : (s.setEntry i e).mode = s.mode := rfl
@[simp] theorem State.setEntry_ready (i : EntryIx) (e : Entry) : (s.setEntry i e).ready = s.ready := rfl
@[simp] theorem State.setEntry_adrPins (i : EntryIx) (e : Entry) : (s.setEntry i e).adrPins = s.adrPins := rfl
@[simp] theorem State.setEntry_target (i : EntryIx) (e : Entry) : (s.setEntry i e).target = s.target := rfl
@[simp] theorem State.setEntry_sld (i : EntryIx) (e : Entry) : (s.setEntry i e).sld = s.sld := rfl
@[simp] theorem State.setEntry_ctr (i : EntryIx) (e : Entry) : (s.setEntry i e).ctr = s.ctr := rfl
@[simp] theorem State.setEntry_mge (i : EntryIx) (e : Entry) : (s.setEntry i e).mge = s.mge := rfl
@[simp] theorem State.setEntry_sbl (i : EntryIx) (e : Entry) : (s.setEntry i e).sbl = s.sbl := rfl
@[simp] theorem State.setEntry_wls (i : EntryIx) (e : Entry) : (s.setEntry i e).wls = s.wls := rfl
@[simp] theorem State.setEntry_pol (i : EntryIx) (e : Entry) : (s.setEntry i e).pol = s.pol := rfl
@[simp] theorem State.setEntry_rst (i : EntryIx) (e : Entry) : (s.setEntry i e).rst = s.rst := rfl
@[simp] theorem State.setEntry_port (i : EntryIx) (e : Entry) : (s.setEntry i e).port = s.port := rfl
@[simp] theorem State.setEntry_freeCount (i : EntryIx) (e : Entry) : (s.setEntry i e).freeCount = s.freeCount := rfl

@[simp] theorem State.bumpGeneration_pending : (s.bumpGeneration).pending = s.pending := rfl
@[simp] theorem State.bumpGeneration_powerHeld : (s.bumpGeneration).powerHeld = s.powerHeld := rfl
@[simp] theorem State.bumpGeneration_mode : (s.bumpGeneration).mode = s.mode := rfl
@[simp] theorem State.bumpGeneration_ready : (s.bumpGeneration).ready = s.ready := rfl
@[simp] theorem State.bumpGeneration_adrPins : (s.bumpGeneration).adrPins = s.adrPins := rfl
@[simp] theorem State.bumpGeneration_target : (s.bumpGeneration).target = s.target := rfl
@[simp] theorem State.bumpGeneration_sld : (s.bumpGeneration).sld = s.sld := rfl
@[simp] theorem State.bumpGeneration_ctr : (s.bumpGeneration).ctr = s.ctr := rfl
@[simp] theorem State.bumpGeneration_mge : (s.bumpGeneration).mge = s.mge := rfl
@[simp] theorem State.bumpGeneration_sbl : (s.bumpGeneration).sbl = s.sbl := rfl
@[simp] theorem State.bumpGeneration_wls : (s.bumpGeneration).wls = s.wls := rfl
@[simp] theorem State.bumpGeneration_pol : (s.bumpGeneration).pol = s.pol := rfl
@[simp] theorem State.bumpGeneration_rst : (s.bumpGeneration).rst = s.rst := rfl
@[simp] theorem State.bumpGeneration_port : (s.bumpGeneration).port = s.port := rfl
@[simp] theorem State.bumpGeneration_freeCount : (s.bumpGeneration).freeCount = s.freeCount := rfl

@[simp] theorem State.reportCloseToTable_pending (x : CloseReport) : (s.reportCloseToTable x).pending = s.pending := rfl
@[simp] theorem State.reportCloseToTable_powerHeld (x : CloseReport) : (s.reportCloseToTable x).powerHeld = s.powerHeld := rfl
@[simp] theorem State.reportCloseToTable_mode (x : CloseReport) : (s.reportCloseToTable x).mode = s.mode := rfl
@[simp] theorem State.reportCloseToTable_ready (x : CloseReport) : (s.reportCloseToTable x).ready = s.ready := rfl
@[simp] theorem State.reportCloseToTable_adrPins (x : CloseReport) : (s.reportCloseToTable x).adrPins = s.adrPins := rfl
@[simp] theorem State.reportCloseToTable_target (x : CloseReport) : (s.reportCloseToTable x).target = s.target := rfl
@[simp] theorem State.reportCloseToTable_sld (x : CloseReport) : (s.reportCloseToTable x).sld = s.sld := rfl
@[simp] theorem State.reportCloseToTable_ctr (x : CloseReport) : (s.reportCloseToTable x).ctr = s.ctr := rfl
@[simp] theorem State.reportCloseToTable_mge (x : CloseReport) : (s.reportCloseToTable x).mge = s.mge := rfl
@[simp] theorem State.reportCloseToTable_sbl (x : CloseReport) : (s.reportCloseToTable x).sbl = s.sbl := rfl
@[simp] theorem State.reportCloseToTable_wls (x : CloseReport) : (s.reportCloseToTable x).wls = s.wls := rfl
@[simp] theorem State.reportCloseToTable_pol (x : CloseReport) : (s.reportCloseToTable x).pol = s.pol := rfl
@[simp] theorem State.reportCloseToTable_rst (x : CloseReport) : (s.reportCloseToTable x).rst = s.rst := rfl
@[simp] theorem State.reportCloseToTable_port (x : CloseReport) : (s.reportCloseToTable x).port = s.port := rfl
@[simp] theorem State.reportCloseToTable_freeCount (x : CloseReport) : (s.reportCloseToTable x).freeCount = s.freeCount := rfl

@[simp] theorem State.setSlot_pending (r : Rank) (b : Bank) (k : SlotNo) (x : SlotRecord) : (s.setSlot r b k x).pending = s.pending := rfl
@[simp] theorem State.setSlot_powerHeld (r : Rank) (b : Bank) (k : SlotNo) (x : SlotRecord) : (s.setSlot r b k x).powerHeld = s.powerHeld := rfl
@[simp] theorem State.setSlot_mode (r : Rank) (b : Bank) (k : SlotNo) (x : SlotRecord) : (s.setSlot r b k x).mode = s.mode := rfl
@[simp] theorem State.setSlot_ready (r : Rank) (b : Bank) (k : SlotNo) (x : SlotRecord) : (s.setSlot r b k x).ready = s.ready := rfl
@[simp] theorem State.setSlot_adrPins (r : Rank) (b : Bank) (k : SlotNo) (x : SlotRecord) : (s.setSlot r b k x).adrPins = s.adrPins := rfl
@[simp] theorem State.setSlot_target (r : Rank) (b : Bank) (k : SlotNo) (x : SlotRecord) : (s.setSlot r b k x).target = s.target := rfl
@[simp] theorem State.setSlot_rmt (r : Rank) (b : Bank) (k : SlotNo) (x : SlotRecord) : (s.setSlot r b k x).rmt = s.rmt := rfl
@[simp] theorem State.setSlot_ctr (r : Rank) (b : Bank) (k : SlotNo) (x : SlotRecord) : (s.setSlot r b k x).ctr = s.ctr := rfl
@[simp] theorem State.setSlot_mge (r : Rank) (b : Bank) (k : SlotNo) (x : SlotRecord) : (s.setSlot r b k x).mge = s.mge := rfl
@[simp] theorem State.setSlot_sbl (r : Rank) (b : Bank) (k : SlotNo) (x : SlotRecord) : (s.setSlot r b k x).sbl = s.sbl := rfl
@[simp] theorem State.setSlot_wls (r : Rank) (b : Bank) (k : SlotNo) (x : SlotRecord) : (s.setSlot r b k x).wls = s.wls := rfl
@[simp] theorem State.setSlot_pol (r : Rank) (b : Bank) (k : SlotNo) (x : SlotRecord) : (s.setSlot r b k x).pol = s.pol := rfl
@[simp] theorem State.setSlot_rst (r : Rank) (b : Bank) (k : SlotNo) (x : SlotRecord) : (s.setSlot r b k x).rst = s.rst := rfl
@[simp] theorem State.setSlot_port (r : Rank) (b : Bank) (k : SlotNo) (x : SlotRecord) : (s.setSlot r b k x).port = s.port := rfl
@[simp] theorem State.setSlot_freeCount (r : Rank) (b : Bank) (k : SlotNo) (x : SlotRecord) : (s.setSlot r b k x).freeCount = s.freeCount := rfl

@[simp] theorem State.freeSlot_pending (r : Rank) (b : Bank) (k : SlotNo) : (s.freeSlot r b k).pending = s.pending := rfl
@[simp] theorem State.freeSlot_powerHeld (r : Rank) (b : Bank) (k : SlotNo) : (s.freeSlot r b k).powerHeld = s.powerHeld := rfl
@[simp] theorem State.freeSlot_mode (r : Rank) (b : Bank) (k : SlotNo) : (s.freeSlot r b k).mode = s.mode := rfl
@[simp] theorem State.freeSlot_ready (r : Rank) (b : Bank) (k : SlotNo) : (s.freeSlot r b k).ready = s.ready := rfl
@[simp] theorem State.freeSlot_adrPins (r : Rank) (b : Bank) (k : SlotNo) : (s.freeSlot r b k).adrPins = s.adrPins := rfl
@[simp] theorem State.freeSlot_target (r : Rank) (b : Bank) (k : SlotNo) : (s.freeSlot r b k).target = s.target := rfl
@[simp] theorem State.freeSlot_rmt (r : Rank) (b : Bank) (k : SlotNo) : (s.freeSlot r b k).rmt = s.rmt := rfl
@[simp] theorem State.freeSlot_ctr (r : Rank) (b : Bank) (k : SlotNo) : (s.freeSlot r b k).ctr = s.ctr := rfl
@[simp] theorem State.freeSlot_mge (r : Rank) (b : Bank) (k : SlotNo) : (s.freeSlot r b k).mge = s.mge := rfl
@[simp] theorem State.freeSlot_sbl (r : Rank) (b : Bank) (k : SlotNo) : (s.freeSlot r b k).sbl = s.sbl := rfl
@[simp] theorem State.freeSlot_wls (r : Rank) (b : Bank) (k : SlotNo) : (s.freeSlot r b k).wls = s.wls := rfl
@[simp] theorem State.freeSlot_pol (r : Rank) (b : Bank) (k : SlotNo) : (s.freeSlot r b k).pol = s.pol := rfl
@[simp] theorem State.freeSlot_rst (r : Rank) (b : Bank) (k : SlotNo) : (s.freeSlot r b k).rst = s.rst := rfl
@[simp] theorem State.freeSlot_port (r : Rank) (b : Bank) (k : SlotNo) : (s.freeSlot r b k).port = s.port := rfl
@[simp] theorem State.freeSlot_freeCount (r : Rank) (b : Bank) (k : SlotNo) : (s.freeSlot r b k).freeCount = s.freeCount := rfl

@[simp] theorem State.freeSlotBad_pending (r : Rank) (b : Bank) (k : SlotNo) : (s.freeSlotBad r b k).pending = s.pending := rfl
@[simp] theorem State.freeSlotBad_powerHeld (r : Rank) (b : Bank) (k : SlotNo) : (s.freeSlotBad r b k).powerHeld = s.powerHeld := rfl
@[simp] theorem State.freeSlotBad_mode (r : Rank) (b : Bank) (k : SlotNo) : (s.freeSlotBad r b k).mode = s.mode := rfl
@[simp] theorem State.freeSlotBad_ready (r : Rank) (b : Bank) (k : SlotNo) : (s.freeSlotBad r b k).ready = s.ready := rfl
@[simp] theorem State.freeSlotBad_adrPins (r : Rank) (b : Bank) (k : SlotNo) : (s.freeSlotBad r b k).adrPins = s.adrPins := rfl
@[simp] theorem State.freeSlotBad_target (r : Rank) (b : Bank) (k : SlotNo) : (s.freeSlotBad r b k).target = s.target := rfl
@[simp] theorem State.freeSlotBad_rmt (r : Rank) (b : Bank) (k : SlotNo) : (s.freeSlotBad r b k).rmt = s.rmt := rfl
@[simp] theorem State.freeSlotBad_ctr (r : Rank) (b : Bank) (k : SlotNo) : (s.freeSlotBad r b k).ctr = s.ctr := rfl
@[simp] theorem State.freeSlotBad_mge (r : Rank) (b : Bank) (k : SlotNo) : (s.freeSlotBad r b k).mge = s.mge := rfl
@[simp] theorem State.freeSlotBad_sbl (r : Rank) (b : Bank) (k : SlotNo) : (s.freeSlotBad r b k).sbl = s.sbl := rfl
@[simp] theorem State.freeSlotBad_wls (r : Rank) (b : Bank) (k : SlotNo) : (s.freeSlotBad r b k).wls = s.wls := rfl
@[simp] theorem State.freeSlotBad_pol (r : Rank) (b : Bank) (k : SlotNo) : (s.freeSlotBad r b k).pol = s.pol := rfl
@[simp] theorem State.freeSlotBad_rst (r : Rank) (b : Bank) (k : SlotNo) : (s.freeSlotBad r b k).rst = s.rst := rfl
@[simp] theorem State.freeSlotBad_port (r : Rank) (b : Bank) (k : SlotNo) : (s.freeSlotBad r b k).port = s.port := rfl
@[simp] theorem State.freeSlotBad_freeCount (r : Rank) (b : Bank) (k : SlotNo) : (s.freeSlotBad r b k).freeCount = s.freeCount := rfl

@[simp] theorem State.setSlotState_pending (r : Rank) (b : Bank) (k : SlotNo) (x : SlotState) : (s.setSlotState r b k x).pending = s.pending := rfl
@[simp] theorem State.setSlotState_powerHeld (r : Rank) (b : Bank) (k : SlotNo) (x : SlotState) : (s.setSlotState r b k x).powerHeld = s.powerHeld := rfl
@[simp] theorem State.setSlotState_mode (r : Rank) (b : Bank) (k : SlotNo) (x : SlotState) : (s.setSlotState r b k x).mode = s.mode := rfl
@[simp] theorem State.setSlotState_ready (r : Rank) (b : Bank) (k : SlotNo) (x : SlotState) : (s.setSlotState r b k x).ready = s.ready := rfl
@[simp] theorem State.setSlotState_adrPins (r : Rank) (b : Bank) (k : SlotNo) (x : SlotState) : (s.setSlotState r b k x).adrPins = s.adrPins := rfl
@[simp] theorem State.setSlotState_target (r : Rank) (b : Bank) (k : SlotNo) (x : SlotState) : (s.setSlotState r b k x).target = s.target := rfl
@[simp] theorem State.setSlotState_rmt (r : Rank) (b : Bank) (k : SlotNo) (x : SlotState) : (s.setSlotState r b k x).rmt = s.rmt := rfl
@[simp] theorem State.setSlotState_ctr (r : Rank) (b : Bank) (k : SlotNo) (x : SlotState) : (s.setSlotState r b k x).ctr = s.ctr := rfl
@[simp] theorem State.setSlotState_mge (r : Rank) (b : Bank) (k : SlotNo) (x : SlotState) : (s.setSlotState r b k x).mge = s.mge := rfl
@[simp] theorem State.setSlotState_sbl (r : Rank) (b : Bank) (k : SlotNo) (x : SlotState) : (s.setSlotState r b k x).sbl = s.sbl := rfl
@[simp] theorem State.setSlotState_wls (r : Rank) (b : Bank) (k : SlotNo) (x : SlotState) : (s.setSlotState r b k x).wls = s.wls := rfl
@[simp] theorem State.setSlotState_pol (r : Rank) (b : Bank) (k : SlotNo) (x : SlotState) : (s.setSlotState r b k x).pol = s.pol := rfl
@[simp] theorem State.setSlotState_rst (r : Rank) (b : Bank) (k : SlotNo) (x : SlotState) : (s.setSlotState r b k x).rst = s.rst := rfl
@[simp] theorem State.setSlotState_port (r : Rank) (b : Bank) (k : SlotNo) (x : SlotState) : (s.setSlotState r b k x).port = s.port := rfl
@[simp] theorem State.setSlotState_freeCount (r : Rank) (b : Bank) (k : SlotNo) (x : SlotState) : (s.setSlotState r b k x).freeCount = s.freeCount := rfl

@[simp] theorem State.endTests_pending : (s.endTests).pending = s.pending := rfl
@[simp] theorem State.endTests_powerHeld : (s.endTests).powerHeld = s.powerHeld := rfl
@[simp] theorem State.endTests_mode : (s.endTests).mode = s.mode := rfl
@[simp] theorem State.endTests_ready : (s.endTests).ready = s.ready := rfl
@[simp] theorem State.endTests_adrPins : (s.endTests).adrPins = s.adrPins := rfl
@[simp] theorem State.endTests_target : (s.endTests).target = s.target := rfl
@[simp] theorem State.endTests_rmt : (s.endTests).rmt = s.rmt := rfl
@[simp] theorem State.endTests_ctr : (s.endTests).ctr = s.ctr := rfl
@[simp] theorem State.endTests_mge : (s.endTests).mge = s.mge := rfl
@[simp] theorem State.endTests_sbl : (s.endTests).sbl = s.sbl := rfl
@[simp] theorem State.endTests_wls : (s.endTests).wls = s.wls := rfl
@[simp] theorem State.endTests_pol : (s.endTests).pol = s.pol := rfl
@[simp] theorem State.endTests_rst : (s.endTests).rst = s.rst := rfl
@[simp] theorem State.endTests_port : (s.endTests).port = s.port := rfl
@[simp] theorem State.endTests_freeCount : (s.endTests).freeCount = s.freeCount := rfl

@[simp] theorem State.setRecord_pending (r : Rank) (b : Bank) (x : Option OpenRow) : (s.setRecord r b x).pending = s.pending := rfl
@[simp] theorem State.setRecord_powerHeld (r : Rank) (b : Bank) (x : Option OpenRow) : (s.setRecord r b x).powerHeld = s.powerHeld := rfl
@[simp] theorem State.setRecord_mode (r : Rank) (b : Bank) (x : Option OpenRow) : (s.setRecord r b x).mode = s.mode := rfl
@[simp] theorem State.setRecord_ready (r : Rank) (b : Bank) (x : Option OpenRow) : (s.setRecord r b x).ready = s.ready := rfl
@[simp] theorem State.setRecord_adrPins (r : Rank) (b : Bank) (x : Option OpenRow) : (s.setRecord r b x).adrPins = s.adrPins := rfl
@[simp] theorem State.setRecord_target (r : Rank) (b : Bank) (x : Option OpenRow) : (s.setRecord r b x).target = s.target := rfl
@[simp] theorem State.setRecord_rmt (r : Rank) (b : Bank) (x : Option OpenRow) : (s.setRecord r b x).rmt = s.rmt := rfl
@[simp] theorem State.setRecord_sld (r : Rank) (b : Bank) (x : Option OpenRow) : (s.setRecord r b x).sld = s.sld := rfl
@[simp] theorem State.setRecord_mge (r : Rank) (b : Bank) (x : Option OpenRow) : (s.setRecord r b x).mge = s.mge := rfl
@[simp] theorem State.setRecord_sbl (r : Rank) (b : Bank) (x : Option OpenRow) : (s.setRecord r b x).sbl = s.sbl := rfl
@[simp] theorem State.setRecord_wls (r : Rank) (b : Bank) (x : Option OpenRow) : (s.setRecord r b x).wls = s.wls := rfl
@[simp] theorem State.setRecord_pol (r : Rank) (b : Bank) (x : Option OpenRow) : (s.setRecord r b x).pol = s.pol := rfl
@[simp] theorem State.setRecord_rst (r : Rank) (b : Bank) (x : Option OpenRow) : (s.setRecord r b x).rst = s.rst := rfl
@[simp] theorem State.setRecord_port (r : Rank) (b : Bank) (x : Option OpenRow) : (s.setRecord r b x).port = s.port := rfl
@[simp] theorem State.setRecord_freeCount (r : Rank) (b : Bank) (x : Option OpenRow) : (s.setRecord r b x).freeCount = s.freeCount := rfl

@[simp] theorem State.forward_pending (x : ChannelCommand) : (s.forward x).pending = s.pending := rfl
@[simp] theorem State.forward_powerHeld (x : ChannelCommand) : (s.forward x).powerHeld = s.powerHeld := rfl
@[simp] theorem State.forward_mode (x : ChannelCommand) : (s.forward x).mode = s.mode := rfl
@[simp] theorem State.forward_ready (x : ChannelCommand) : (s.forward x).ready = s.ready := rfl
@[simp] theorem State.forward_adrPins (x : ChannelCommand) : (s.forward x).adrPins = s.adrPins := rfl
@[simp] theorem State.forward_target (x : ChannelCommand) : (s.forward x).target = s.target := rfl
@[simp] theorem State.forward_rmt (x : ChannelCommand) : (s.forward x).rmt = s.rmt := rfl
@[simp] theorem State.forward_sld (x : ChannelCommand) : (s.forward x).sld = s.sld := rfl
@[simp] theorem State.forward_mge (x : ChannelCommand) : (s.forward x).mge = s.mge := rfl
@[simp] theorem State.forward_sbl (x : ChannelCommand) : (s.forward x).sbl = s.sbl := rfl
@[simp] theorem State.forward_wls (x : ChannelCommand) : (s.forward x).wls = s.wls := rfl
@[simp] theorem State.forward_pol (x : ChannelCommand) : (s.forward x).pol = s.pol := rfl
@[simp] theorem State.forward_rst (x : ChannelCommand) : (s.forward x).rst = s.rst := rfl
@[simp] theorem State.forward_port (x : ChannelCommand) : (s.forward x).port = s.port := rfl
@[simp] theorem State.forward_freeCount (x : ChannelCommand) : (s.forward x).freeCount = s.freeCount := rfl

@[simp] theorem State.setResetLine_pending (b : Bool) : (s.setResetLine b).pending = s.pending := rfl
@[simp] theorem State.setResetLine_powerHeld (b : Bool) : (s.setResetLine b).powerHeld = s.powerHeld := rfl
@[simp] theorem State.setResetLine_mode (b : Bool) : (s.setResetLine b).mode = s.mode := rfl
@[simp] theorem State.setResetLine_ready (b : Bool) : (s.setResetLine b).ready = s.ready := rfl
@[simp] theorem State.setResetLine_adrPins (b : Bool) : (s.setResetLine b).adrPins = s.adrPins := rfl
@[simp] theorem State.setResetLine_target (b : Bool) : (s.setResetLine b).target = s.target := rfl
@[simp] theorem State.setResetLine_rmt (b : Bool) : (s.setResetLine b).rmt = s.rmt := rfl
@[simp] theorem State.setResetLine_sld (b : Bool) : (s.setResetLine b).sld = s.sld := rfl
@[simp] theorem State.setResetLine_mge (b : Bool) : (s.setResetLine b).mge = s.mge := rfl
@[simp] theorem State.setResetLine_sbl (b : Bool) : (s.setResetLine b).sbl = s.sbl := rfl
@[simp] theorem State.setResetLine_wls (b : Bool) : (s.setResetLine b).wls = s.wls := rfl
@[simp] theorem State.setResetLine_pol (b : Bool) : (s.setResetLine b).pol = s.pol := rfl
@[simp] theorem State.setResetLine_rst (b : Bool) : (s.setResetLine b).rst = s.rst := rfl
@[simp] theorem State.setResetLine_port (b : Bool) : (s.setResetLine b).port = s.port := rfl
@[simp] theorem State.setResetLine_freeCount (b : Bool) : (s.setResetLine b).freeCount = s.freeCount := rfl

@[simp] theorem State.setCtx_pending (c : Ctx) (x : Context) : (s.setCtx c x).pending = s.pending := rfl
@[simp] theorem State.setCtx_powerHeld (c : Ctx) (x : Context) : (s.setCtx c x).powerHeld = s.powerHeld := rfl
@[simp] theorem State.setCtx_mode (c : Ctx) (x : Context) : (s.setCtx c x).mode = s.mode := rfl
@[simp] theorem State.setCtx_ready (c : Ctx) (x : Context) : (s.setCtx c x).ready = s.ready := rfl
@[simp] theorem State.setCtx_adrPins (c : Ctx) (x : Context) : (s.setCtx c x).adrPins = s.adrPins := rfl
@[simp] theorem State.setCtx_target (c : Ctx) (x : Context) : (s.setCtx c x).target = s.target := rfl
@[simp] theorem State.setCtx_rmt (c : Ctx) (x : Context) : (s.setCtx c x).rmt = s.rmt := rfl
@[simp] theorem State.setCtx_sld (c : Ctx) (x : Context) : (s.setCtx c x).sld = s.sld := rfl
@[simp] theorem State.setCtx_ctr (c : Ctx) (x : Context) : (s.setCtx c x).ctr = s.ctr := rfl
@[simp] theorem State.setCtx_sbl (c : Ctx) (x : Context) : (s.setCtx c x).sbl = s.sbl := rfl
@[simp] theorem State.setCtx_wls (c : Ctx) (x : Context) : (s.setCtx c x).wls = s.wls := rfl
@[simp] theorem State.setCtx_pol (c : Ctx) (x : Context) : (s.setCtx c x).pol = s.pol := rfl
@[simp] theorem State.setCtx_rst (c : Ctx) (x : Context) : (s.setCtx c x).rst = s.rst := rfl
@[simp] theorem State.setCtx_port (c : Ctx) (x : Context) : (s.setCtx c x).port = s.port := rfl
@[simp] theorem State.setCtx_freeCount (c : Ctx) (x : Context) : (s.setCtx c x).freeCount = s.freeCount := rfl

@[simp] theorem State.enterState_pending (c : Ctx) (st : BusyState) (j : Job) : (s.enterState c st j).pending = s.pending := rfl
@[simp] theorem State.enterState_powerHeld (c : Ctx) (st : BusyState) (j : Job) : (s.enterState c st j).powerHeld = s.powerHeld := rfl
@[simp] theorem State.enterState_mode (c : Ctx) (st : BusyState) (j : Job) : (s.enterState c st j).mode = s.mode := rfl
@[simp] theorem State.enterState_ready (c : Ctx) (st : BusyState) (j : Job) : (s.enterState c st j).ready = s.ready := rfl
@[simp] theorem State.enterState_adrPins (c : Ctx) (st : BusyState) (j : Job) : (s.enterState c st j).adrPins = s.adrPins := rfl
@[simp] theorem State.enterState_target (c : Ctx) (st : BusyState) (j : Job) : (s.enterState c st j).target = s.target := rfl
@[simp] theorem State.enterState_rmt (c : Ctx) (st : BusyState) (j : Job) : (s.enterState c st j).rmt = s.rmt := rfl
@[simp] theorem State.enterState_sld (c : Ctx) (st : BusyState) (j : Job) : (s.enterState c st j).sld = s.sld := rfl
@[simp] theorem State.enterState_ctr (c : Ctx) (st : BusyState) (j : Job) : (s.enterState c st j).ctr = s.ctr := rfl
@[simp] theorem State.enterState_sbl (c : Ctx) (st : BusyState) (j : Job) : (s.enterState c st j).sbl = s.sbl := rfl
@[simp] theorem State.enterState_wls (c : Ctx) (st : BusyState) (j : Job) : (s.enterState c st j).wls = s.wls := rfl
@[simp] theorem State.enterState_pol (c : Ctx) (st : BusyState) (j : Job) : (s.enterState c st j).pol = s.pol := rfl
@[simp] theorem State.enterState_rst (c : Ctx) (st : BusyState) (j : Job) : (s.enterState c st j).rst = s.rst := rfl
@[simp] theorem State.enterState_port (c : Ctx) (st : BusyState) (j : Job) : (s.enterState c st j).port = s.port := rfl
@[simp] theorem State.enterState_freeCount (c : Ctx) (st : BusyState) (j : Job) : (s.enterState c st j).freeCount = s.freeCount := rfl

@[simp] theorem State.enterTimed_pending (c : Ctx) (st : BusyState) (j : Job) (ms : Nat) : (s.enterTimed c st j ms).pending = s.pending := rfl
@[simp] theorem State.enterTimed_powerHeld (c : Ctx) (st : BusyState) (j : Job) (ms : Nat) : (s.enterTimed c st j ms).powerHeld = s.powerHeld := rfl
@[simp] theorem State.enterTimed_mode (c : Ctx) (st : BusyState) (j : Job) (ms : Nat) : (s.enterTimed c st j ms).mode = s.mode := rfl
@[simp] theorem State.enterTimed_ready (c : Ctx) (st : BusyState) (j : Job) (ms : Nat) : (s.enterTimed c st j ms).ready = s.ready := rfl
@[simp] theorem State.enterTimed_adrPins (c : Ctx) (st : BusyState) (j : Job) (ms : Nat) : (s.enterTimed c st j ms).adrPins = s.adrPins := rfl
@[simp] theorem State.enterTimed_target (c : Ctx) (st : BusyState) (j : Job) (ms : Nat) : (s.enterTimed c st j ms).target = s.target := rfl
@[simp] theorem State.enterTimed_rmt (c : Ctx) (st : BusyState) (j : Job) (ms : Nat) : (s.enterTimed c st j ms).rmt = s.rmt := rfl
@[simp] theorem State.enterTimed_sld (c : Ctx) (st : BusyState) (j : Job) (ms : Nat) : (s.enterTimed c st j ms).sld = s.sld := rfl
@[simp] theorem State.enterTimed_ctr (c : Ctx) (st : BusyState) (j : Job) (ms : Nat) : (s.enterTimed c st j ms).ctr = s.ctr := rfl
@[simp] theorem State.enterTimed_sbl (c : Ctx) (st : BusyState) (j : Job) (ms : Nat) : (s.enterTimed c st j ms).sbl = s.sbl := rfl
@[simp] theorem State.enterTimed_wls (c : Ctx) (st : BusyState) (j : Job) (ms : Nat) : (s.enterTimed c st j ms).wls = s.wls := rfl
@[simp] theorem State.enterTimed_pol (c : Ctx) (st : BusyState) (j : Job) (ms : Nat) : (s.enterTimed c st j ms).pol = s.pol := rfl
@[simp] theorem State.enterTimed_rst (c : Ctx) (st : BusyState) (j : Job) (ms : Nat) : (s.enterTimed c st j ms).rst = s.rst := rfl
@[simp] theorem State.enterTimed_port (c : Ctx) (st : BusyState) (j : Job) (ms : Nat) : (s.enterTimed c st j ms).port = s.port := rfl
@[simp] theorem State.enterTimed_freeCount (c : Ctx) (st : BusyState) (j : Job) (ms : Nat) : (s.enterTimed c st j ms).freeCount = s.freeCount := rfl

@[simp] theorem State.setJob_pending (c : Ctx) (st : BusyState) (j : Job) : (s.setJob c st j).pending = s.pending := rfl
@[simp] theorem State.setJob_powerHeld (c : Ctx) (st : BusyState) (j : Job) : (s.setJob c st j).powerHeld = s.powerHeld := rfl
@[simp] theorem State.setJob_mode (c : Ctx) (st : BusyState) (j : Job) : (s.setJob c st j).mode = s.mode := rfl
@[simp] theorem State.setJob_ready (c : Ctx) (st : BusyState) (j : Job) : (s.setJob c st j).ready = s.ready := rfl
@[simp] theorem State.setJob_adrPins (c : Ctx) (st : BusyState) (j : Job) : (s.setJob c st j).adrPins = s.adrPins := rfl
@[simp] theorem State.setJob_target (c : Ctx) (st : BusyState) (j : Job) : (s.setJob c st j).target = s.target := rfl
@[simp] theorem State.setJob_rmt (c : Ctx) (st : BusyState) (j : Job) : (s.setJob c st j).rmt = s.rmt := rfl
@[simp] theorem State.setJob_sld (c : Ctx) (st : BusyState) (j : Job) : (s.setJob c st j).sld = s.sld := rfl
@[simp] theorem State.setJob_ctr (c : Ctx) (st : BusyState) (j : Job) : (s.setJob c st j).ctr = s.ctr := rfl
@[simp] theorem State.setJob_sbl (c : Ctx) (st : BusyState) (j : Job) : (s.setJob c st j).sbl = s.sbl := rfl
@[simp] theorem State.setJob_wls (c : Ctx) (st : BusyState) (j : Job) : (s.setJob c st j).wls = s.wls := rfl
@[simp] theorem State.setJob_pol (c : Ctx) (st : BusyState) (j : Job) : (s.setJob c st j).pol = s.pol := rfl
@[simp] theorem State.setJob_rst (c : Ctx) (st : BusyState) (j : Job) : (s.setJob c st j).rst = s.rst := rfl
@[simp] theorem State.setJob_port (c : Ctx) (st : BusyState) (j : Job) : (s.setJob c st j).port = s.port := rfl
@[simp] theorem State.setJob_freeCount (c : Ctx) (st : BusyState) (j : Job) : (s.setJob c st j).freeCount = s.freeCount := rfl

@[simp] theorem State.setLastResult_pending (c : Ctx) (x : MigrationResult) : (s.setLastResult c x).pending = s.pending := rfl
@[simp] theorem State.setLastResult_powerHeld (c : Ctx) (x : MigrationResult) : (s.setLastResult c x).powerHeld = s.powerHeld := rfl
@[simp] theorem State.setLastResult_mode (c : Ctx) (x : MigrationResult) : (s.setLastResult c x).mode = s.mode := rfl
@[simp] theorem State.setLastResult_ready (c : Ctx) (x : MigrationResult) : (s.setLastResult c x).ready = s.ready := rfl
@[simp] theorem State.setLastResult_adrPins (c : Ctx) (x : MigrationResult) : (s.setLastResult c x).adrPins = s.adrPins := rfl
@[simp] theorem State.setLastResult_target (c : Ctx) (x : MigrationResult) : (s.setLastResult c x).target = s.target := rfl
@[simp] theorem State.setLastResult_rmt (c : Ctx) (x : MigrationResult) : (s.setLastResult c x).rmt = s.rmt := rfl
@[simp] theorem State.setLastResult_sld (c : Ctx) (x : MigrationResult) : (s.setLastResult c x).sld = s.sld := rfl
@[simp] theorem State.setLastResult_ctr (c : Ctx) (x : MigrationResult) : (s.setLastResult c x).ctr = s.ctr := rfl
@[simp] theorem State.setLastResult_sbl (c : Ctx) (x : MigrationResult) : (s.setLastResult c x).sbl = s.sbl := rfl
@[simp] theorem State.setLastResult_wls (c : Ctx) (x : MigrationResult) : (s.setLastResult c x).wls = s.wls := rfl
@[simp] theorem State.setLastResult_pol (c : Ctx) (x : MigrationResult) : (s.setLastResult c x).pol = s.pol := rfl
@[simp] theorem State.setLastResult_rst (c : Ctx) (x : MigrationResult) : (s.setLastResult c x).rst = s.rst := rfl
@[simp] theorem State.setLastResult_port (c : Ctx) (x : MigrationResult) : (s.setLastResult c x).port = s.port := rfl
@[simp] theorem State.setLastResult_freeCount (c : Ctx) (x : MigrationResult) : (s.setLastResult c x).freeCount = s.freeCount := rfl

@[simp] theorem State.setReports_pending (l : List Report) : (s.setReports l).pending = s.pending := rfl
@[simp] theorem State.setReports_powerHeld (l : List Report) : (s.setReports l).powerHeld = s.powerHeld := rfl
@[simp] theorem State.setReports_mode (l : List Report) : (s.setReports l).mode = s.mode := rfl
@[simp] theorem State.setReports_ready (l : List Report) : (s.setReports l).ready = s.ready := rfl
@[simp] theorem State.setReports_adrPins (l : List Report) : (s.setReports l).adrPins = s.adrPins := rfl
@[simp] theorem State.setReports_target (l : List Report) : (s.setReports l).target = s.target := rfl
@[simp] theorem State.setReports_rmt (l : List Report) : (s.setReports l).rmt = s.rmt := rfl
@[simp] theorem State.setReports_sld (l : List Report) : (s.setReports l).sld = s.sld := rfl
@[simp] theorem State.setReports_ctr (l : List Report) : (s.setReports l).ctr = s.ctr := rfl
@[simp] theorem State.setReports_sbl (l : List Report) : (s.setReports l).sbl = s.sbl := rfl
@[simp] theorem State.setReports_wls (l : List Report) : (s.setReports l).wls = s.wls := rfl
@[simp] theorem State.setReports_pol (l : List Report) : (s.setReports l).pol = s.pol := rfl
@[simp] theorem State.setReports_rst (l : List Report) : (s.setReports l).rst = s.rst := rfl
@[simp] theorem State.setReports_port (l : List Report) : (s.setReports l).port = s.port := rfl
@[simp] theorem State.setReports_freeCount (l : List Report) : (s.setReports l).freeCount = s.freeCount := rfl

@[simp] theorem State.clearAllHeld_pending : (s.clearAllHeld).pending = s.pending := rfl
@[simp] theorem State.clearAllHeld_powerHeld : (s.clearAllHeld).powerHeld = s.powerHeld := rfl
@[simp] theorem State.clearAllHeld_mode : (s.clearAllHeld).mode = s.mode := rfl
@[simp] theorem State.clearAllHeld_ready : (s.clearAllHeld).ready = s.ready := rfl
@[simp] theorem State.clearAllHeld_adrPins : (s.clearAllHeld).adrPins = s.adrPins := rfl
@[simp] theorem State.clearAllHeld_target : (s.clearAllHeld).target = s.target := rfl
@[simp] theorem State.clearAllHeld_rmt : (s.clearAllHeld).rmt = s.rmt := rfl
@[simp] theorem State.clearAllHeld_sld : (s.clearAllHeld).sld = s.sld := rfl
@[simp] theorem State.clearAllHeld_ctr : (s.clearAllHeld).ctr = s.ctr := rfl
@[simp] theorem State.clearAllHeld_sbl : (s.clearAllHeld).sbl = s.sbl := rfl
@[simp] theorem State.clearAllHeld_wls : (s.clearAllHeld).wls = s.wls := rfl
@[simp] theorem State.clearAllHeld_pol : (s.clearAllHeld).pol = s.pol := rfl
@[simp] theorem State.clearAllHeld_rst : (s.clearAllHeld).rst = s.rst := rfl
@[simp] theorem State.clearAllHeld_port : (s.clearAllHeld).port = s.port := rfl
@[simp] theorem State.clearAllHeld_freeCount : (s.clearAllHeld).freeCount = s.freeCount := rfl

@[simp] theorem State.setOutbound_pending (l : List OutMsg) : (s.setOutbound l).pending = s.pending := rfl
@[simp] theorem State.setOutbound_powerHeld (l : List OutMsg) : (s.setOutbound l).powerHeld = s.powerHeld := rfl
@[simp] theorem State.setOutbound_mode (l : List OutMsg) : (s.setOutbound l).mode = s.mode := rfl
@[simp] theorem State.setOutbound_ready (l : List OutMsg) : (s.setOutbound l).ready = s.ready := rfl
@[simp] theorem State.setOutbound_adrPins (l : List OutMsg) : (s.setOutbound l).adrPins = s.adrPins := rfl
@[simp] theorem State.setOutbound_target (l : List OutMsg) : (s.setOutbound l).target = s.target := rfl
@[simp] theorem State.setOutbound_rmt (l : List OutMsg) : (s.setOutbound l).rmt = s.rmt := rfl
@[simp] theorem State.setOutbound_sld (l : List OutMsg) : (s.setOutbound l).sld = s.sld := rfl
@[simp] theorem State.setOutbound_ctr (l : List OutMsg) : (s.setOutbound l).ctr = s.ctr := rfl
@[simp] theorem State.setOutbound_mge (l : List OutMsg) : (s.setOutbound l).mge = s.mge := rfl
@[simp] theorem State.setOutbound_wls (l : List OutMsg) : (s.setOutbound l).wls = s.wls := rfl
@[simp] theorem State.setOutbound_pol (l : List OutMsg) : (s.setOutbound l).pol = s.pol := rfl
@[simp] theorem State.setOutbound_rst (l : List OutMsg) : (s.setOutbound l).rst = s.rst := rfl
@[simp] theorem State.setOutbound_port (l : List OutMsg) : (s.setOutbound l).port = s.port := rfl
@[simp] theorem State.setOutbound_freeCount (l : List OutMsg) : (s.setOutbound l).freeCount = s.freeCount := rfl

@[simp] theorem State.setWaiting_pending (l : List Ctx) : (s.setWaiting l).pending = s.pending := rfl
@[simp] theorem State.setWaiting_powerHeld (l : List Ctx) : (s.setWaiting l).powerHeld = s.powerHeld := rfl
@[simp] theorem State.setWaiting_mode (l : List Ctx) : (s.setWaiting l).mode = s.mode := rfl
@[simp] theorem State.setWaiting_ready (l : List Ctx) : (s.setWaiting l).ready = s.ready := rfl
@[simp] theorem State.setWaiting_adrPins (l : List Ctx) : (s.setWaiting l).adrPins = s.adrPins := rfl
@[simp] theorem State.setWaiting_target (l : List Ctx) : (s.setWaiting l).target = s.target := rfl
@[simp] theorem State.setWaiting_rmt (l : List Ctx) : (s.setWaiting l).rmt = s.rmt := rfl
@[simp] theorem State.setWaiting_sld (l : List Ctx) : (s.setWaiting l).sld = s.sld := rfl
@[simp] theorem State.setWaiting_ctr (l : List Ctx) : (s.setWaiting l).ctr = s.ctr := rfl
@[simp] theorem State.setWaiting_mge (l : List Ctx) : (s.setWaiting l).mge = s.mge := rfl
@[simp] theorem State.setWaiting_wls (l : List Ctx) : (s.setWaiting l).wls = s.wls := rfl
@[simp] theorem State.setWaiting_pol (l : List Ctx) : (s.setWaiting l).pol = s.pol := rfl
@[simp] theorem State.setWaiting_rst (l : List Ctx) : (s.setWaiting l).rst = s.rst := rfl
@[simp] theorem State.setWaiting_port (l : List Ctx) : (s.setWaiting l).port = s.port := rfl
@[simp] theorem State.setWaiting_freeCount (l : List Ctx) : (s.setWaiting l).freeCount = s.freeCount := rfl

@[simp] theorem State.goodFrame_pending : (s.goodFrame).pending = s.pending := rfl
@[simp] theorem State.goodFrame_powerHeld : (s.goodFrame).powerHeld = s.powerHeld := rfl
@[simp] theorem State.goodFrame_mode : (s.goodFrame).mode = s.mode := rfl
@[simp] theorem State.goodFrame_ready : (s.goodFrame).ready = s.ready := rfl
@[simp] theorem State.goodFrame_adrPins : (s.goodFrame).adrPins = s.adrPins := rfl
@[simp] theorem State.goodFrame_target : (s.goodFrame).target = s.target := rfl
@[simp] theorem State.goodFrame_rmt : (s.goodFrame).rmt = s.rmt := rfl
@[simp] theorem State.goodFrame_sld : (s.goodFrame).sld = s.sld := rfl
@[simp] theorem State.goodFrame_ctr : (s.goodFrame).ctr = s.ctr := rfl
@[simp] theorem State.goodFrame_mge : (s.goodFrame).mge = s.mge := rfl
@[simp] theorem State.goodFrame_wls : (s.goodFrame).wls = s.wls := rfl
@[simp] theorem State.goodFrame_pol : (s.goodFrame).pol = s.pol := rfl
@[simp] theorem State.goodFrame_rst : (s.goodFrame).rst = s.rst := rfl
@[simp] theorem State.goodFrame_port : (s.goodFrame).port = s.port := rfl
@[simp] theorem State.goodFrame_freeCount : (s.goodFrame).freeCount = s.freeCount := rfl

@[simp] theorem State.enterGreeting_pending : (s.enterGreeting).pending = s.pending := rfl
@[simp] theorem State.enterGreeting_powerHeld : (s.enterGreeting).powerHeld = s.powerHeld := rfl
@[simp] theorem State.enterGreeting_mode : (s.enterGreeting).mode = s.mode := rfl
@[simp] theorem State.enterGreeting_ready : (s.enterGreeting).ready = s.ready := rfl
@[simp] theorem State.enterGreeting_adrPins : (s.enterGreeting).adrPins = s.adrPins := rfl
@[simp] theorem State.enterGreeting_target : (s.enterGreeting).target = s.target := rfl
@[simp] theorem State.enterGreeting_rmt : (s.enterGreeting).rmt = s.rmt := rfl
@[simp] theorem State.enterGreeting_sld : (s.enterGreeting).sld = s.sld := rfl
@[simp] theorem State.enterGreeting_ctr : (s.enterGreeting).ctr = s.ctr := rfl
@[simp] theorem State.enterGreeting_mge : (s.enterGreeting).mge = s.mge := rfl
@[simp] theorem State.enterGreeting_wls : (s.enterGreeting).wls = s.wls := rfl
@[simp] theorem State.enterGreeting_pol : (s.enterGreeting).pol = s.pol := rfl
@[simp] theorem State.enterGreeting_rst : (s.enterGreeting).rst = s.rst := rfl
@[simp] theorem State.enterGreeting_port : (s.enterGreeting).port = s.port := rfl
@[simp] theorem State.enterGreeting_freeCount : (s.enterGreeting).freeCount = s.freeCount := rfl

@[simp] theorem State.linkDown_pending : (s.linkDown).pending = s.pending := rfl
@[simp] theorem State.linkDown_powerHeld : (s.linkDown).powerHeld = s.powerHeld := rfl
@[simp] theorem State.linkDown_mode : (s.linkDown).mode = s.mode := rfl
@[simp] theorem State.linkDown_ready : (s.linkDown).ready = s.ready := rfl
@[simp] theorem State.linkDown_adrPins : (s.linkDown).adrPins = s.adrPins := rfl
@[simp] theorem State.linkDown_target : (s.linkDown).target = s.target := rfl
@[simp] theorem State.linkDown_rmt : (s.linkDown).rmt = s.rmt := rfl
@[simp] theorem State.linkDown_sld : (s.linkDown).sld = s.sld := rfl
@[simp] theorem State.linkDown_ctr : (s.linkDown).ctr = s.ctr := rfl
@[simp] theorem State.linkDown_mge : (s.linkDown).mge = s.mge := rfl
@[simp] theorem State.linkDown_wls : (s.linkDown).wls = s.wls := rfl
@[simp] theorem State.linkDown_pol : (s.linkDown).pol = s.pol := rfl
@[simp] theorem State.linkDown_rst : (s.linkDown).rst = s.rst := rfl
@[simp] theorem State.linkDown_port : (s.linkDown).port = s.port := rfl
@[simp] theorem State.linkDown_freeCount : (s.linkDown).freeCount = s.freeCount := rfl

@[simp] theorem State.onlyHelloAck_pending : (s.onlyHelloAck).pending = s.pending := rfl
@[simp] theorem State.onlyHelloAck_powerHeld : (s.onlyHelloAck).powerHeld = s.powerHeld := rfl
@[simp] theorem State.onlyHelloAck_mode : (s.onlyHelloAck).mode = s.mode := rfl
@[simp] theorem State.onlyHelloAck_ready : (s.onlyHelloAck).ready = s.ready := rfl
@[simp] theorem State.onlyHelloAck_adrPins : (s.onlyHelloAck).adrPins = s.adrPins := rfl
@[simp] theorem State.onlyHelloAck_target : (s.onlyHelloAck).target = s.target := rfl
@[simp] theorem State.onlyHelloAck_rmt : (s.onlyHelloAck).rmt = s.rmt := rfl
@[simp] theorem State.onlyHelloAck_sld : (s.onlyHelloAck).sld = s.sld := rfl
@[simp] theorem State.onlyHelloAck_ctr : (s.onlyHelloAck).ctr = s.ctr := rfl
@[simp] theorem State.onlyHelloAck_mge : (s.onlyHelloAck).mge = s.mge := rfl
@[simp] theorem State.onlyHelloAck_wls : (s.onlyHelloAck).wls = s.wls := rfl
@[simp] theorem State.onlyHelloAck_pol : (s.onlyHelloAck).pol = s.pol := rfl
@[simp] theorem State.onlyHelloAck_rst : (s.onlyHelloAck).rst = s.rst := rfl
@[simp] theorem State.onlyHelloAck_port : (s.onlyHelloAck).port = s.port := rfl
@[simp] theorem State.onlyHelloAck_freeCount : (s.onlyHelloAck).freeCount = s.freeCount := rfl

@[simp] theorem State.setItems_pending (l : List WatchItem) : (s.setItems l).pending = s.pending := rfl
@[simp] theorem State.setItems_powerHeld (l : List WatchItem) : (s.setItems l).powerHeld = s.powerHeld := rfl
@[simp] theorem State.setItems_mode (l : List WatchItem) : (s.setItems l).mode = s.mode := rfl
@[simp] theorem State.setItems_ready (l : List WatchItem) : (s.setItems l).ready = s.ready := rfl
@[simp] theorem State.setItems_adrPins (l : List WatchItem) : (s.setItems l).adrPins = s.adrPins := rfl
@[simp] theorem State.setItems_target (l : List WatchItem) : (s.setItems l).target = s.target := rfl
@[simp] theorem State.setItems_rmt (l : List WatchItem) : (s.setItems l).rmt = s.rmt := rfl
@[simp] theorem State.setItems_sld (l : List WatchItem) : (s.setItems l).sld = s.sld := rfl
@[simp] theorem State.setItems_ctr (l : List WatchItem) : (s.setItems l).ctr = s.ctr := rfl
@[simp] theorem State.setItems_mge (l : List WatchItem) : (s.setItems l).mge = s.mge := rfl
@[simp] theorem State.setItems_sbl (l : List WatchItem) : (s.setItems l).sbl = s.sbl := rfl
@[simp] theorem State.setItems_pol (l : List WatchItem) : (s.setItems l).pol = s.pol := rfl
@[simp] theorem State.setItems_rst (l : List WatchItem) : (s.setItems l).rst = s.rst := rfl
@[simp] theorem State.setItems_port (l : List WatchItem) : (s.setItems l).port = s.port := rfl
@[simp] theorem State.setItems_freeCount (l : List WatchItem) : (s.setItems l).freeCount = s.freeCount := rfl

@[simp] theorem State.removeItem_pending (k : Key) : (s.removeItem k).pending = s.pending := rfl
@[simp] theorem State.removeItem_powerHeld (k : Key) : (s.removeItem k).powerHeld = s.powerHeld := rfl
@[simp] theorem State.removeItem_mode (k : Key) : (s.removeItem k).mode = s.mode := rfl
@[simp] theorem State.removeItem_ready (k : Key) : (s.removeItem k).ready = s.ready := rfl
@[simp] theorem State.removeItem_adrPins (k : Key) : (s.removeItem k).adrPins = s.adrPins := rfl
@[simp] theorem State.removeItem_target (k : Key) : (s.removeItem k).target = s.target := rfl
@[simp] theorem State.removeItem_rmt (k : Key) : (s.removeItem k).rmt = s.rmt := rfl
@[simp] theorem State.removeItem_sld (k : Key) : (s.removeItem k).sld = s.sld := rfl
@[simp] theorem State.removeItem_ctr (k : Key) : (s.removeItem k).ctr = s.ctr := rfl
@[simp] theorem State.removeItem_mge (k : Key) : (s.removeItem k).mge = s.mge := rfl
@[simp] theorem State.removeItem_sbl (k : Key) : (s.removeItem k).sbl = s.sbl := rfl
@[simp] theorem State.removeItem_pol (k : Key) : (s.removeItem k).pol = s.pol := rfl
@[simp] theorem State.removeItem_rst (k : Key) : (s.removeItem k).rst = s.rst := rfl
@[simp] theorem State.removeItem_port (k : Key) : (s.removeItem k).port = s.port := rfl
@[simp] theorem State.removeItem_freeCount (k : Key) : (s.removeItem k).freeCount = s.freeCount := rfl

@[simp] theorem State.setInRepair_pending (k : Key) (c : Option Ctx) : (s.setInRepair k c).pending = s.pending := rfl
@[simp] theorem State.setInRepair_powerHeld (k : Key) (c : Option Ctx) : (s.setInRepair k c).powerHeld = s.powerHeld := rfl
@[simp] theorem State.setInRepair_mode (k : Key) (c : Option Ctx) : (s.setInRepair k c).mode = s.mode := rfl
@[simp] theorem State.setInRepair_ready (k : Key) (c : Option Ctx) : (s.setInRepair k c).ready = s.ready := rfl
@[simp] theorem State.setInRepair_adrPins (k : Key) (c : Option Ctx) : (s.setInRepair k c).adrPins = s.adrPins := rfl
@[simp] theorem State.setInRepair_target (k : Key) (c : Option Ctx) : (s.setInRepair k c).target = s.target := rfl
@[simp] theorem State.setInRepair_rmt (k : Key) (c : Option Ctx) : (s.setInRepair k c).rmt = s.rmt := rfl
@[simp] theorem State.setInRepair_sld (k : Key) (c : Option Ctx) : (s.setInRepair k c).sld = s.sld := rfl
@[simp] theorem State.setInRepair_ctr (k : Key) (c : Option Ctx) : (s.setInRepair k c).ctr = s.ctr := rfl
@[simp] theorem State.setInRepair_mge (k : Key) (c : Option Ctx) : (s.setInRepair k c).mge = s.mge := rfl
@[simp] theorem State.setInRepair_sbl (k : Key) (c : Option Ctx) : (s.setInRepair k c).sbl = s.sbl := rfl
@[simp] theorem State.setInRepair_pol (k : Key) (c : Option Ctx) : (s.setInRepair k c).pol = s.pol := rfl
@[simp] theorem State.setInRepair_rst (k : Key) (c : Option Ctx) : (s.setInRepair k c).rst = s.rst := rfl
@[simp] theorem State.setInRepair_port (k : Key) (c : Option Ctx) : (s.setInRepair k c).port = s.port := rfl
@[simp] theorem State.setInRepair_freeCount (k : Key) (c : Option Ctx) : (s.setInRepair k c).freeCount = s.freeCount := rfl

@[simp] theorem State.setLastFailure_pending (k : Key) (f : Option FailureKind) : (s.setLastFailure k f).pending = s.pending := rfl
@[simp] theorem State.setLastFailure_powerHeld (k : Key) (f : Option FailureKind) : (s.setLastFailure k f).powerHeld = s.powerHeld := rfl
@[simp] theorem State.setLastFailure_mode (k : Key) (f : Option FailureKind) : (s.setLastFailure k f).mode = s.mode := rfl
@[simp] theorem State.setLastFailure_ready (k : Key) (f : Option FailureKind) : (s.setLastFailure k f).ready = s.ready := rfl
@[simp] theorem State.setLastFailure_adrPins (k : Key) (f : Option FailureKind) : (s.setLastFailure k f).adrPins = s.adrPins := rfl
@[simp] theorem State.setLastFailure_target (k : Key) (f : Option FailureKind) : (s.setLastFailure k f).target = s.target := rfl
@[simp] theorem State.setLastFailure_rmt (k : Key) (f : Option FailureKind) : (s.setLastFailure k f).rmt = s.rmt := rfl
@[simp] theorem State.setLastFailure_sld (k : Key) (f : Option FailureKind) : (s.setLastFailure k f).sld = s.sld := rfl
@[simp] theorem State.setLastFailure_ctr (k : Key) (f : Option FailureKind) : (s.setLastFailure k f).ctr = s.ctr := rfl
@[simp] theorem State.setLastFailure_mge (k : Key) (f : Option FailureKind) : (s.setLastFailure k f).mge = s.mge := rfl
@[simp] theorem State.setLastFailure_sbl (k : Key) (f : Option FailureKind) : (s.setLastFailure k f).sbl = s.sbl := rfl
@[simp] theorem State.setLastFailure_pol (k : Key) (f : Option FailureKind) : (s.setLastFailure k f).pol = s.pol := rfl
@[simp] theorem State.setLastFailure_rst (k : Key) (f : Option FailureKind) : (s.setLastFailure k f).rst = s.rst := rfl
@[simp] theorem State.setLastFailure_port (k : Key) (f : Option FailureKind) : (s.setLastFailure k f).port = s.port := rfl
@[simp] theorem State.setLastFailure_freeCount (k : Key) (f : Option FailureKind) : (s.setLastFailure k f).freeCount = s.freeCount := rfl

@[simp] theorem State.removeSlotItems_pending (o : Origin) : (s.removeSlotItems o).pending = s.pending := rfl
@[simp] theorem State.removeSlotItems_powerHeld (o : Origin) : (s.removeSlotItems o).powerHeld = s.powerHeld := rfl
@[simp] theorem State.removeSlotItems_mode (o : Origin) : (s.removeSlotItems o).mode = s.mode := rfl
@[simp] theorem State.removeSlotItems_ready (o : Origin) : (s.removeSlotItems o).ready = s.ready := rfl
@[simp] theorem State.removeSlotItems_adrPins (o : Origin) : (s.removeSlotItems o).adrPins = s.adrPins := rfl
@[simp] theorem State.removeSlotItems_target (o : Origin) : (s.removeSlotItems o).target = s.target := rfl
@[simp] theorem State.removeSlotItems_rmt (o : Origin) : (s.removeSlotItems o).rmt = s.rmt := rfl
@[simp] theorem State.removeSlotItems_sld (o : Origin) : (s.removeSlotItems o).sld = s.sld := rfl
@[simp] theorem State.removeSlotItems_ctr (o : Origin) : (s.removeSlotItems o).ctr = s.ctr := rfl
@[simp] theorem State.removeSlotItems_mge (o : Origin) : (s.removeSlotItems o).mge = s.mge := rfl
@[simp] theorem State.removeSlotItems_sbl (o : Origin) : (s.removeSlotItems o).sbl = s.sbl := rfl
@[simp] theorem State.removeSlotItems_pol (o : Origin) : (s.removeSlotItems o).pol = s.pol := rfl
@[simp] theorem State.removeSlotItems_rst (o : Origin) : (s.removeSlotItems o).rst = s.rst := rfl
@[simp] theorem State.removeSlotItems_port (o : Origin) : (s.removeSlotItems o).port = s.port := rfl
@[simp] theorem State.removeSlotItems_freeCount (o : Origin) : (s.removeSlotItems o).freeCount = s.freeCount := rfl

@[simp] theorem State.createItem_pending (k : Key) (cls : NoteClass) (w : Nat) (run : Option Ctx) : (s.createItem k cls w run).pending = s.pending := rfl
@[simp] theorem State.createItem_powerHeld (k : Key) (cls : NoteClass) (w : Nat) (run : Option Ctx) : (s.createItem k cls w run).powerHeld = s.powerHeld := rfl
@[simp] theorem State.createItem_mode (k : Key) (cls : NoteClass) (w : Nat) (run : Option Ctx) : (s.createItem k cls w run).mode = s.mode := rfl
@[simp] theorem State.createItem_ready (k : Key) (cls : NoteClass) (w : Nat) (run : Option Ctx) : (s.createItem k cls w run).ready = s.ready := rfl
@[simp] theorem State.createItem_adrPins (k : Key) (cls : NoteClass) (w : Nat) (run : Option Ctx) : (s.createItem k cls w run).adrPins = s.adrPins := rfl
@[simp] theorem State.createItem_target (k : Key) (cls : NoteClass) (w : Nat) (run : Option Ctx) : (s.createItem k cls w run).target = s.target := rfl
@[simp] theorem State.createItem_rmt (k : Key) (cls : NoteClass) (w : Nat) (run : Option Ctx) : (s.createItem k cls w run).rmt = s.rmt := rfl
@[simp] theorem State.createItem_sld (k : Key) (cls : NoteClass) (w : Nat) (run : Option Ctx) : (s.createItem k cls w run).sld = s.sld := rfl
@[simp] theorem State.createItem_ctr (k : Key) (cls : NoteClass) (w : Nat) (run : Option Ctx) : (s.createItem k cls w run).ctr = s.ctr := rfl
@[simp] theorem State.createItem_mge (k : Key) (cls : NoteClass) (w : Nat) (run : Option Ctx) : (s.createItem k cls w run).mge = s.mge := rfl
@[simp] theorem State.createItem_sbl (k : Key) (cls : NoteClass) (w : Nat) (run : Option Ctx) : (s.createItem k cls w run).sbl = s.sbl := rfl
@[simp] theorem State.createItem_pol (k : Key) (cls : NoteClass) (w : Nat) (run : Option Ctx) : (s.createItem k cls w run).pol = s.pol := rfl
@[simp] theorem State.createItem_rst (k : Key) (cls : NoteClass) (w : Nat) (run : Option Ctx) : (s.createItem k cls w run).rst = s.rst := rfl
@[simp] theorem State.createItem_port (k : Key) (cls : NoteClass) (w : Nat) (run : Option Ctx) : (s.createItem k cls w run).port = s.port := rfl
@[simp] theorem State.createItem_freeCount (k : Key) (cls : NoteClass) (w : Nat) (run : Option Ctx) : (s.createItem k cls w run).freeCount = s.freeCount := rfl

@[simp] theorem State.startDecay_pending : (s.startDecay).pending = s.pending := rfl
@[simp] theorem State.startDecay_powerHeld : (s.startDecay).powerHeld = s.powerHeld := rfl
@[simp] theorem State.startDecay_mode : (s.startDecay).mode = s.mode := rfl
@[simp] theorem State.startDecay_ready : (s.startDecay).ready = s.ready := rfl
@[simp] theorem State.startDecay_adrPins : (s.startDecay).adrPins = s.adrPins := rfl
@[simp] theorem State.startDecay_target : (s.startDecay).target = s.target := rfl
@[simp] theorem State.startDecay_rmt : (s.startDecay).rmt = s.rmt := rfl
@[simp] theorem State.startDecay_sld : (s.startDecay).sld = s.sld := rfl
@[simp] theorem State.startDecay_ctr : (s.startDecay).ctr = s.ctr := rfl
@[simp] theorem State.startDecay_mge : (s.startDecay).mge = s.mge := rfl
@[simp] theorem State.startDecay_sbl : (s.startDecay).sbl = s.sbl := rfl
@[simp] theorem State.startDecay_pol : (s.startDecay).pol = s.pol := rfl
@[simp] theorem State.startDecay_rst : (s.startDecay).rst = s.rst := rfl
@[simp] theorem State.startDecay_port : (s.startDecay).port = s.port := rfl
@[simp] theorem State.startDecay_freeCount : (s.startDecay).freeCount = s.freeCount := rfl

@[simp] theorem State.decayItems_pending : (s.decayItems).pending = s.pending := rfl
@[simp] theorem State.decayItems_powerHeld : (s.decayItems).powerHeld = s.powerHeld := rfl
@[simp] theorem State.decayItems_mode : (s.decayItems).mode = s.mode := rfl
@[simp] theorem State.decayItems_ready : (s.decayItems).ready = s.ready := rfl
@[simp] theorem State.decayItems_adrPins : (s.decayItems).adrPins = s.adrPins := rfl
@[simp] theorem State.decayItems_target : (s.decayItems).target = s.target := rfl
@[simp] theorem State.decayItems_rmt : (s.decayItems).rmt = s.rmt := rfl
@[simp] theorem State.decayItems_sld : (s.decayItems).sld = s.sld := rfl
@[simp] theorem State.decayItems_ctr : (s.decayItems).ctr = s.ctr := rfl
@[simp] theorem State.decayItems_mge : (s.decayItems).mge = s.mge := rfl
@[simp] theorem State.decayItems_sbl : (s.decayItems).sbl = s.sbl := rfl
@[simp] theorem State.decayItems_pol : (s.decayItems).pol = s.pol := rfl
@[simp] theorem State.decayItems_rst : (s.decayItems).rst = s.rst := rfl
@[simp] theorem State.decayItems_port : (s.decayItems).port = s.port := rfl
@[simp] theorem State.decayItems_freeCount : (s.decayItems).freeCount = s.freeCount := rfl

@[simp] theorem State.startPass_pending : (s.startPass).pending = s.pending := rfl
@[simp] theorem State.startPass_powerHeld : (s.startPass).powerHeld = s.powerHeld := rfl
@[simp] theorem State.startPass_mode : (s.startPass).mode = s.mode := rfl
@[simp] theorem State.startPass_ready : (s.startPass).ready = s.ready := rfl
@[simp] theorem State.startPass_adrPins : (s.startPass).adrPins = s.adrPins := rfl
@[simp] theorem State.startPass_target : (s.startPass).target = s.target := rfl
@[simp] theorem State.startPass_rmt : (s.startPass).rmt = s.rmt := rfl
@[simp] theorem State.startPass_sld : (s.startPass).sld = s.sld := rfl
@[simp] theorem State.startPass_ctr : (s.startPass).ctr = s.ctr := rfl
@[simp] theorem State.startPass_mge : (s.startPass).mge = s.mge := rfl
@[simp] theorem State.startPass_sbl : (s.startPass).sbl = s.sbl := rfl
@[simp] theorem State.startPass_wls : (s.startPass).wls = s.wls := rfl
@[simp] theorem State.startPass_rst : (s.startPass).rst = s.rst := rfl
@[simp] theorem State.startPass_port : (s.startPass).port = s.port := rfl
@[simp] theorem State.startPass_freeCount : (s.startPass).freeCount = s.freeCount := rfl

@[simp] theorem State.setEditProfile_pending (x : Profile) : (s.setEditProfile x).pending = s.pending := rfl
@[simp] theorem State.setEditProfile_powerHeld (x : Profile) : (s.setEditProfile x).powerHeld = s.powerHeld := rfl
@[simp] theorem State.setEditProfile_mode (x : Profile) : (s.setEditProfile x).mode = s.mode := rfl
@[simp] theorem State.setEditProfile_ready (x : Profile) : (s.setEditProfile x).ready = s.ready := rfl
@[simp] theorem State.setEditProfile_adrPins (x : Profile) : (s.setEditProfile x).adrPins = s.adrPins := rfl
@[simp] theorem State.setEditProfile_target (x : Profile) : (s.setEditProfile x).target = s.target := rfl
@[simp] theorem State.setEditProfile_rmt (x : Profile) : (s.setEditProfile x).rmt = s.rmt := rfl
@[simp] theorem State.setEditProfile_sld (x : Profile) : (s.setEditProfile x).sld = s.sld := rfl
@[simp] theorem State.setEditProfile_ctr (x : Profile) : (s.setEditProfile x).ctr = s.ctr := rfl
@[simp] theorem State.setEditProfile_mge (x : Profile) : (s.setEditProfile x).mge = s.mge := rfl
@[simp] theorem State.setEditProfile_sbl (x : Profile) : (s.setEditProfile x).sbl = s.sbl := rfl
@[simp] theorem State.setEditProfile_wls (x : Profile) : (s.setEditProfile x).wls = s.wls := rfl
@[simp] theorem State.setEditProfile_rst (x : Profile) : (s.setEditProfile x).rst = s.rst := rfl
@[simp] theorem State.setEditProfile_port (x : Profile) : (s.setEditProfile x).port = s.port := rfl
@[simp] theorem State.setEditProfile_freeCount (x : Profile) : (s.setEditProfile x).freeCount = s.freeCount := rfl

@[simp] theorem State.setCells_pending (k : RecIx) (x : RecordCells) : (s.setCells k x).pending = s.pending := rfl
@[simp] theorem State.setCells_powerHeld (k : RecIx) (x : RecordCells) : (s.setCells k x).powerHeld = s.powerHeld := rfl
@[simp] theorem State.setCells_mode (k : RecIx) (x : RecordCells) : (s.setCells k x).mode = s.mode := rfl
@[simp] theorem State.setCells_ready (k : RecIx) (x : RecordCells) : (s.setCells k x).ready = s.ready := rfl
@[simp] theorem State.setCells_adrPins (k : RecIx) (x : RecordCells) : (s.setCells k x).adrPins = s.adrPins := rfl
@[simp] theorem State.setCells_target (k : RecIx) (x : RecordCells) : (s.setCells k x).target = s.target := rfl
@[simp] theorem State.setCells_rmt (k : RecIx) (x : RecordCells) : (s.setCells k x).rmt = s.rmt := rfl
@[simp] theorem State.setCells_sld (k : RecIx) (x : RecordCells) : (s.setCells k x).sld = s.sld := rfl
@[simp] theorem State.setCells_ctr (k : RecIx) (x : RecordCells) : (s.setCells k x).ctr = s.ctr := rfl
@[simp] theorem State.setCells_mge (k : RecIx) (x : RecordCells) : (s.setCells k x).mge = s.mge := rfl
@[simp] theorem State.setCells_sbl (k : RecIx) (x : RecordCells) : (s.setCells k x).sbl = s.sbl := rfl
@[simp] theorem State.setCells_wls (k : RecIx) (x : RecordCells) : (s.setCells k x).wls = s.wls := rfl
@[simp] theorem State.setCells_pol (k : RecIx) (x : RecordCells) : (s.setCells k x).pol = s.pol := rfl
@[simp] theorem State.setCells_port (k : RecIx) (x : RecordCells) : (s.setCells k x).port = s.port := rfl
@[simp] theorem State.setCells_freeCount (k : RecIx) (x : RecordCells) : (s.setCells k x).freeCount = s.freeCount := rfl

@[simp] theorem State.setGeometryCells_pending (x : GeometryCells) : (s.setGeometryCells x).pending = s.pending := rfl
@[simp] theorem State.setGeometryCells_powerHeld (x : GeometryCells) : (s.setGeometryCells x).powerHeld = s.powerHeld := rfl
@[simp] theorem State.setGeometryCells_mode (x : GeometryCells) : (s.setGeometryCells x).mode = s.mode := rfl
@[simp] theorem State.setGeometryCells_ready (x : GeometryCells) : (s.setGeometryCells x).ready = s.ready := rfl
@[simp] theorem State.setGeometryCells_adrPins (x : GeometryCells) : (s.setGeometryCells x).adrPins = s.adrPins := rfl
@[simp] theorem State.setGeometryCells_target (x : GeometryCells) : (s.setGeometryCells x).target = s.target := rfl
@[simp] theorem State.setGeometryCells_rmt (x : GeometryCells) : (s.setGeometryCells x).rmt = s.rmt := rfl
@[simp] theorem State.setGeometryCells_sld (x : GeometryCells) : (s.setGeometryCells x).sld = s.sld := rfl
@[simp] theorem State.setGeometryCells_ctr (x : GeometryCells) : (s.setGeometryCells x).ctr = s.ctr := rfl
@[simp] theorem State.setGeometryCells_mge (x : GeometryCells) : (s.setGeometryCells x).mge = s.mge := rfl
@[simp] theorem State.setGeometryCells_sbl (x : GeometryCells) : (s.setGeometryCells x).sbl = s.sbl := rfl
@[simp] theorem State.setGeometryCells_wls (x : GeometryCells) : (s.setGeometryCells x).wls = s.wls := rfl
@[simp] theorem State.setGeometryCells_pol (x : GeometryCells) : (s.setGeometryCells x).pol = s.pol := rfl
@[simp] theorem State.setGeometryCells_port (x : GeometryCells) : (s.setGeometryCells x).port = s.port := rfl
@[simp] theorem State.setGeometryCells_freeCount (x : GeometryCells) : (s.setGeometryCells x).freeCount = s.freeCount := rfl

@[simp] theorem State.setLoadResult_pending (k : RecIx) (x : Option LoadResult) : (s.setLoadResult k x).pending = s.pending := rfl
@[simp] theorem State.setLoadResult_powerHeld (k : RecIx) (x : Option LoadResult) : (s.setLoadResult k x).powerHeld = s.powerHeld := rfl
@[simp] theorem State.setLoadResult_mode (k : RecIx) (x : Option LoadResult) : (s.setLoadResult k x).mode = s.mode := rfl
@[simp] theorem State.setLoadResult_ready (k : RecIx) (x : Option LoadResult) : (s.setLoadResult k x).ready = s.ready := rfl
@[simp] theorem State.setLoadResult_adrPins (k : RecIx) (x : Option LoadResult) : (s.setLoadResult k x).adrPins = s.adrPins := rfl
@[simp] theorem State.setLoadResult_target (k : RecIx) (x : Option LoadResult) : (s.setLoadResult k x).target = s.target := rfl
@[simp] theorem State.setLoadResult_rmt (k : RecIx) (x : Option LoadResult) : (s.setLoadResult k x).rmt = s.rmt := rfl
@[simp] theorem State.setLoadResult_sld (k : RecIx) (x : Option LoadResult) : (s.setLoadResult k x).sld = s.sld := rfl
@[simp] theorem State.setLoadResult_ctr (k : RecIx) (x : Option LoadResult) : (s.setLoadResult k x).ctr = s.ctr := rfl
@[simp] theorem State.setLoadResult_mge (k : RecIx) (x : Option LoadResult) : (s.setLoadResult k x).mge = s.mge := rfl
@[simp] theorem State.setLoadResult_sbl (k : RecIx) (x : Option LoadResult) : (s.setLoadResult k x).sbl = s.sbl := rfl
@[simp] theorem State.setLoadResult_wls (k : RecIx) (x : Option LoadResult) : (s.setLoadResult k x).wls = s.wls := rfl
@[simp] theorem State.setLoadResult_pol (k : RecIx) (x : Option LoadResult) : (s.setLoadResult k x).pol = s.pol := rfl
@[simp] theorem State.setLoadResult_port (k : RecIx) (x : Option LoadResult) : (s.setLoadResult k x).port = s.port := rfl
@[simp] theorem State.setLoadResult_freeCount (k : RecIx) (x : Option LoadResult) : (s.setLoadResult k x).freeCount = s.freeCount := rfl

@[simp] theorem State.setStage_pending (x : Stage) : (s.setStage x).pending = s.pending := rfl
@[simp] theorem State.setStage_powerHeld (x : Stage) : (s.setStage x).powerHeld = s.powerHeld := rfl
@[simp] theorem State.setStage_mode (x : Stage) : (s.setStage x).mode = s.mode := rfl
@[simp] theorem State.setStage_ready (x : Stage) : (s.setStage x).ready = s.ready := rfl
@[simp] theorem State.setStage_adrPins (x : Stage) : (s.setStage x).adrPins = s.adrPins := rfl
@[simp] theorem State.setStage_target (x : Stage) : (s.setStage x).target = s.target := rfl
@[simp] theorem State.setStage_rmt (x : Stage) : (s.setStage x).rmt = s.rmt := rfl
@[simp] theorem State.setStage_sld (x : Stage) : (s.setStage x).sld = s.sld := rfl
@[simp] theorem State.setStage_ctr (x : Stage) : (s.setStage x).ctr = s.ctr := rfl
@[simp] theorem State.setStage_mge (x : Stage) : (s.setStage x).mge = s.mge := rfl
@[simp] theorem State.setStage_sbl (x : Stage) : (s.setStage x).sbl = s.sbl := rfl
@[simp] theorem State.setStage_wls (x : Stage) : (s.setStage x).wls = s.wls := rfl
@[simp] theorem State.setStage_pol (x : Stage) : (s.setStage x).pol = s.pol := rfl
@[simp] theorem State.setStage_port (x : Stage) : (s.setStage x).port = s.port := rfl
@[simp] theorem State.setStage_freeCount (x : Stage) : (s.setStage x).freeCount = s.freeCount := rfl

@[simp] theorem State.setLock_pending : (s.setLock).pending = s.pending := rfl
@[simp] theorem State.setLock_powerHeld : (s.setLock).powerHeld = s.powerHeld := rfl
@[simp] theorem State.setLock_mode : (s.setLock).mode = s.mode := rfl
@[simp] theorem State.setLock_ready : (s.setLock).ready = s.ready := rfl
@[simp] theorem State.setLock_adrPins : (s.setLock).adrPins = s.adrPins := rfl
@[simp] theorem State.setLock_target : (s.setLock).target = s.target := rfl
@[simp] theorem State.setLock_rmt : (s.setLock).rmt = s.rmt := rfl
@[simp] theorem State.setLock_sld : (s.setLock).sld = s.sld := rfl
@[simp] theorem State.setLock_ctr : (s.setLock).ctr = s.ctr := rfl
@[simp] theorem State.setLock_mge : (s.setLock).mge = s.mge := rfl
@[simp] theorem State.setLock_sbl : (s.setLock).sbl = s.sbl := rfl
@[simp] theorem State.setLock_wls : (s.setLock).wls = s.wls := rfl
@[simp] theorem State.setLock_pol : (s.setLock).pol = s.pol := rfl
@[simp] theorem State.setLock_port : (s.setLock).port = s.port := rfl
@[simp] theorem State.setLock_freeCount : (s.setLock).freeCount = s.freeCount := rfl

@[simp] theorem State.raise_pending (k : Condition) : (s.raise k).pending = s.pending := rfl
@[simp] theorem State.raise_powerHeld (k : Condition) : (s.raise k).powerHeld = s.powerHeld := rfl
@[simp] theorem State.raise_mode (k : Condition) : (s.raise k).mode = s.mode := rfl
@[simp] theorem State.raise_ready (k : Condition) : (s.raise k).ready = s.ready := rfl
@[simp] theorem State.raise_adrPins (k : Condition) : (s.raise k).adrPins = s.adrPins := rfl
@[simp] theorem State.raise_target (k : Condition) : (s.raise k).target = s.target := rfl
@[simp] theorem State.raise_rmt (k : Condition) : (s.raise k).rmt = s.rmt := rfl
@[simp] theorem State.raise_sld (k : Condition) : (s.raise k).sld = s.sld := rfl
@[simp] theorem State.raise_ctr (k : Condition) : (s.raise k).ctr = s.ctr := rfl
@[simp] theorem State.raise_mge (k : Condition) : (s.raise k).mge = s.mge := rfl
@[simp] theorem State.raise_sbl (k : Condition) : (s.raise k).sbl = s.sbl := rfl
@[simp] theorem State.raise_wls (k : Condition) : (s.raise k).wls = s.wls := rfl
@[simp] theorem State.raise_pol (k : Condition) : (s.raise k).pol = s.pol := rfl
@[simp] theorem State.raise_rst (k : Condition) : (s.raise k).rst = s.rst := rfl
@[simp] theorem State.raise_freeCount (k : Condition) : (s.raise k).freeCount = s.freeCount := rfl

@[simp] theorem State.clearConditions_pending (x : BitVec 16) : (s.clearConditions x).pending = s.pending := rfl
@[simp] theorem State.clearConditions_powerHeld (x : BitVec 16) : (s.clearConditions x).powerHeld = s.powerHeld := rfl
@[simp] theorem State.clearConditions_mode (x : BitVec 16) : (s.clearConditions x).mode = s.mode := rfl
@[simp] theorem State.clearConditions_ready (x : BitVec 16) : (s.clearConditions x).ready = s.ready := rfl
@[simp] theorem State.clearConditions_adrPins (x : BitVec 16) : (s.clearConditions x).adrPins = s.adrPins := rfl
@[simp] theorem State.clearConditions_target (x : BitVec 16) : (s.clearConditions x).target = s.target := rfl
@[simp] theorem State.clearConditions_rmt (x : BitVec 16) : (s.clearConditions x).rmt = s.rmt := rfl
@[simp] theorem State.clearConditions_sld (x : BitVec 16) : (s.clearConditions x).sld = s.sld := rfl
@[simp] theorem State.clearConditions_ctr (x : BitVec 16) : (s.clearConditions x).ctr = s.ctr := rfl
@[simp] theorem State.clearConditions_mge (x : BitVec 16) : (s.clearConditions x).mge = s.mge := rfl
@[simp] theorem State.clearConditions_sbl (x : BitVec 16) : (s.clearConditions x).sbl = s.sbl := rfl
@[simp] theorem State.clearConditions_wls (x : BitVec 16) : (s.clearConditions x).wls = s.wls := rfl
@[simp] theorem State.clearConditions_pol (x : BitVec 16) : (s.clearConditions x).pol = s.pol := rfl
@[simp] theorem State.clearConditions_rst (x : BitVec 16) : (s.clearConditions x).rst = s.rst := rfl
@[simp] theorem State.clearConditions_freeCount (x : BitVec 16) : (s.clearConditions x).freeCount = s.freeCount := rfl

@[simp] theorem State.setAlertMask_pending (x : BitVec 16) : (s.setAlertMask x).pending = s.pending := rfl
@[simp] theorem State.setAlertMask_powerHeld (x : BitVec 16) : (s.setAlertMask x).powerHeld = s.powerHeld := rfl
@[simp] theorem State.setAlertMask_mode (x : BitVec 16) : (s.setAlertMask x).mode = s.mode := rfl
@[simp] theorem State.setAlertMask_ready (x : BitVec 16) : (s.setAlertMask x).ready = s.ready := rfl
@[simp] theorem State.setAlertMask_adrPins (x : BitVec 16) : (s.setAlertMask x).adrPins = s.adrPins := rfl
@[simp] theorem State.setAlertMask_target (x : BitVec 16) : (s.setAlertMask x).target = s.target := rfl
@[simp] theorem State.setAlertMask_rmt (x : BitVec 16) : (s.setAlertMask x).rmt = s.rmt := rfl
@[simp] theorem State.setAlertMask_sld (x : BitVec 16) : (s.setAlertMask x).sld = s.sld := rfl
@[simp] theorem State.setAlertMask_ctr (x : BitVec 16) : (s.setAlertMask x).ctr = s.ctr := rfl
@[simp] theorem State.setAlertMask_mge (x : BitVec 16) : (s.setAlertMask x).mge = s.mge := rfl
@[simp] theorem State.setAlertMask_sbl (x : BitVec 16) : (s.setAlertMask x).sbl = s.sbl := rfl
@[simp] theorem State.setAlertMask_wls (x : BitVec 16) : (s.setAlertMask x).wls = s.wls := rfl
@[simp] theorem State.setAlertMask_pol (x : BitVec 16) : (s.setAlertMask x).pol = s.pol := rfl
@[simp] theorem State.setAlertMask_rst (x : BitVec 16) : (s.setAlertMask x).rst = s.rst := rfl
@[simp] theorem State.setAlertMask_freeCount (x : BitVec 16) : (s.setAlertMask x).freeCount = s.freeCount := rfl

@[simp] theorem State.setResponse_pending (x : Response) : (s.setResponse x).pending = s.pending := rfl
@[simp] theorem State.setResponse_powerHeld (x : Response) : (s.setResponse x).powerHeld = s.powerHeld := rfl
@[simp] theorem State.setResponse_mode (x : Response) : (s.setResponse x).mode = s.mode := rfl
@[simp] theorem State.setResponse_ready (x : Response) : (s.setResponse x).ready = s.ready := rfl
@[simp] theorem State.setResponse_adrPins (x : Response) : (s.setResponse x).adrPins = s.adrPins := rfl
@[simp] theorem State.setResponse_target (x : Response) : (s.setResponse x).target = s.target := rfl
@[simp] theorem State.setResponse_rmt (x : Response) : (s.setResponse x).rmt = s.rmt := rfl
@[simp] theorem State.setResponse_sld (x : Response) : (s.setResponse x).sld = s.sld := rfl
@[simp] theorem State.setResponse_ctr (x : Response) : (s.setResponse x).ctr = s.ctr := rfl
@[simp] theorem State.setResponse_mge (x : Response) : (s.setResponse x).mge = s.mge := rfl
@[simp] theorem State.setResponse_sbl (x : Response) : (s.setResponse x).sbl = s.sbl := rfl
@[simp] theorem State.setResponse_wls (x : Response) : (s.setResponse x).wls = s.wls := rfl
@[simp] theorem State.setResponse_pol (x : Response) : (s.setResponse x).pol = s.pol := rfl
@[simp] theorem State.setResponse_rst (x : Response) : (s.setResponse x).rst = s.rst := rfl
@[simp] theorem State.setResponse_freeCount (x : Response) : (s.setResponse x).freeCount = s.freeCount := rfl

@[simp] theorem State.setInHand_pending (x : Option InHand) : (s.setInHand x).pending = s.pending := rfl
@[simp] theorem State.setInHand_powerHeld (x : Option InHand) : (s.setInHand x).powerHeld = s.powerHeld := rfl
@[simp] theorem State.setInHand_mode (x : Option InHand) : (s.setInHand x).mode = s.mode := rfl
@[simp] theorem State.setInHand_ready (x : Option InHand) : (s.setInHand x).ready = s.ready := rfl
@[simp] theorem State.setInHand_adrPins (x : Option InHand) : (s.setInHand x).adrPins = s.adrPins := rfl
@[simp] theorem State.setInHand_target (x : Option InHand) : (s.setInHand x).target = s.target := rfl
@[simp] theorem State.setInHand_rmt (x : Option InHand) : (s.setInHand x).rmt = s.rmt := rfl
@[simp] theorem State.setInHand_sld (x : Option InHand) : (s.setInHand x).sld = s.sld := rfl
@[simp] theorem State.setInHand_ctr (x : Option InHand) : (s.setInHand x).ctr = s.ctr := rfl
@[simp] theorem State.setInHand_mge (x : Option InHand) : (s.setInHand x).mge = s.mge := rfl
@[simp] theorem State.setInHand_sbl (x : Option InHand) : (s.setInHand x).sbl = s.sbl := rfl
@[simp] theorem State.setInHand_wls (x : Option InHand) : (s.setInHand x).wls = s.wls := rfl
@[simp] theorem State.setInHand_pol (x : Option InHand) : (s.setInHand x).pol = s.pol := rfl
@[simp] theorem State.setInHand_rst (x : Option InHand) : (s.setInHand x).rst = s.rst := rfl
@[simp] theorem State.setInHand_freeCount (x : Option InHand) : (s.setInHand x).freeCount = s.freeCount := rfl

@[simp] theorem State.supersede_pending : (s.supersede).pending = s.pending := rfl
@[simp] theorem State.supersede_powerHeld : (s.supersede).powerHeld = s.powerHeld := rfl
@[simp] theorem State.supersede_mode : (s.supersede).mode = s.mode := rfl
@[simp] theorem State.supersede_ready : (s.supersede).ready = s.ready := rfl
@[simp] theorem State.supersede_adrPins : (s.supersede).adrPins = s.adrPins := rfl
@[simp] theorem State.supersede_target : (s.supersede).target = s.target := rfl
@[simp] theorem State.supersede_rmt : (s.supersede).rmt = s.rmt := rfl
@[simp] theorem State.supersede_sld : (s.supersede).sld = s.sld := rfl
@[simp] theorem State.supersede_ctr : (s.supersede).ctr = s.ctr := rfl
@[simp] theorem State.supersede_mge : (s.supersede).mge = s.mge := rfl
@[simp] theorem State.supersede_sbl : (s.supersede).sbl = s.sbl := rfl
@[simp] theorem State.supersede_wls : (s.supersede).wls = s.wls := rfl
@[simp] theorem State.supersede_pol : (s.supersede).pol = s.pol := rfl
@[simp] theorem State.supersede_rst : (s.supersede).rst = s.rst := rfl
@[simp] theorem State.supersede_freeCount : (s.supersede).freeCount = s.freeCount := rfl

@[simp] theorem State.drawFree_pending : (s.drawFree).pending = s.pending := rfl
@[simp] theorem State.drawFree_powerHeld : (s.drawFree).powerHeld = s.powerHeld := rfl
@[simp] theorem State.drawFree_mode : (s.drawFree).mode = s.mode := rfl
@[simp] theorem State.drawFree_ready : (s.drawFree).ready = s.ready := rfl
@[simp] theorem State.drawFree_adrPins : (s.drawFree).adrPins = s.adrPins := rfl
@[simp] theorem State.drawFree_target : (s.drawFree).target = s.target := rfl
@[simp] theorem State.drawFree_rmt : (s.drawFree).rmt = s.rmt := rfl
@[simp] theorem State.drawFree_sld : (s.drawFree).sld = s.sld := rfl
@[simp] theorem State.drawFree_ctr : (s.drawFree).ctr = s.ctr := rfl
@[simp] theorem State.drawFree_mge : (s.drawFree).mge = s.mge := rfl
@[simp] theorem State.drawFree_sbl : (s.drawFree).sbl = s.sbl := rfl
@[simp] theorem State.drawFree_wls : (s.drawFree).wls = s.wls := rfl
@[simp] theorem State.drawFree_pol : (s.drawFree).pol = s.pol := rfl
@[simp] theorem State.drawFree_rst : (s.drawFree).rst = s.rst := rfl
@[simp] theorem State.drawFree_port : (s.drawFree).port = s.port := rfl

end Sys2Proof.Machine
end

