-- ==== Sys2Proof/Laws/Kept.lean ====
section
/-!
SUPPORT. What every operation of the running part keeps. `Kept s t` says that `t` differs from `s` in the way any event other
than a power event, an end of loading, a configuration or a completion of the burn engine may differ: the queue, the mode and the
outputs that follow it stay, the cells stay, the lock is never cleared, an operation begins only with the lock clear and the
engine IDLE, ALERT goes by its test, and no queue outgrows its capacity. One lemma for each operation.
-/

namespace Sys2Proof.Machine

/-- See the head of the file. -/
structure Kept (s t : State) : Prop where
  pending : t.pending = s.pending
  powerHeld : t.powerHeld = s.powerHeld
  mode : t.mode = s.mode
  ready : t.ready = s.ready
  adrPins : t.adrPins = s.adrPins
  target : t.target = s.target
  freeCount : t.freeCount = s.freeCount
  reports : t.mge.reports.length ≤ max 32 s.mge.reports.length
  outbound : t.sbl.outbound.length ≤ max 8 s.sbl.outbound.length
  badRun : t.sbl.badRun ≤ max 3 s.sbl.badRun
  items : t.wls.items.length ≤ max 32 s.wls.items.length
  nominations : t.pol.nominations.length ≤ max 32 s.pol.nominations.length
  passOrder : t.pol.passOrder.length ≤ max 32 (max s.pol.passOrder.length s.wls.items.length)
  cells : t.rst.cells = s.rst.cells
  geometryCells : t.rst.geometryCells = s.rst.geometryCells
  lock : s.rst.lock = true → t.rst.lock = true
  operation : t.rst.operation = s.rst.operation ∨ (s.rst.lock = false ∧ s.rst.operation = none)
  alert : s.port.alert = alertTest s.port.conditions s.port.alertMask →
    t.port.alert = alertTest t.port.conditions t.port.alertMask

namespace Kept

theorem refl (s : State) : Kept s s := by constructor <;> simp

theorem trans {s t u : State} (a : Kept s t) (b : Kept t u) : Kept s u where
  pending := b.pending.trans a.pending
  powerHeld := b.powerHeld.trans a.powerHeld
  mode := b.mode.trans a.mode
  ready := b.ready.trans a.ready
  adrPins := b.adrPins.trans a.adrPins
  target := b.target.trans a.target
  freeCount := b.freeCount.trans a.freeCount
  reports := by have := a.reports; have := b.reports; omega
  outbound := by have := a.outbound; have := b.outbound; omega
  badRun := by have := a.badRun; have := b.badRun; omega
  items := by have := a.items; have := b.items; omega
  nominations := by have := a.nominations; have := b.nominations; omega
  passOrder := by have := a.passOrder; have := b.passOrder; have := a.items; omega
  cells := b.cells.trans a.cells
  geometryCells := b.geometryCells.trans a.geometryCells
  lock := fun h => b.lock (a.lock h)
  operation := by
    rcases a.operation with h | h
    · rcases b.operation with k | ⟨k, k'⟩
      · exact .inl (k.trans h)
      · cases hl : s.rst.lock with
        | true => simp [a.lock hl] at k
        | false => exact .inr ⟨rfl, h ▸ k'⟩
    · exact .inr h
  alert := fun h => b.alert (a.alert h)

variable (s : State)

theorem ofRmt (x : RemapTable) : Kept s { s with rmt := x } := by constructor <;> simp
theorem ofSld (x) : Kept s { s with sld := x } := by constructor <;> simp
theorem ofCtr (x : Translator) : Kept s { s with ctr := x } := by constructor <;> simp
theorem ofMge (x : Migration) (h : x.reports.length ≤ max 32 s.mge.reports.length) : Kept s { s with mge := x } := by
  constructor <;> simp
  omega
theorem ofSbl (x : Link) (h : x.outbound.length ≤ max 8 s.sbl.outbound.length) (h' : x.badRun ≤ max 3 s.sbl.badRun) :
    Kept s { s with sbl := x } := by
  constructor <;> simp <;> omega
theorem ofWls (x : WatchList) (h : x.items.length ≤ max 32 s.wls.items.length) : Kept s { s with wls := x } := by
  constructor <;> simp
  omega
theorem ofPol (x : Policy) (h : x.nominations.length ≤ max 32 s.pol.nominations.length)
    (h' : x.passOrder.length ≤ max 32 (max s.pol.passOrder.length s.wls.items.length)) : Kept s { s with pol := x } := by
  constructor <;> simp <;> omega
theorem ofStage (x : Stage) : Kept s (s.setStage x) := by constructor <;> simp [State.setStage]
theorem ofPort (x : Port) (h : x.conditions = s.port.conditions) (h' : x.alertMask = s.port.alertMask)
    (h'' : x.alert = s.port.alert) : Kept s { s with port := x } := by
  constructor <;> simp [h, h', h'']
theorem ofConditions (set mask : BitVec 16) : Kept s { s with port := s.port.withConditions set mask } := by
  constructor <;> simp [Port.withConditions]

/-! ## Plain updates -/

theorem setEntry (i e) : Kept s (s.setEntry i e) := ofRmt s _
theorem bumpGeneration : Kept s s.bumpGeneration := ofRmt s _
theorem setSlot (r b k x) : Kept s (s.setSlot r b k x) := ofSld s _
theorem freeSlot (r b k) : Kept s (s.freeSlot r b k) := ofSld s _
theorem freeSlotBad (r b k) : Kept s (s.freeSlotBad r b k) := ofSld s _
theorem setSlotState (r b k x) : Kept s (s.setSlotState r b k x) := ofSld s _
theorem setRecord (r b x) : Kept s (s.setRecord r b x) := ofCtr s _
theorem setCtx (c x) : Kept s (s.setCtx c x) := ofMge s _ (by simp)
theorem enterState (c st j) : Kept s (s.enterState c st j) := setCtx s c _
theorem enterTimed (c st j ms) : Kept s (s.enterTimed c st j ms) := setCtx s c _
theorem setJob (c st j) : Kept s (s.setJob c st j) := setCtx s c _
theorem setLastResult (c r) : Kept s (s.setLastResult c r) := setCtx s c _
theorem clearAllHeld : Kept s s.clearAllHeld := ofMge s _ (by simp)
theorem setReports (l) (h : l.length ≤ max 32 s.mge.reports.length) : Kept s (s.setReports l) := ofMge s _ h
theorem setOutbound (l) (h : l.length ≤ max 8 s.sbl.outbound.length) : Kept s (s.setOutbound l) :=
  ofSbl s _ h (by simp)
theorem setWaiting (l) : Kept s (s.setWaiting l) := ofSbl s _ (by simp) (by simp)
theorem goodFrame : Kept s s.goodFrame := ofSbl s _ (by simp) (by simp)
theorem enterGreeting : Kept s s.enterGreeting := ofSbl s _ (by simp) (by simp)
theorem linkDown : Kept s s.linkDown := ofSbl s _ (by simp) (by simp)
theorem onlyHelloAck : Kept s s.onlyHelloAck := (setOutbound s _ (by simp)).trans (setWaiting _ _)
theorem setItems (l) (h : l.length ≤ max 32 s.wls.items.length) : Kept s (s.setItems l) := ofWls s _ h
theorem removeItem (k) : Kept s (s.removeItem k) :=
  setItems s _ (by have := List.length_filter_le (fun i : WatchItem => i.key != k) s.wls.items; omega)
theorem changeItem (k f) : Kept s (s.changeItem k f) := setItems s _ (by simp)
theorem setInRepair (k c) : Kept s (s.setInRepair k c) := changeItem s k _
theorem setLastFailure (k f) : Kept s (s.setLastFailure k f) := changeItem s k _
theorem removeSlotItems (o) : Kept s (s.removeSlotItems o) :=
  setItems s _ (by have := List.length_filter_le (fun i : WatchItem => !i.isSlotItemOf o) s.wls.items; omega)
theorem setStage (x) : Kept s (s.setStage x) := ofStage s x
theorem raise (k) : Kept s (s.raise k) := ofConditions s _ _
theorem raiseIf (b k) : Kept s (s.raiseIf b k) := by
  unfold State.raiseIf; split
  · exact raise s k
  · exact refl s
theorem clearConditions (x) : Kept s (s.clearConditions x) := ofConditions s _ _
theorem setAlertMask (x) : Kept s (s.setAlertMask x) := ofConditions s _ _
theorem setResponse (x) : Kept s (s.setResponse x) := ofPort s _ rfl rfl rfl
theorem setInHand (x) : Kept s (s.setInHand x) := ofPort s _ rfl rfl rfl
theorem supersede : Kept s s.supersede := setInHand s _

/-! ## Entries and stages -/

theorem freeEntry (i o k) : Kept s (s.freeEntry i o k) :=
  (((setEntry s i _).trans (bumpGeneration _)).trans (freeSlot _ _ _ _)).trans (removeSlotItems _ _)

theorem freeIfRetiring (i) : Kept s (s.freeIfRetiring i) := by
  unfold State.freeIfRetiring; split
  · exact freeEntry ..
  · exact refl s

theorem tableClose (x) : Kept s (s.tableClose x) := by
  unfold State.tableClose; split
  · split
    · exact freeIfRetiring ..
    · exact refl s
  · exact refl s

theorem foldl {α : Type} (f : State → α → State) (h : ∀ s a, Kept s (f s a)) (l : List α) (s : State) :
    Kept s (l.foldl f s) := by
  induction l generalizing s with
  | nil => exact refl s
  | cons a l ih => exact (h s a).trans (ih _)

theorem tableTakesCloses : Kept s s.tableTakesCloses :=
  (ofRmt s _).trans (foldl _ tableClose _ _)

theorem dropStage (i) : Kept s (s.dropStage i) := (setStage s _).trans (setEntry _ _ _)

theorem cancelStage : Kept s s.cancelStage := by
  unfold State.cancelStage; split
  · exact dropStage ..
  · exact refl s

theorem cancelStageFor (i) : Kept s (s.cancelStageFor i) := by
  unfold State.cancelStageFor; split
  · exact dropStage ..
  · exact refl s

theorem applyPendingRun : Kept s s.applyPendingRun := by
  unfold State.applyPendingRun; split
  · exact ofPol s _ (by simp) (by simp)
  · exact refl s

theorem startDecay : Kept s s.startDecay := ofWls s _ (by simp)

theorem tick : Kept s s.tick := by
  unfold State.tick; split
  · exact refl s
  · constructor <;> simp

/-! ## The outbound side of the link -/

theorem room_iff : s.outboundRoom = true ↔ s.sbl.outbound.length < 8 := decide_eq_true_iff

theorem withOutbound {s t : State} (k : Kept s t) (l) (h : l.length ≤ max 8 s.sbl.outbound.length) :
    Kept s (t.setOutbound l) := { k with outbound := h }

theorem queueTail (c h) (room : s.outboundRoom = true) : Kept s (s.queueTail c h) := by
  rw [room_iff] at room
  unfold State.queueTail; split
  · exact setOutbound s _ (by simp; omega)
  · exact (setCtx s c _).trans (setOutbound _ _ (by simp; omega))

theorem makeMsg (c m) : Kept s (s.makeMsg c m) := by
  unfold State.makeMsg; split
  · exact queueTail s _ _ ‹_›
  · exact (setCtx s c _).trans (setWaiting _ _)

theorem refillUpTo (n : Nat) : ∀ s : State, Kept s (s.refillUpTo n) := by
  induction n with
  | zero => exact fun s => refl s
  | succ n ih =>
    intro s
    unfold State.refillUpTo
    split
    · exact refl s
    · split
      · split
        · exact (setWaiting s _).trans (ih _)
        · exact ((((setWaiting s _).trans (setCtx _ _ _)).trans (queueTail _ _ _ ‹_›)).trans (ih _))
      · exact refl s

theorem refill : Kept s s.refill := refillUpTo _ s

theorem displaceTail : Kept s s.displaceTail := by
  unfold State.displaceTail; split
  · exact refl s
  · have h : Kept s (s.setOutbound s.sbl.outbound.dropLast) := setOutbound s _ (by simp)
    dsimp only; split
    · exact (h.trans (setCtx _ _ _)).trans (setWaiting _ _)
    · exact h

theorem displaceTail_length : s.displaceTail.sbl.outbound.length = s.sbl.outbound.length - 1 := by
  unfold State.displaceTail; split
  · simp_all
  · dsimp only; split <;> simp [State.setOutbound, State.setWaiting, State.setCtx]

theorem queueGreeting (m) : Kept s (s.queueGreeting m) := by
  unfold State.queueGreeting; split
  · exact refl s
  · by_cases room : s.outboundRoom = true
    · simp only [room, if_true]
      rw [room_iff] at room
      exact setOutbound s _ (by simp; omega)
    · simp only [room]
      rw [room_iff] at room
      exact (displaceTail s).withOutbound _ (by simp [displaceTail_length]; omega)

theorem sendStale (m) : Kept s (s.sendStale m) := by
  unfold State.sendStale; split
  · rename_i room
    rw [room_iff] at room
    exact setOutbound s _ (by simp; omega)
  · exact refl s

theorem purgeOutbound (keep) : Kept s (s.purgeOutbound keep) :=
  (setOutbound s _ (by have := List.length_filter_le keep s.sbl.outbound; omega)).trans (refill _)

theorem dropHeld (c) : Kept s (s.dropHeld c) := (setCtx s c _).trans (setWaiting _ _)

theorem linkUp : Kept s s.linkUp := (ofSbl s _ (by simp) (by simp)).trans (purgeOutbound _ _)

/-! ## Migrations -/

theorem enterIdle (c j) : Kept s (s.enterIdle c j) := (setCtx s c _).trans (dropHeld _ _)

theorem abortSlot (j r) : Kept s (s.abortSlot j r) := by
  unfold State.abortSlot; split
  · exact freeSlotBad ..
  · exact freeSlot ..

theorem abortChanges (c j r) : Kept s (s.abortChanges c j r) :=
  (((((setEntry s _ _).trans (abortSlot _ _ _)).trans (setInRepair _ _ _)).trans (setLastResult _ _ _)).trans
    (raiseIf _ _ _)).trans (dropHeld _ _)

theorem abortMessages (c j) : Kept s (s.abortMessages c j) := by
  unfold State.abortMessages; split
  · exact (makeMsg ..).trans (enterIdle ..)
  · exact ((enterState ..).trans (makeMsg ..)).trans (makeMsg ..)

theorem abort (c r) : Kept s (s.abort c r) := by
  unfold State.abort; split
  · exact refl s
  · split
    · exact (abortChanges ..).trans (enterIdle ..)
    · exact (abortChanges ..).trans (abortMessages ..)

theorem endSilently (r c) : Kept s (s.endSilently r c) := by
  unfold State.endSilently; split
  · exact refl s
  · exact enterIdle ..
  · exact abort ..

theorem endAllSilently (r) : Kept s (s.endAllSilently r) := foldl _ (fun s c => endSilently s r c) _ _

theorem cutoverSlots (j) : Kept s (s.cutoverSlots j) := by
  unfold State.cutoverSlots; dsimp only; split
  · exact (setSlotState ..).trans (freeSlotBad ..)
  · exact setSlotState ..

theorem cutoverChanges (c j) : Kept s (s.cutoverChanges c j) :=
  (((((cutoverSlots s j).trans (setEntry _ _ _)).trans (bumpGeneration _)).trans (removeItem _ _)).trans
    (setLastResult _ _ _)).trans (raise _ _)

theorem cutover (c j) : Kept s (s.cutover c j) := by
  unfold State.cutover; split
  · exact ((cutoverChanges ..).trans (enterState ..)).trans (makeMsg ..)
  · exact (cutoverChanges ..).trans (enterIdle ..)

theorem startRound (c j) : Kept s (s.startRound c j) := (enterState ..).trans (makeMsg ..)
theorem requestFence (c j) : Kept s (s.requestFence c j) := (enterState ..).trans (makeMsg ..)

theorem armOrCutover (c j) : Kept s (s.armOrCutover c j) := by
  unfold State.armOrCutover; split
  · exact enterTimed ..
  · exact cutover ..

theorem afterUncleanRound (c j) : Kept s (s.afterUncleanRound c j) := by
  unfold State.afterUncleanRound; split
  · exact startRound ..
  · split
    · exact requestFence ..
    · exact abort ..

theorem dirtyBlock (c st j b) : Kept s (s.dirtyBlock c st j b) := by
  unfold State.dirtyBlock; dsimp only; split
  · split
    · exact startRound ..
    · exact requestFence ..
  · exact setJob ..

theorem takeSourceWrite (c o b) : Kept s (s.takeSourceWrite c o b) := by
  unfold State.takeSourceWrite; split
  · exact refl s
  · exact refl s
  · split
    · split
      · exact abort ..
      · exact dirtyBlock ..
    · exact refl s

theorem takeDestWrite (c r k n b) : Kept s (s.takeDestWrite c r k n b) := by
  unfold State.takeDestWrite; split
  · exact refl s
  · exact refl s
  · split
    · exact setJob ..
    · exact refl s

theorem decideClose (c) : Kept s (s.decideClose c) := by
  unfold State.decideClose; split
  · split
    · exact refl s
    · exact cutover ..
  · exact refl s

theorem takeReports (l : List Report) : ∀ s : State, Kept s (State.takeReports l s) := by
  induction l with
  | nil => exact fun s => refl s
  | cons x l ih =>
    intro s
    cases x with
    | sourceWrite => exact (takeSourceWrite s _ _ _).trans (ih _)
    | destWrite => exact (takeDestWrite s _ _ _ _ _).trans (ih _)
    | close =>
      unfold State.takeReports; split
      · exact (ih s).trans (decideClose _ _)
      · exact ih s

theorem takeAllReports : Kept s s.takeAllReports := (setReports s _ (by simp)).trans (takeReports _ _)

theorem takeHeadReport : Kept s s.takeHeadReport := by
  unfold State.takeHeadReport; split
  · exact refl s
  · split
    · exact takeAllReports s
    · rename_i h _
      exact (setReports s _ (by simp [h])).trans (takeReports _ _)

end Kept

/-! ## The report queue through the Migration Engine's operations -/

namespace State

variable (s : State)

@[simp] theorem raiseIf_mge (b k) : (s.raiseIf b k).mge = s.mge := by unfold State.raiseIf; split <;> rfl

@[simp] theorem makeMsg_reports (c m) : (s.makeMsg c m).mge.reports = s.mge.reports := by
  unfold State.makeMsg; split
  · unfold State.queueTail; split <;> rfl
  · rfl

@[simp] theorem dropHeld_reports (c) : (s.dropHeld c).mge.reports = s.mge.reports := rfl
@[simp] theorem enterIdle_reports (c j) : (s.enterIdle c j).mge.reports = s.mge.reports := rfl
@[simp] theorem enterState_reports (c st j) : (s.enterState c st j).mge.reports = s.mge.reports := rfl
@[simp] theorem setLastResult_reports (c r) : (s.setLastResult c r).mge.reports = s.mge.reports := rfl

@[simp] theorem abortSlot_mge (j r) : (s.abortSlot j r).mge = s.mge := by unfold State.abortSlot; split <;> rfl

@[simp] theorem abortChanges_reports (c j r) : (s.abortChanges c j r).mge.reports = s.mge.reports := by
  simp [State.abortChanges]

@[simp] theorem abortMessages_reports (c j) : (s.abortMessages c j).mge.reports = s.mge.reports := by
  unfold State.abortMessages; split <;> simp

@[simp] theorem abort_reports (c r) : (s.abort c r).mge.reports = s.mge.reports := by
  unfold State.abort; split
  · rfl
  · split <;> simp

@[simp] theorem cutoverSlots_mge (j) : (s.cutoverSlots j).mge = s.mge := by
  unfold State.cutoverSlots; dsimp only; split <;> rfl

@[simp] theorem cutover_reports (c j) : (s.cutover c j).mge.reports = s.mge.reports := by
  unfold State.cutover; split <;> simp [State.cutoverChanges]

@[simp] theorem startRound_reports (c j) : (s.startRound c j).mge.reports = s.mge.reports := by
  simp [State.startRound]

@[simp] theorem requestFence_reports (c j) : (s.requestFence c j).mge.reports = s.mge.reports := by
  simp [State.requestFence]

@[simp] theorem takeSourceWrite_reports (c o b) : (s.takeSourceWrite c o b).mge.reports = s.mge.reports := by
  unfold State.takeSourceWrite State.dirtyBlock; dsimp only
  split
  · rfl
  · rfl
  · split
    · split
      · simp
      · split
        · split <;> simp
        · rfl
    · rfl

@[simp] theorem takeDestWrite_reports (c r k n b) : (s.takeDestWrite c r k n b).mge.reports = s.mge.reports := by
  unfold State.takeDestWrite; split
  · rfl
  · rfl
  · split <;> rfl

@[simp] theorem decideClose_reports (c) : (s.decideClose c).mge.reports = s.mge.reports := by
  unfold State.decideClose; split
  · split <;> simp
  · rfl

@[simp] theorem takeReports_reports (l : List Report) : ∀ s : State, (takeReports l s).mge.reports = s.mge.reports := by
  induction l with
  | nil => exact fun s => rfl
  | cons x l ih =>
    intro s
    cases x with
    | sourceWrite => simp [State.takeReports, ih]
    | destWrite => simp [State.takeReports, ih]
    | close => unfold State.takeReports; split <;> simp [ih]

/-- Taking the head report takes at least that one, and makes none. -/
theorem takeHeadReport_reports : s.takeHeadReport.mge.reports.length ≤ s.mge.reports.length - 1 := by
  unfold State.takeHeadReport; split
  · simp_all
  · split
    · simp [State.takeAllReports, State.setReports]
    · rename_i h _; simp [State.setReports, h]

end State

namespace Kept

variable (s : State)

theorem withReports {s t : State} (k : Kept s t) (l) (h : l.length ≤ max 32 s.mge.reports.length) :
    Kept s (t.setReports l) := { k with reports := h }

theorem makeReport (x) : Kept s (s.makeReport x) := by
  unfold State.makeReport; dsimp only
  by_cases h : s.mge.reports.length < Config.reportCapacity
  · simp only [h, if_true]
    have : s.mge.reports.length < 32 := h
    exact setReports s _ (by simp; omega)
  · simp only [h, if_false]
    have : ¬s.mge.reports.length < 32 := h
    have := s.takeHeadReport_reports
    exact (takeHeadReport s).withReports _ (by simp; omega)

/-! ## Launches -/

theorem launchNotice (c o) : Kept s (s.launchNotice c o) := by
  unfold State.launchNotice; split
  · split
    · exact setRecord ..
    · exact refl s
  · exact refl s

theorem launch (c d i e o k key) : Kept s (s.launch c d i e o k key) :=
  (((((setEntry s _ _).trans (setSlotState _ _ _ _ _)).trans (launchNotice _ _ _)).trans (enterState _ _ _ _)).trans
    (setInRepair _ _ _)).trans (makeMsg _ _ _)

theorem launchFirst {o c t} (h : s.launchFirst o = .launched c t) : Kept s t := by
  unfold State.launchFirst at h
  repeat' split at h
  all_goals cases h
  exact launch ..

theorem launchMove {i c t} (h : s.launchMove i = .launched c t) : Kept s t := by
  unfold State.launchMove at h
  repeat' split at h
  all_goals cases h
  exact launch ..

/-! ## Error notes -/

theorem slotNote (r b k) : Kept s (s.slotNote r b k) := by
  unfold State.slotNote; split
  · exact freeSlotBad ..
  · exact setSlotState ..
  · split
    · exact abort ..
    · exact refl s
  all_goals exact raise ..

theorem createItem (k cls w run) (h : s.wls.items.length < 32) : Kept s (s.createItem k cls w run) :=
  ofWls s _ (by simp; omega)

theorem handNomination (k) : Kept s (s.handNomination k) := by
  unfold State.handNomination; split
  · exact refl s
  · rename_i h
    have : ¬s.pol.nominations.length ≥ 32 := fun h' => h (.inr h')
    exact ofPol s _ (by simp; omega) (by simp)

theorem testNomination (k) : Kept s (s.testNomination k) := by
  unfold State.testNomination; split
  · split
    · exact ((changeItem ..).trans (raise ..)).trans (handNomination ..)
    · exact refl s
  · exact refl s

/-- A victim is an item of the list (R130). -/
theorem victim_mem {l : List WatchItem} {v : WatchItem} (h : victimOf l = some v) : v ∈ l := by
  induction l generalizing v with
  | nil => cases h
  | cons i l ih =>
    unfold victimOf at h
    split at h
    · exact .tail _ (ih h)
    · split at h
      · cases h; exact .head _
      · split at h
        · cases h; exact .head _
        · cases h; exact .tail _ (ih ‹_›)

theorem scoreNote (k cls w run) : Kept s (s.scoreNote k cls w run) := by
  unfold State.scoreNote; split
  · exact (changeItem ..).trans (testNomination ..)
  · split
    · exact refl s
    · split
      · exact (createItem s _ _ _ _ ‹_›).trans (testNomination ..)
      · split
        · rename_i h v hv
          split
          · refine Kept.trans (?_ : Kept s ((s.removeItem v.key).createItem k cls w run)) (testNomination ..)
            have hm : (s.removeItem v.key).wls.items.length < s.wls.items.length := by
              refine List.length_filter_lt_length_iff_exists.2 ⟨v, victim_mem hv, by simp⟩
            exact { ofWls s { (s.removeItem v.key).wls with
                items := ((s.removeItem v.key).createItem k cls w run).wls.items
                counter := s.wls.counter + 1 } (by
                  simp only [State.createItem, List.length_append, List.length_singleton]; omega) with }
          · exact raise ..
        · exact raise ..

theorem noteOnStage (i) : Kept s (s.noteOnStage i) := by
  unfold State.noteOnStage; split
  · exact (dropStage ..).trans (raise ..)
  · exact refl s

theorem dataNote (o cls rep) : Kept s (s.dataNote o cls rep) := by
  unfold State.dataNote; dsimp only; split
  · exact scoreNote ..
  · exact (noteOnStage ..).trans (scoreNote ..)

theorem takeNote (n) : Kept s (s.takeNote n) := by
  unfold State.takeNote; split
  · exact refl s
  · split
    · split
      · split
        · exact dataNote ..
        · exact slotNote ..
      · exact raise ..
    · exact raise ..

theorem decayItems : Kept s s.decayItems :=
  setItems s _ (by
    have := List.length_filter_le WatchItem.stays (s.wls.items.map fun i => i.decayed s.runProfile.decayStep)
    simp at this ⊢; omega)

/-! ## Policy -/

theorem launchFailed (k l f c) : Kept s (s.launchFailed k l f c) := by
  unfold State.launchFailed; split
  · exact refl s
  · exact (raise ..).trans (setLastFailure ..)

theorem afterLaunch (k l x) (h : ∀ c t, x = Launch.launched c t → Kept s t) : Kept s (s.afterLaunch k l x) := by
  unfold State.afterLaunch; split
  · exact (h _ _ rfl).trans (setLastFailure ..)
  · exact launchFailed ..
  · exact launchFailed ..
  · exact refl s

theorem actOn (k l d) : Kept s (s.actOn k l d) := by
  unfold State.actOn; split
  · exact afterLaunch s _ _ _ fun _ _ h => launchFirst s h
  · exact afterLaunch s _ _ _ fun _ _ h => launchMove s h
  · exact launchFailed ..
  · exact refl s

theorem consider (k) : Kept s (s.consider k) := by
  unfold State.consider; split
  · split
    · exact actOn ..
    · exact refl s
  · exact refl s

theorem insertByScore_length (i) (l : List WatchItem) : (insertByScore i l).length = l.length + 1 := by
  induction l with
  | nil => rfl
  | cons j l ih => unfold insertByScore; split <;> simp [ih]

theorem sortByScore_length (l : List WatchItem) : (sortByScore l).length = l.length := by
  induction l with
  | nil => rfl
  | cons j l ih => simp [sortByScore, insertByScore_length, ih]

theorem startPass : Kept s s.startPass := by
  have := List.length_filter_le (fun i : WatchItem => i.nominated && i.inRepair.isNone) s.wls.items
  refine ofPol s _ (by simp) ?_
  dsimp only; split
  · simp only [passOrderOf, List.length_map, sortByScore_length]; omega
  · simp

theorem decayBoundary : Kept s s.decayBoundary :=
  (((decayItems s).trans (applyPendingRun _)).trans (startDecay _)).trans (startPass _)

theorem passStep : Kept s s.passStep := by
  unfold State.passStep; split
  · rename_i h
    exact (ofPol s _ (by simp) (by simp [h])).trans (consider ..)
  · exact refl s

theorem takeNomination : Kept s s.takeNomination := by
  unfold State.takeNomination; split
  · rename_i k rest h
    have h' : Kept s { s with pol := { s.pol with nominations := rest } } := ofPol s _ (by simp [h]) (by simp)
    dsimp only; split
    · exact h'.trans (consider ..)
    · exact h'
  · exact refl s

/-! ## The command path -/

theorem forward (x) : Kept s (s.forward x) := ofCtr s _
theorem passThrough (x) : Kept s (s.passThrough x) := (forward s _).trans (raiseIf _ _ _)
theorem reportCloseToTable (x) : Kept s (s.reportCloseToTable x) := ofRmt s _

theorem closeBank (r b) : Kept s (s.closeBank r b) := by
  unfold State.closeBank; split
  · exact ((makeReport ..).trans (reportCloseToTable ..)).trans (setRecord ..)
  · exact refl s

theorem closeRank (r) : Kept s (s.closeRank r) := foldl _ (fun s b => closeBank s r b) _ _

theorem reportWrite (g r b col) : Kept s (s.reportWrite g r b col) := by
  unfold State.reportWrite; split
  · exact makeReport ..
  · exact makeReport ..
  · exact refl s

theorem violation : Kept s s.violation := (ofCtr s _).trans (raise _ _)
theorem openBank (r b x) : Kept s (s.openBank r b x) := (forward s _).trans (setRecord ..)

theorem closeBeforeLookup (r b) : Kept s (s.closeBeforeLookup r b) := by
  unfold State.closeBeforeLookup; split
  · exact (closeBank ..).trans (tableTakesCloses _)
  · exact refl s

theorem activateData (g o) : Kept s (s.activateData g o) := (closeBeforeLookup s _ _).trans (openBank ..)

theorem activateAlias (g r b n) : Kept s (s.activateAlias g r b n) := by
  unfold State.activateAlias; dsimp only; split
  · exact ((closeBank ..).trans (openBank ..)).trans (violation _)
  · exact (closeBank ..).trans (openBank ..)

theorem setResetLine (b) : Kept s (s.setResetLine b) := ofCtr s _

theorem channelResetEvent : Kept s s.channelResetEvent := by
  constructor <;> simp [State.channelResetEvent]

/-! ## Reports taken -/

theorem takeHeadIf (k) : Kept s (s.takeHeadIf k) := by
  unfold State.takeHeadIf; split
  · split
    · exact takeHeadReport s
    · exact refl s
  · exact refl s

theorem migrationChannelReset : Kept s s.migrationChannelReset :=
  ((takeAllReports s).trans (endAllSilently _ _)).trans (purgeOutbound _ _)

theorem freeAllRetiring : Kept s s.freeAllRetiring := foldl _ freeIfRetiring _ _

/-! ## Messages -/

theorem linkFail : Kept s s.linkFail :=
  ((((linkDown s).trans (endAllSilently _ _)).trans (clearAllHeld _)).trans (raise _ _)).trans (enterGreeting _)

theorem badFrame : Kept s s.badFrame := by
  unfold State.badFrame; split
  · split
    · exact linkFail s
    · rename_i h
      have : ¬s.sbl.badRun + 1 ≥ 4 := h
      exact ofSbl s _ (by simp) (by simp; omega)
  · exact refl s

theorem greetAnew : Kept s s.greetAnew :=
  (((queueGreeting s _).trans (endAllSilently _ _)).trans (clearAllHeld _)).trans (onlyHelloAck _)

theorem takeHello (l c) : Kept s (s.takeHello l c) := by
  unfold State.takeHello; split
  · exact raise ..
  · split
    · exact refl s
    · exact ((linkUp s).trans (queueGreeting ..)).trans (endAllSilently ..)
    · exact greetAnew s

theorem takeHelloAck (l c) : Kept s (s.takeHelloAck l c) := by
  unfold State.takeHelloAck; split
  · exact raise ..
  · split
    · exact refl s
    · exact linkUp s
    · exact refl s

theorem passNote (n) : Kept s (s.passNote n) := by
  unfold State.passNote; split
  · exact ofWls s _ (by simp)
  · exact refl s

theorem passReply (r) : Kept s (s.passReply r) := by
  unfold State.passReply; split
  · exact ofMge s _ (by simp)
  · exact refl s

theorem receive (m) : Kept s (s.receive m) := by
  unfold State.receive; split
  · split
    · exact (goodFrame s).trans (passNote ..)
    · exact (goodFrame s).trans (passReply ..)
    · exact (goodFrame s).trans (takeHello ..)
    · exact (goodFrame s).trans (takeHelloAck ..)
  · exact refl s

theorem takePassedNote (n) : Kept s (s.takePassedNote n) := by
  unfold State.takePassedNote; split
  · split
    · exact (ofWls s _ (by simp)).trans (takeNote ..)
    · exact refl s
  · exact refl s

theorem answerStale (r) : Kept s (s.answerStale r) := sendStale s _

theorem endRound (c j) : Kept s (s.endRound c j) := by
  unfold State.endRound; split
  · exact armOrCutover ..
  · exact afterUncleanRound ..

theorem fencedTest (c) : Kept s (s.fencedTest c) := by
  unfold State.fencedTest; dsimp only; split
  · exact (takeAllReports s).trans (armOrCutover ..)
  · exact takeAllReports s

theorem takeReplyBody (r) : Kept s (s.takeReplyBody r) := by
  unfold State.takeReplyBody; split
  · unfold State.takeAccept; split
    · exact enterTimed ..
    · exact answerStale ..
  · unfold State.takeRefuse; split
    · exact abort ..
    · exact answerStale ..
  · unfold State.takeDone; split
    · dsimp only; split
      · exact (takeAllReports s).trans (endRound ..)
      · exact (takeAllReports s).trans (answerStale ..)
    · exact answerStale ..
  · unfold State.takeFenceSet; split
    · dsimp only; split
      · exact (enterState ..).trans (fencedTest ..)
      · exact startRound ..
    · exact answerStale ..
  · unfold State.takeFenceRelease; split
    · exact enterIdle ..
    · exact answerStale ..

theorem takePassedReply (r) : Kept s (s.takePassedReply r) := by
  unfold State.takePassedReply; split
  · split
    · dsimp only; split
      · exact (ofMge s _ (by simp)).trans (takeReplyBody ..)
      · exact ofMge s _ (by simp)
    · exact refl s
  · exact refl s

theorem takeReply (r) : Kept s (s.takeReply r) := by
  unfold State.takeReply; split
  · exact refl s
  · split
    · exact takePassedReply ..
    · exact (receive ..).trans (takePassedReply ..)

theorem transmitHead : Kept s s.transmitHead := by
  unfold State.transmitHead; split
  · rename_i h
    exact (ofSbl s _ (by simp [h]) (by simp)).trans (refill _)
  · exact refl s

/-! ## Timers -/

theorem retry : Kept s s.retry := (queueGreeting s _).trans (ofSbl _ _ (by simp) (by simp))

theorem expire (c st r) : Kept s (s.expire c st r) := by
  unfold State.expire; split
  · exact abort ..
  · exact refl s

theorem closingExpiry (c) : Kept s (s.closingExpiry c) := by
  unfold State.closingExpiry; split
  · split
    · exact (enterIdle ..).trans (raise ..)
    · exact refl s
  · exact refl s

theorem stageExpiry : Kept s s.stageExpiry := by
  unfold State.stageExpiry; split
  · exact (dropStage ..).trans (raise ..)
  · exact refl s

/-! ## Requests -/

theorem refuseFrame (tag st) : Kept s (s.refuseFrame tag st) := (supersede s).trans (setResponse ..)

theorem acceptRequest (tag q) : Kept s (s.acceptRequest tag q) := by
  unfold State.acceptRequest; split
  · exact (setInHand ..).trans (setResponse ..)
  · exact refuseFrame ..

theorem compose (st p) : Kept s (s.compose st p) := by
  unfold State.compose; split
  · split
    · exact refl s
    · exact setResponse ..
  · exact refl s

theorem answer (st p) : Kept s (s.answer st p) := (compose s st p).trans (setInHand ..)
theorem refuse (st) : Kept s (s.refuse st) := answer s st _

theorem takeRequest (q) (d : State → State) (h : ∀ s, Kept s (d s)) : Kept s (s.takeRequest q d) := by
  unfold State.takeRequest; split
  · exact refl s
  · dsimp only
    have k : Kept s (if s.port.awaits q then s else s.acceptRequest 0 q) := by
      split
      · exact refl s
      · exact acceptRequest ..
    generalize (if s.port.awaits q then s else s.acceptRequest 0 q) = s1 at k
    split
    · exact k.trans (h _)
    · exact k

theorem whenLoaded (t) (h : Kept s t) : Kept s (s.whenLoaded t) := by
  unfold State.whenLoaded; split
  · exact refuse ..
  · exact h

theorem whenActive (k) (h : ∀ g, Kept s (k g)) : Kept s (s.whenActive k) := by
  unfold State.whenActive; split
  · exact h _
  · exact refuse ..

theorem whenSome {α : Type} (x : Option α) (k) (h : ∀ a, Kept s (k a)) : Kept s (s.whenSome x k) := by
  unfold State.whenSome; split
  · exact h _
  · exact refuse ..

theorem whenEngineFree (t) (h : s.rst.lock = false → s.rst.operation = none → Kept s t) : Kept s (s.whenEngineFree t) := by
  unfold State.whenEngineFree; split
  · exact refuse ..
  · split
    · exact refuse ..
    · exact h (by simpa using ‹¬s.rst.lock = true›) (by simpa using ‹¬s.rst.operation.isSome = true›)

theorem takeFrame (bytes) : Kept s (s.takeFrame bytes) := by
  unfold State.takeFrame; split
  · exact refuseFrame ..
  · exact acceptRequest ..

theorem decideTableRead (i) : Kept s (s.decideTableRead i) := whenLoaded s _ (whenSome s _ _ fun _ => answer ..)

theorem decideTableFind (r b w) : Kept s (s.decideTableFind r b w) :=
  whenActive s _ fun _ => whenSome s _ _ fun o => by split <;> exact answer ..

theorem release (g i o k m) : Kept s (s.release g i o k m) := by
  unfold State.release; dsimp only; split
  · exact (((cancelStageFor ..).trans (setEntry ..)).trans (removeSlotItems ..)).trans (answer ..)
  · exact ((cancelStageFor ..).trans (freeEntry ..)).trans (answer ..)

theorem decideRelease (i) : Kept s (s.decideRelease i) :=
  whenActive s _ fun _ => whenSome s _ _ fun i => by
    split
    · exact refuse ..
    · split
      · exact refuse ..
      · exact release ..
    · exact refuse ..

theorem decideSlotRead (r b k) : Kept s (s.decideSlotRead r b k) :=
  whenActive s _ fun _ => whenSome s _ _ fun _ => answer ..

theorem decideTestBegin (r b k) : Kept s (s.decideTestBegin r b k) :=
  whenActive s _ fun _ => whenSome s _ _ fun _ => by
    split
    · exact (setSlotState ..).trans (answer ..)
    · exact refuse ..

theorem decideTestEnd (r b k v) : Kept s (s.decideTestEnd r b k v) :=
  whenActive s _ fun _ => whenSome s _ _ fun _ => by
    split
    · exact (setSlot ..).trans (answer ..)
    · exact refuse ..

theorem decideSlotGrade (r b k v) : Kept s (s.decideSlotGrade r b k v) :=
  whenActive s _ fun _ => whenSome s _ _ fun _ => by
    split
    · exact (setSlot ..).trans (answer ..)
    · exact refuse ..

theorem decideContextRead (c) : Kept s (s.decideContextRead c) := whenLoaded s _ (whenSome s _ _ fun _ => answer ..)

theorem answerLaunch (x) (h : ∀ c t, x = Launch.launched c t → Kept s t) : Kept s (s.answerLaunch x) := by
  unfold State.answerLaunch; split
  · exact (h _ _ rfl).trans (answer ..)
  · exact refuse ..

theorem decideRepair (r b w) : Kept s (s.decideRepair r b w) :=
  whenActive s _ fun _ => whenSome s _ _ fun _ => answerLaunch s _ fun _ _ h => launchFirst s h

theorem decideMove (i) : Kept s (s.decideMove i) :=
  whenActive s _ fun _ => whenSome s _ _ fun _ => answerLaunch s _ fun _ _ h => launchMove s h

theorem decideCancel (c) : Kept s (s.decideCancel c) :=
  whenActive s _ fun _ => whenSome s _ _ fun _ => by
    split
    · exact (abort ..).trans (answer ..)
    · exact refuse ..

theorem decideWatchRead (p) : Kept s (s.decideWatchRead p) :=
  whenLoaded s _ (whenSome s _ _ fun _ => by split <;> exact answer ..)

theorem decideWatchClear (r b w x) : Kept s (s.decideWatchClear r b w x) :=
  whenActive s _ fun _ => whenSome s _ _ fun _ => by
    split
    · exact refuse ..
    · split
      · exact refuse ..
      · exact (removeItem ..).trans (answer ..)

theorem decideProfileRead (p) : Kept s (s.decideProfileRead p) := whenLoaded s _ (whenSome s _ _ fun _ => answer ..)

theorem decideEditSelect (p) : Kept s (s.decideEditSelect p) :=
  whenLoaded s _ (whenSome s _ _ fun _ => (ofPol s _ (by simp) (by simp)).trans (answer ..))

theorem decideRunSelect (p) : Kept s (s.decideRunSelect p) :=
  whenLoaded s _ (whenSome s _ _ fun _ => (ofPol s _ (by simp) (by simp)).trans (answer ..))

theorem decideProfileWrite (f v) : Kept s (s.decideProfileWrite f v) :=
  whenLoaded s _ (whenSome s _ _ fun _ => by
    split
    · exact refuse ..
    · exact (ofPol s _ (by simp) (by simp)).trans (answer ..))

theorem takeStage (i o k m r) : Kept s (s.takeStage i o k m r) := ((setStage ..).trans (setEntry ..)).trans (answer ..)

theorem stageEntry (i) : Kept s (s.stageEntry i) := by
  unfold State.stageEntry; split
  · exact refuse ..
  · split
    · exact refuse ..
    · split
      · exact takeStage ..
      · exact refuse ..
  · exact refuse ..

theorem decideStage (i) : Kept s (s.decideStage i) :=
  whenActive s _ fun _ => whenSome s _ _ fun _ => whenEngineFree s _ fun _ _ => by
    split
    · exact stageEntry ..
    · exact refuse ..

theorem beginOperation (x) (hl : s.rst.lock = false) (ho : s.rst.operation = none) : Kept s (s.beginOperation x) := by
  refine Kept.trans (t := { s with rst := { s.rst with operation := some x } }) ?_ (answer ..)
  constructor <;> simp [hl, ho]

theorem decideBurn : Kept s s.decideBurn :=
  whenActive s _ fun _ => whenEngineFree s _ fun hl ho => by
    split
    · split
      · exact (setStage ..).trans (beginOperation _ _ hl ho)
      · exact refuse ..
    all_goals exact refuse ..

theorem decideRevoke (r) : Kept s (s.decideRevoke r) :=
  whenActive s _ fun _ => whenSome s _ _ fun _ => whenEngineFree s _ fun hl ho => by
    split
    · exact beginOperation _ _ hl ho
    · exact refuse ..

theorem decideBurnGeometry : Kept s s.decideBurnGeometry :=
  whenLoaded s _ (whenEngineFree s _ fun hl ho => by
    split
    · split
      · exact beginOperation _ _ hl ho
      · exact refuse ..
    · exact refuse ..)

theorem setLock : Kept s s.setLock := by constructor <;> simp [State.setLock]

theorem decideLockStore : Kept s s.decideLockStore :=
  whenLoaded s _ (((setLock s).trans (cancelStage _)).trans (answer ..))

theorem decideStoreRead (r) : Kept s (s.decideStoreRead r) := whenLoaded s _ (whenSome s _ _ fun _ => answer ..)
theorem decideStoreStatus : Kept s s.decideStoreStatus := whenLoaded s _ (answer ..)
theorem decideConditionRead : Kept s s.decideConditionRead := whenLoaded s _ (answer ..)

theorem decideConditionClear (x) : Kept s (s.decideConditionClear x) :=
  whenLoaded s _ (whenSome s _ _ fun _ => (clearConditions ..).trans (answer ..))

theorem decideAlertMask (x) : Kept s (s.decideAlertMask x) :=
  whenLoaded s _ (whenSome s _ _ fun _ => (setAlertMask ..).trans (answer ..))

theorem decideWarmReset : Kept s s.decideWarmReset :=
  whenLoaded s _ ((compose s _ _).trans (ofPort _ _ rfl rfl rfl))

theorem takeWarmPart (p) (e : State → State) (h : Kept s (e s)) : Kept s (s.takeWarmPart p e) := by
  unfold State.takeWarmPart; split
  · exact h.trans (ofPort _ _ rfl rfl rfl)
  · exact refl s

theorem warmMigration : Kept s s.warmMigration := by
  unfold State.warmMigration; dsimp only; split
  · exact endAllSilently s _
  · exact (endAllSilently s _).trans (purgeOutbound _ _)

theorem warmLink : Kept s s.warmLink :=
  (((linkDown s).trans (endAllSilently _ _)).trans (clearAllHeld _)).trans (enterGreeting _)

theorem endTests : Kept s s.endTests := ofSld s _

end Kept

end Sys2Proof.Machine
end

