-- ==== Sys2Proof/Laws/Ops.lean ====
section
/-!
SUPPORT. What the shared operations do, said once: readers after writers, the searches for a lowest place, the messages of a context,
and the answer to a request.
-/

namespace Sys2Proof.Machine

variable (s : State)

/-! ## Readers after writers -/

theorem State.setEntry_entry (i i' : EntryIx) (e : Entry) : (s.setEntry i e).entry i' = if i' = i then e else s.entry i' := by
  by_cases h : i' = i
  · subst h; simp [State.entry, State.setEntry]
  · have : i.val ≠ i'.val := fun hv => h (Fin.ext hv.symm)
    simp [State.entry, State.setEntry, h, this]

@[simp] theorem State.setEntry_entry_same (i : EntryIx) (e : Entry) : (s.setEntry i e).entry i = e := by
  simp [State.setEntry_entry]

@[simp] theorem State.setEntry_slot (i : EntryIx) (e : Entry) (r : Rank) (b : Bank) (k : SlotNo) :
    (s.setEntry i e).slot r b k = s.slot r b k := rfl
@[simp] theorem State.setEntry_ctx (i : EntryIx) (e : Entry) (c : Ctx) : (s.setEntry i e).ctx c = s.ctx c := rfl
@[simp] theorem State.setEntry_record (i : EntryIx) (e : Entry) (r : Rank) (b : Bank) :
    (s.setEntry i e).record r b = s.record r b := rfl

theorem State.setSlot_slot (r r' : Rank) (b b' : Bank) (k k' : SlotNo) (x : SlotRecord) :
    (s.setSlot r b k x).slot r' b' k' = if r' = r ∧ b' = b ∧ k' = k then x else s.slot r' b' k' := by
  by_cases hr : r' = r
  · subst hr
    by_cases hb : b' = b
    · subst hb
      by_cases hk : k' = k
      · subst hk; simp [State.slot, State.setSlot]
      · have : k.val ≠ k'.val := fun hv => hk (Fin.ext hv.symm)
        simp [State.slot, State.setSlot, hk, this]
    · have : b.val ≠ b'.val := fun hv => hb (Fin.ext hv.symm)
      simp [State.slot, State.setSlot, hb, this]
  · have : r.val ≠ r'.val := fun hv => hr (Fin.ext hv.symm)
    simp [State.slot, State.setSlot, hr, this]

@[simp] theorem State.setSlot_entry (r : Rank) (b : Bank) (k : SlotNo) (x : SlotRecord) (i : EntryIx) :
    (s.setSlot r b k x).entry i = s.entry i := rfl
@[simp] theorem State.setSlot_ctx (r : Rank) (b : Bank) (k : SlotNo) (x : SlotRecord) (c : Ctx) :
    (s.setSlot r b k x).ctx c = s.ctx c := rfl
@[simp] theorem State.setSlot_record (r : Rank) (b : Bank) (k : SlotNo) (x : SlotRecord) (r' : Rank) (b' : Bank) :
    (s.setSlot r b k x).record r' b' = s.record r' b' := rfl

theorem State.setCtx_ctx (c c' : Ctx) (x : Context) : (s.setCtx c x).ctx c' = if c' = c then x else s.ctx c' := by
  by_cases h : c' = c
  · subst h; simp [State.ctx, State.setCtx]
  · have : c.val ≠ c'.val := fun hv => h (Fin.ext hv.symm)
    simp [State.ctx, State.setCtx, h, this]

@[simp] theorem State.setCtx_ctx_same (c : Ctx) (x : Context) : (s.setCtx c x).ctx c = x := by simp [State.setCtx_ctx]

@[simp] theorem State.setCtx_entry (c : Ctx) (x : Context) (i : EntryIx) : (s.setCtx c x).entry i = s.entry i := rfl
@[simp] theorem State.setCtx_slot (c : Ctx) (x : Context) (r : Rank) (b : Bank) (k : SlotNo) :
    (s.setCtx c x).slot r b k = s.slot r b k := rfl
@[simp] theorem State.setCtx_record (c : Ctx) (x : Context) (r : Rank) (b : Bank) :
    (s.setCtx c x).record r b = s.record r b := rfl

theorem State.setRecord_record (r r' : Rank) (b b' : Bank) (x : Option OpenRow) :
    (s.setRecord r b x).record r' b' = if r' = r ∧ b' = b then x else s.record r' b' := by
  by_cases hr : r' = r
  · subst hr
    by_cases hb : b' = b
    · subst hb; simp [State.record, State.setRecord]
    · have : b.val ≠ b'.val := fun hv => hb (Fin.ext hv.symm)
      simp [State.record, State.setRecord, hb, this]
  · have : r.val ≠ r'.val := fun hv => hr (Fin.ext hv.symm)
    simp [State.record, State.setRecord, hr, this]

theorem State.setCells_storeRecord (k k' : RecIx) (x : RecordCells) :
    (s.setCells k x).storeRecord k' = if k' = k then x.read else s.storeRecord k' := by
  by_cases h : k' = k
  · subst h; simp [State.storeRecord, State.setCells]
  · have : k.val ≠ k'.val := fun hv => h (Fin.ext hv.symm)
    simp [State.storeRecord, State.setCells, h, this]

/-! ## Searches -/

/-- The first index of a range that passes a test. -/
theorem find?_finRange_eq_some {n : Nat} (p : Fin n → Bool) (i : Fin n) :
    (List.finRange n).find? p = some i ↔ p i = true ∧ ∀ k, k < i → p k = false := by
  rw [List.find?_eq_some_iff_getElem]
  constructor
  · rintro ⟨hp, j, hj, rfl, h⟩
    refine ⟨hp, fun k hk => ?_⟩
    have hkj : k.val < j := by
      have := Fin.lt_def.1 hk
      simpa using this
    have := h k.val hkj
    simpa using this
  · rintro ⟨hp, h⟩
    refine ⟨hp, i.val, by simp, by simp, fun j hj => ?_⟩
    have := h ⟨j, hj.trans i.isLt⟩ hj
    simpa using this

theorem find?_finRange_eq_none {n : Nat} (p : Fin n → Bool) : (List.finRange n).find? p = none ↔ ∀ i, p i = false := by
  simp [List.find?_eq_none]

/-- R4: the lookup finds none exactly when no entry has the origin. -/
theorem State.lookup_eq_none (o : Origin) : s.lookup o = none ↔ s.holdsNo o := by
  simp [State.lookup, State.holdsNo]

/-- R4: an entry found has the origin. -/
theorem State.origin_of_lookup {s : State} {o : Origin} {i : EntryIx} (h : s.lookup o = some i) : (s.entry i).origin = some o := by
  have := ((find?_finRange_eq_some _ _).1 h).1
  simpa using this

/-- R8. -/
theorem State.lowestFreeEntry_eq_some (i : EntryIx) : s.lowestFreeEntry = some i ↔ s.nextEntry i := by
  simp [State.lowestFreeEntry, State.nextEntry, find?_finRange_eq_some]

/-- R8. -/
theorem State.lowestFreeEntry_eq_none : s.lowestFreeEntry = none ↔ ∀ i, s.entry i ≠ .free := by
  simp [State.lowestFreeEntry]

/-- R70. -/
theorem State.lowestIdleCtx_eq_some (c : Ctx) : s.lowestIdleCtx = some c ↔ s.nextContext c := by
  simp [State.lowestIdleCtx, State.nextContext, find?_finRange_eq_some]

/-- R70. -/
theorem State.lowestIdleCtx_eq_none : s.lowestIdleCtx = none ↔ ∀ c, (s.ctx c).isIdle = false := by
  simp [State.lowestIdleCtx]

/-- R32. -/
theorem State.lowestFreeSlot_eq_some (r : Rank) (b : Bank) (g : Grade) (k : SlotNo) :
    s.lowestFreeSlot r b g = some k ↔ s.slot r b k = ⟨.free, g⟩ ∧ ∀ k', k' < k → s.slot r b k' ≠ ⟨.free, g⟩ := by
  simp [State.lowestFreeSlot, find?_finRange_eq_some]

/-- R32. -/
theorem State.lowestFreeSlot_eq_none (r : Rank) (b : Bank) (g : Grade) :
    s.lowestFreeSlot r b g = none ↔ ∀ k, s.slot r b k ≠ ⟨.free, g⟩ := by
  simp [State.lowestFreeSlot]

/-- R32: the allocation grants slot `k`. -/
theorem State.allocate_eq_some (r : Rank) (b : Bank) (k : SlotNo) : s.allocate r b = some k ↔ s.grants r b k := by
  unfold State.allocate State.grants
  cases hg : s.lowestFreeSlot r b .good with
  | some i =>
    have hi := (s.lowestFreeSlot_eq_some r b .good i).1 hg
    constructor
    · intro h
      injection h with h
      subst h
      exact .inl hi
    · rintro (h | ⟨-, h, -⟩)
      · show some i = some k
        have := (s.lowestFreeSlot_eq_some r b .good k).2 h
        rw [hg] at this
        exact this
      · exact absurd hi.1 (h i)
  | none =>
    have hn := (s.lowestFreeSlot_eq_none r b .good).1 hg
    by_cases hu : s.runProfile.allowUntested = true
    · simp only [hu, if_true]
      rw [s.lowestFreeSlot_eq_some r b .untested k]
      exact ⟨fun h => .inr ⟨trivial, hn, h⟩, fun h => h.elim (fun h => absurd h.1 (hn k)) fun h => h.2.2⟩
    · simp only [hu]
      constructor
      · intro h; simp at h
      · rintro (h | ⟨h, -⟩)
        · exact absurd h.1 (hn k)
        · simp at h

/-- R32: the allocation refuses. -/
theorem State.allocate_eq_none (r : Rank) (b : Bank) : s.allocate r b = none ↔ s.refusesSlot r b := by
  unfold State.allocate State.refusesSlot
  cases hg : s.lowestFreeSlot r b .good with
  | some i =>
    have hi := (s.lowestFreeSlot_eq_some r b .good i).1 hg
    simp only [reduceCtorEq, false_iff]
    exact fun h => h.1 i hi.1
  | none =>
    have hn := (s.lowestFreeSlot_eq_none r b .good).1 hg
    by_cases hu : s.runProfile.allowUntested = true
    · simp only [hu, if_true, forall_const]
      rw [s.lowestFreeSlot_eq_none r b .untested]
      exact ⟨fun h => ⟨hn, h⟩, fun h => h.2⟩
    · simp [hu, hn]

/-! ## Messages -/

/-- R76, R114: with room in OUTBOUND a message is queued and starts the timer it starts. -/
theorem State.makeMsg_room (c : Ctx) (m : OutMsg) (h : s.sbl.outbound.length < 8) :
    s.makeMsg c m = (s.setCtx c ((s.ctx c).queued m)).setOutbound (s.sbl.outbound ++ [m]) := by
  have hr : s.outboundRoom = true := by simp [State.outboundRoom, Config.outboundCapacity, h]
  simp [State.makeMsg, hr, State.queueTail]

/-- R76, R114: without room it is held pending, and no timer starts. -/
theorem State.makeMsg_full (c : Ctx) (m : OutMsg) (h : ¬s.sbl.outbound.length < 8) :
    s.makeMsg c m = (s.setCtx c { s.ctx c with held := (s.ctx c).held ++ [⟨m, false⟩] }).setWaiting (s.sbl.waiting ++ [c]) := by
  have hr : s.outboundRoom = false := by
    exact decide_eq_false h
  simp [State.makeMsg, hr]

/-- R114: with nothing waiting, room that frees is left free. -/
theorem State.refill_of_waiting_nil (h : s.sbl.waiting = []) : s.refill = s := by
  simp [State.refill, h, State.refillUpTo]

/-- R74: with nothing queued a query takes no report. -/
theorem State.takeAllReports_nil (h : s.mge.reports = []) : s.takeAllReports = s := by
  have : s.setReports [] = s := by
    unfold State.setReports
    rw [← h]
  simp [State.takeAllReports, h, this, State.takeReports]

/-! ## Answers -/

/-- R182: the answer to the request in hand. -/
theorem State.answer_eq_decided {s : State} {h : InHand} (hh : s.port.inHand = some h) (st : Status) (p : Payload) :
    s.answer st p = s.decided h st p := by
  unfold State.answer State.compose State.decided
  rw [hh]
  by_cases hs : h.superseded = true <;> simp [hs, State.setInHand, State.setResponse]

/-- R184: the command of a request in hand is its owner's decision. -/
theorem State.takeRequest_inHand {s : State} {h : InHand} {q : Request} (hh : s.hasInHand h q) (f : State → State) :
    s.takeRequest q f = f s := by
  obtain ⟨hp, hi, hq, hw⟩ := hh
  have ha : s.port.awaits q = true := by simp [Port.awaits, hi, hq, hw]
  simp [State.takeRequest, hp, ha]

end Sys2Proof.Machine
end

