-- ==== Sys2Proof/WellFormed.lean ====
section
/-!
DEFINITION. Which commands are well formed. Most operand ranges are in the types; what is left are the ranges that the
spec gives to a command as a whole.
-/

namespace Sys2Proof

/-- A command is well formed when it can arise on the part:
* an error note that reaches the Watch List has a REPEAT of 1..255 (R101, R123);
* a sideband frame is received whole, so it has bytes (R109);
* a write transaction that carries no bytes is not a frame (R181). -/
def wellFormed : Instr → Bool
  | .errorNote n => n.rep != 0
  | .inboundFrame bytes => !bytes.isEmpty
  | .requestFrame bytes => !bytes.isEmpty
  | _ => true

end Sys2Proof
end

