-- ==== Sys2Proof/Tests/Slice0.lean ====
section
/-!
SUPPORT. The model's own tests. Each `test_` theorem checks one step, or one format, against a value read from the spec. Each
`witness_` theorem shows a state and operands that meet the hypotheses of one obligation, clause by clause.
-/

namespace Sys2Proof.Tests

-- The kernel runs these tests one after another, so that their memory does not add up.
set_option Elab.async false

open Sys2Proof.Machine

/-! ## Small states -/

/-- Two ranks and w = 14: N is 16384, the data rows are 0..16367, and slot k is row 16368+k. -/
def geo : Geometry := ⟨.two, .w14⟩

/-- A part that is ACTIVE with the link UP. -/
def live : State := { State.reset with mode := .active geo, ready := true, sbl := { Link.reset with state := .up } }

/-- The highest data row of bank 15 of rank 1. -/
def home : Origin := ⟨1, 15, 16367⟩

/-- A first repair of `home` into slot 15, in round 1. -/
def job : Job :=
  { direction := .first, entry := 95, origin := home, destSlot := 15, round := 1, ordered := BitVec.allOnes 32, copied := 0,
    dirty := 0, fenced := .no, captured := ⟨3, 20, 500, 10⟩ }

/-- `job` with every block copied. -/
def cleanJob : Job := { job with copied := BitVec.allOnes 32 }

/-- Context 3 holds a migration, with its entry, slot and timer. -/
def busy (st : BusyState) (j : Job) (s : State) : State :=
  ((s.setEntry j.entry (.forming j.origin j.destSlot 3)).setSlot j.origin.rank j.origin.bank j.destSlot
    ⟨.target j.entry, .good⟩).setCtx 3 ⟨.busy st j, none, [], some 5⟩

/-- The link has passed on a reply for context 3. -/
def replied (round : RoundField) (b : ReplyBody) (s : State) : State :=
  { s with mge := { s.mge with replies := [⟨3, round, b⟩] } }

/-- The link has passed on an error note. -/
def noted (n : ErrorNote) (s : State) : State := { s with wls := { s.wls with notes := [n] } }

/-- A request is in hand with tag 07h. -/
def asked (q : Request) (s : State) : State :=
  { s with port := { s.port with inHand := some ⟨q, 7, false⟩, response := .inProgress } }

/-- What `asked` puts in hand. -/
def hand (q : Request) : InHand := ⟨q, 7, false⟩

/-- Bank 15 of rank 1 is open. -/
def opened (x : OpenRow) (s : State) : State := s.setRecord 1 15 (some x)

/-- The source of context 3 is open. -/
def openSource (s : State) : State := opened ⟨16367, 16367, .source 3⟩ s

/-- A report waits. -/
def reported (x : Report) (s : State) : State := { s with mge := { s.mge with reports := [x] } }

/-- A soft repair of `home` in slot 14, at entry 95. -/
def repaired (moves : Nat) (staged : Option RecIx) (s : State) : State :=
  (s.setEntry 95 (.live home 14 moves staged)).setSlot 1 15 14 ⟨.mapped 95, .good⟩

/-- The lowest entry holds a repair, so that entry 1 is the lowest FREE one. -/
def spare (k : SlotNo) (x : SlotRecord) (s : State) : State := s.setSlot 1 15 k x

/-- A watch item. -/
def item (k : Key) (score : Nat) (nominated : Bool) : WatchItem := ⟨k, score, 1, .corrected, nominated, none, none, 0⟩

/-- The state after a command. -/
def after (c : Instr) (s : State) : State :=
  match exec c s with
  | .next t => t
  | .fault _ => s
  | .refused _ => s

/-! ## Well-formedness -/

/-- R101: a REPEAT of 0 is no error note. -/
theorem test_wellFormed_refuses_repeat_zero :
    wellFormed (.errorNote ⟨0, 0, 0, 0, .corrected, 0⟩) = false ∧ wellFormed (.errorNote ⟨0, 0, 0, 0, .corrected, 1⟩) = true := by
  decide +kernel

/-- R109: a frame is received whole. -/
theorem test_wellFormed_refuses_empty_inbound_frame :
    wellFormed (.inboundFrame []) = false ∧ wellFormed (.inboundFrame [0]) = true := by decide +kernel

/-- R181: a write transaction without bytes is not a frame. -/
theorem test_wellFormed_refuses_empty_request_frame :
    wellFormed (.requestFrame []) = false ∧ wellFormed (.requestFrame [0]) = true := by decide +kernel

/-! ## Formats (chapter 11) -/

/-- R194's example: the check byte of 01h 02h 03h 04h 05h is 0Eh. -/
theorem test_check_byte : checkByte [1, 2, 3, 4, 5] = 0x0E#8 := by decide +kernel

/-- Section 11.3's example: the frame of COPY_ORDER(1, 2) of rank 0, bank 3, row 700, slot 8, blocks 5 and 20. -/
theorem test_copy_order_frame :
    (OutMsg.copyOrder 1 2 ⟨0, 3, 700⟩ 8 (BitVec.twoPow 32 5 ||| BitVec.twoPow 32 20)).frame.take 13 =
      [0x41, 0x42, 0x0A, 0x00, 0x03, 0x00, 0x02, 0xBC, 0x08, 0x00, 0x10, 0x00, 0x20] := by decide +kernel

/-- Section 11.3: an ERROR_NOTE of rank 1, bank 15, row 010203h, column 127, UNCORRECTED, seen twice. -/
theorem test_error_note_frame :
    parseSideband (withCheck [0x10, 0x00, 0x08, 0x01, 0x0F, 0x01, 0x02, 0x03, 0x7F, 0x02, 0x02]) =
      some (.errorNote ⟨1, 15, 0x010203, 127, .uncorrected, 2⟩) := by decide +kernel

/-- Section 11.3: a FENCE_ACK(2, 7, RELEASE): context in bits 7..6, round in bits 5..0. -/
theorem test_fence_ack_frame :
    parseSideband (withCheck [0x31, 0x87, 0x01, 0x02]) = some (.reply ⟨2, 7, .fenceAck .release⟩) := by decide +kernel

/-- R109: the four ways a frame is bad. -/
theorem test_bad_frames :
    parseSideband [0x23, 0x41, 0x00, checkByte [0x23, 0x41, 0x00] ^^^ 1] = none ∧
    parseSideband (withCheck [0x41, 0x41, 0x00]) = none ∧
    parseSideband (withCheck [0x22, 0x41, 0x02, 0x01]) = none ∧
    parseSideband (withCheck [0x22, 0x41, 0x01, 0x03]) = none := by decide +kernel

/-- Section 11.4: REPAIR of rank 1, bank 15, row 010203h, code 09h. -/
theorem test_request_frame :
    frameCheck (withCheck [0x09, 0x09, 0x2A, 0x01, 0x0F, 0x01, 0x02, 0x03]) = .request (.repair 1 15 0x010203) ∧
    frameTag (withCheck [0x09, 0x09, 0x2A, 0x01, 0x0F, 0x01, 0x02, 0x03]) = 0x2A#8 := by decide +kernel

/-- Section 11.4: one request of each family, from its code and operands. -/
theorem test_request_codes :
    requestOf 0x01 [95] = some (.tableRead 95) ∧ requestOf 0x06 [1, 15, 2, 1] = some (.slotTestEnd 1 15 2 1) ∧
    requestOf 0x0B [3] = some (.cancel 3) ∧ requestOf 0x0D [0, 1, 0, 2, 3, 15] = some (.watchClear 0 1 0x000203 15) ∧
    requestOf 0x10 [11, 1, 4] = some (.profileWrite 11 0x0104) ∧ requestOf 0x12 [2, 17] = some (.configure 2 17) ∧
    requestOf 0x15 [39] = some (.revoke 39) ∧ requestOf 0x1B [0, 0, 2, 1] = some (.conditionClear 0x00000201) ∧
    requestOf 0x1D [] = some .warmReset ∧ requestOf 0x1E [] = none ∧ requestOf 0x14 [0] = none := by decide +kernel

/-- R195: what is read when nothing was answered, beyond the image, and while a request is in hand. -/
theorem test_response_images :
    Port.reset.responseImage = withCheck [0x00, 0x00] ∧ Port.reset.responseByte 1 = 0x00#8 ∧ Port.reset.responseByte 3 = 0xFF#8 ∧
    (asked .burn live).port.responseImage = withCheck [0x07, 0xFF] := by
  decide +kernel

/-- Section 11.5, R196: the image of rank 1, bank 4, row 900, slot 3, and what marks make of it. -/
theorem test_record_image :
    (recordImage ⟨1, 4, 900⟩ 3).writeMark = 0xA5#8 ∧ (recordImage ⟨1, 4, 900⟩ 3).rankBank = 0x14#8 ∧
    (recordImage ⟨1, 4, 900⟩ 3).read = .written ⟨1, 4, 900⟩ 3 ∧
    ({ recordImage ⟨1, 4, 900⟩ 3 with revokeMark := 0x5A#8 } : RecordCells).read = .revoked ⟨1, 4, 900⟩ 3 ∧
    ({ recordImage ⟨1, 4, 900⟩ 3 with revokeMark := 0x50#8 } : RecordCells).read = .torn ∧ RecordCells.blank.read = .blank := by
  decide +kernel

/-! ## One step each -/

/-- R26, R51: at w = 14 an ACTIVATE on a FREE slot's alias row goes to row 16368. -/
theorem test_activate_sinks_a_free_spare :
    (after (.activate 1 15 16383) live).ctr.downstream = some (.activate 1 15 16368) ∧
    (after (.activate 1 15 16383) live).ctr.aliasCount = 1 := by decide +kernel

/-- R46: the row bits above w are driven to 0. -/
theorem test_activate_drops_high_bits :
    (after (.activate 1 15 (16384 * 3 + 7)) live).ctr.downstream = some (.activate 1 15 7) := by decide +kernel

/-- R50: a LIVE entry redirects to row N−16+SLOT. -/
theorem test_activate_redirects :
    (after (.activate 1 15 16367) (repaired 0 none live)).ctr.downstream = some (.activate 1 15 16382) := by decide +kernel

/-- R54, R55: columns 36..39 fall in block 9. -/
theorem test_write_reports_its_block :
    (after (.write 1 15 39) (openSource live)).mge.reports = [.sourceWrite 3 1 15 16367 9] := by decide +kernel

/-- R57: PRECHARGE closes an OPEN bank and reports it. -/
theorem test_precharge_closes :
    (after (.precharge 1 15) (openSource live)).record 1 15 = none ∧
    (after (.precharge 1 15) (openSource live)).rmt.closes = [⟨1, 15, 16367⟩] := by decide +kernel

/-- R127, R131: an uncorrected note seen twice weighs 1023 and nominates at the default threshold. -/
theorem test_note_nominates :
    ((after (.errorNote ⟨1, 15, 16367, 127, .uncorrected, 2⟩) live).wls.items.map fun i => (i.score, i.nominated)) =
      [(1023, true)] ∧
    (after (.errorNote ⟨1, 15, 16367, 127, .uncorrected, 2⟩) live).pol.nominations = [⟨home, .origin⟩] := by decide +kernel

/-- R110: the fourth bad frame takes the link to GREETING with LINK_FAULT. -/
theorem test_fourth_bad_frame :
    (after .badFrame { live with sbl := { live.sbl with badRun := 3 } }).sbl.state = .greeting ∧
    (after .badFrame { live with sbl := { live.sbl with badRun := 3 } }).sbl.outbound = [.hello] := by decide +kernel

/-- R89: a refused round makes a CANCEL_ORDER and leaves the context IDLE. -/
theorem test_refusal_aborts :
    (after (.copyRefuse 3 1 .busy) (replied 1 (.copyRefuse .busy) (busy .offering job live))).sbl.outbound = [.cancelOrder 3 1] ∧
    (after (.copyRefuse 3 1 .busy) (replied 1 (.copyRefuse .busy) (busy .offering job live))).entry 95 = .free := by
  decide +kernel

/-- R79, R85: a clean round with the source closed cuts over. -/
theorem test_clean_round_cuts_over :
    (after (.copyDone 3 1) (replied 1 .copyDone (busy .copying cleanJob live))).entry 95 = .live home 15 0 none ∧
    (after (.copyDone 3 1) (replied 1 .copyDone (busy .copying cleanJob live))).rmt.generation = 1 := by decide +kernel

/-- R72, R80: an unclean round orders what is missing in the next. -/
theorem test_unclean_round_goes_on :
    (after (.copyDone 3 1) (replied 1 .copyDone (busy .copying { cleanJob with dirty := 0x10 } live))).sbl.outbound =
      [.copyOrder 3 2 home 15 0x10] := by decide +kernel

/-- R91: a reply of another round is stale. -/
theorem test_stale_reply :
    (after (.copyDone 3 2) (replied 2 .copyDone (busy .copying cleanJob live))).sbl.outbound = [.staleNote 3 2 .copyDone] := by
  decide +kernel

/-- R32: a bank of UNTESTED spares grants nothing under the default profile; a GOOD one is granted. -/
theorem test_repair_needs_a_good_slot :
    (after (.repair 1 15 16367) (asked (.repair 1 15 16367) live)).port.response = .composed 7 .noSlot .none ∧
    (after (.repair 1 15 16367) (asked (.repair 1 15 16367) (spare 15 ⟨.free, .good⟩ live))).port.response =
      .composed 7 .ok (.launched 0) := by decide +kernel

/-- R14: a release with the spare row open waits for its close. -/
theorem test_release_retires :
    (after (.release 95) (asked (.release 95) (opened ⟨16367, 16382, .plain⟩ (repaired 0 none live)))).entry 95 =
      .retiring home 14 0 := by decide +kernel

/-- R39: a PASS is overruled by a fault seen. -/
theorem test_pass_is_overruled :
    (after (.slotTestEnd 1 15 2 1) (asked (.slotTestEnd 1 15 2 1) (spare 2 ⟨.testing true, .untested⟩ live))).slot 1 15 2 =
      ⟨.free, .bad⟩ := by decide +kernel

/-- R163: a BURN in PROBATION is EARLY. -/
theorem test_burn_is_early :
    (after .burn (asked .burn ((repaired 0 (some 0) live).setStage (.probation 95 0 1 9901)))).port.response =
      .composed 7 .early .none := by decide +kernel

/-- R183: a frame met by a request in hand is answered BUSY. -/
theorem test_second_frame_is_busy :
    (after (.requestFrame (withCheck [0x04, 0x1A, 0x02])) (asked (.release 7) live)).port.response =
      .composed 2 .busy .none := by decide +kernel

/-- R177: a CONFIGURE with w = 18 is BAD_ARGUMENT, with w = 17 it is taken. -/
theorem test_configure_range :
    (after (.configure 1 18) (asked (.configure 1 18) { live with mode := .unconfigured })).port.response =
      .composed 7 .badArgument .none ∧
    (after (.configure 1 17) (asked (.configure 1 17) { live with mode := .unconfigured })).mode = .active ⟨.one, .w17⟩ := by
  decide +kernel

/-- R174: an unburned part leaves LOADING for UNCONFIGURED, with READY high and a HELLO queued. -/
theorem test_load_complete :
    (after .loadComplete State.reset).mode = .unconfigured ∧ (after .loadComplete State.reset).ready = true ∧
    (after .loadComplete State.reset).sbl.outbound = [.hello] := by decide +kernel

/-! ## Witnesses of the obligations' hypotheses -/

/-- A part held by the power-on reset input. -/
def held : State := { State.reset with powerHeld := true }

/-- A part waiting for CONFIGURE. -/
def waiting : State := { live with mode := .unconfigured }

/-- A record of the store holds an image. -/
def burned (k : RecIx) (x : RecordCells) (s : State) : State := s.setCells k x

/-- The geometry area holds an image. -/
def area (x : GeometryCells) (s : State) : State := s.setGeometryCells x

/-- The burn engine is busy. -/
def burning (x : Operation) (s : State) : State := { s with rst := { s.rst with operation := some x } }

/-- The store is locked. -/
def locked (s : State) : State := { s with rst := { s.rst with lock := true } }

/-- A key waits in both of the Policy Unit's queues. -/
def turn (k : Key) (s : State) : State := { s with pol := { s.pol with nominations := [k], passOrder := [k] } }

/-- Items are watched. -/
def watched (l : List WatchItem) (s : State) : State := s.setItems l

/-- A warm reset has been handed to its owners. -/
def warming (s : State) : State :=
  let t := asked .warmReset s
  { t with port := { t.port with warmParts := allWarmParts } }

/-- Four busy contexts. -/
def allBusy (s : State) : State :=
  { s with mge := { s.mge with contexts := Vector.replicate 4 ⟨.busy .copying job, none, [], some 5⟩ } }

/-- The link is GREETING. -/
def greeting (s : State) : State := s.enterGreeting

theorem witness_IdleStepPassesOneMs : live.pending = [] ∧ live.powerHeld = false ∧ held.pending = [] ∧ held.powerHeld = true :=
  ⟨rfl, rfl, rfl, rfl⟩

theorem witness_QueueIsTheSenders : exec .channelReset live = .next (after .channelReset live) := rfl

theorem witness_StepKeepsOutputs :
    live.AlertFollows ∧ live.ReadyFollows ∧ step { live with pending := [.channelReset] } = .next (after .channelReset live) :=
  ⟨rfl, ⟨rfl, nofun⟩, rfl⟩

theorem witness_StepKeepsQueuesBounded :
    live.QueuesBounded ∧ step { live with pending := [.channelReset] } = .next (after .channelReset live) :=
  ⟨by unfold State.QueuesBounded; decide +kernel, rfl⟩

theorem witness_StepKeepsMovesBounded : (repaired 3 none live).MovesBounded ∧
    step { repaired 3 none live with pending := [.channelReset] } = .next (after .channelReset (repaired 3 none live)) := by
  refine ⟨fun i => ?_, rfl⟩
  by_cases h : i = 95
  · subst h
    show Entry.MovesBounded (.live home 14 3 none)
    simp [Entry.MovesBounded]
  · have : (repaired 3 none live).entry i = .free := by revert h; revert i; decide +kernel
    rw [this]
    trivial

theorem witness_StepKeepsSink :
    live.SinkKept ∧ step { live with pending := [.channelReset] } = .next (after .channelReset live) := by
  refine ⟨⟨by decide +kernel, by decide +kernel, fun c st j h => ?_, nofun⟩, rfl⟩
  have idle : ∀ c, (live.ctx c).body = .idle none := by decide +kernel
  rw [idle] at h
  cases h

theorem witness_StepKeepsOriginsUnique :
    live.OriginsUnique ∧ step { live with pending := [.channelReset] } = .next (after .channelReset live) := by
  refine ⟨⟨fun i k o h => ?_, nofun⟩, rfl⟩
  have free : ∀ i, live.entry i = .free := by decide +kernel
  rw [free] at h
  cases h

theorem witness_StepKeepsStoreSound :
    live.StoreSound ∧ step { live with pending := [.channelReset] } = .next (after .channelReset live) :=
  ⟨⟨nofun, nofun, nofun, nofun, nofun⟩, rfl⟩

/-- Context 3 copies for entry 95, with an item watched. -/
def copying : State := watched [item ⟨home, .origin⟩ 1023 true] (busy .copying job live)

theorem copying_bodies (c : Ctx) (st : BusyState) (j : Job) (h : (copying.ctx c).body = .busy st j) :
    c = 3 ∧ st = .copying ∧ j = job := by
  have others : ∀ d, d ≠ (3 : Ctx) → (copying.ctx d).body = .idle none := by decide +kernel
  have third : (copying.ctx 3).body = .busy .copying job := by decide +kernel
  by_cases hc : c = 3
  · subst hc
    rw [third] at h
    cases h
    exact ⟨rfl, rfl, rfl⟩
  · rw [others c hc] at h
    cases h

theorem copying_tablesTied : copying.TablesTied := by
  have active : (copying.ctx 3).activeJob = some job := by decide +kernel
  have entry : copying.entry 95 = .forming home 15 3 := by decide +kernel
  have slot : (copying.slot 1 15 15).state = .target 95 := by decide +kernel
  refine ⟨fun h => absurd rfl (h geo), fun i => ?_, fun r b k => ?_, fun c j h => ?_, nofun, nofun, nofun⟩
  · by_cases hi : i = 95
    · subst hi
      rw [entry]
      exact ⟨slot, job, active, rfl, rfl, rfl, rfl⟩
    · have : copying.entry i = .free := by revert hi; revert i; decide +kernel
      rw [this]
      trivial
  · by_cases hk : (r, b, k) = (1, 15, 15)
    · cases hk
      rw [slot]
      exact ⟨home, by rw [entry]; rfl, rfl, rfl, by rw [entry]; rfl⟩
    · have : (copying.slot r b k).state = .sink ∨ (copying.slot r b k).state = .free := by
        revert hk; revert r b k; decide +kernel
      rcases this with h | h <;> rw [h] <;> trivial
  · by_cases hc : c = 3
    · subst hc
      rw [active] at h
      cases h
      exact .inl ⟨rfl, entry⟩
    · have others : ∀ d, d ≠ (3 : Ctx) → (copying.ctx d).activeJob = none := by decide +kernel
      rw [others c hc] at h
      cases h

theorem witness_StepKeepsMigrationsTied :
    step { copying with pending := [.channelReset] } = .next (after .channelReset copying) ∧
    copying.KeysUnique ∧ copying.RoundsBounded ∧ copying.LinkQuiet ∧ copying.TablesTied := by
  refine ⟨rfl, by unfold State.KeysUnique; decide +kernel, ⟨by decide +kernel, fun c st j h => ?_⟩,
    ⟨by decide +kernel, fun h => absurd rfl (h geo), fun h => absurd rfl h⟩, copying_tablesTied⟩
  obtain ⟨-, rfl, rfl⟩ := copying_bodies c st j h
  exact ⟨by decide, by decide, by decide, by decide, by decide, nofun⟩

theorem witness_ReadyAndModeMoveForward :
    State.reset.powerHeld = false ∧ State.reset.mode = .loading ∧ exec .channelReset live = .next (after .channelReset live) ∧
    live.mode = .active geo ∧ waiting.mode = .unconfigured ∧ exec .channelReset waiting = .next (after .channelReset waiting) ∧
    held.powerHeld = true :=
  ⟨rfl, rfl, rfl, rfl, rfl, rfl, rfl⟩

theorem witness_LockHolds :
    (locked live).rst.lock = true ∧ (locked live).rst.operation = none ∧
    exec (.burnComplete true) (locked live) = .next (after (.burnComplete true) (locked live)) ∧
    exec .channelReset (locked live) = .next (after .channelReset (locked live)) := ⟨rfl, rfl, rfl, rfl⟩

theorem witness_RecordsNeverReturnToBlank :
    (burned 39 (recordImage home 15) live).StoreSound ∧ (burned 39 (recordImage home 15) live).storeRecord 39 ≠ .blank ∧
    exec .powerOn (burned 39 (recordImage home 15) live) = .next (after .powerOn (burned 39 (recordImage home 15) live)) :=
  ⟨⟨nofun, nofun, nofun, nofun, nofun⟩, by decide +kernel, rfl⟩

theorem witness_ProfilesChangeOnlyWhereWritten : exec .channelReset live = .next (after .channelReset live) := rfl

theorem witness_RefusalsChangeNothing :
    (asked (.release 95) live).hasInHand (hand (.release 95)) (.release 95) ∧ (hand (.release 95)).superseded = false ∧
    exec (.release 95) (asked (.release 95) live) = .next (after (.release 95) (asked (.release 95) live)) ∧
    (after (.release 95) (asked (.release 95) live)).port.response = .composed 7 .notFound .none :=
  ⟨⟨rfl, rfl, rfl, rfl⟩, rfl, rfl, by decide +kernel⟩

theorem witness_RequestsWaitForTheirMode :
    (asked .warmReset State.reset).hasInHand (hand .warmReset) .warmReset ∧ State.reset.mode = .loading ∧
    (asked (.revoke 0) waiting).hasInHand (hand (.revoke 0)) (.revoke 0) ∧ (asked (.revoke 0) waiting).mode = .unconfigured :=
  ⟨⟨rfl, rfl, rfl, rfl⟩, rfl, ⟨rfl, rfl, rfl, rfl⟩, rfl⟩

theorem witness_RequestNotInHand :
    live.powerHeld = false ∧ live.port.inHand = none ∧ live.port.warmParts = [] ∧
    (asked .burn live).port.inHand = some (hand .burn) ∧ (hand .burn).request ≠ .lockStore ∧
    (warming live).port.inHand = some (hand .warmReset) ∧ (warming live).port.warmParts ≠ [] :=
  ⟨rfl, rfl, rfl, rfl, by decide, rfl, by decide⟩

theorem witness_PowerEventsResetTheBlocks : live.rst.operation = none ∧ held.powerHeld = true := ⟨rfl, rfl⟩

theorem witness_CutShortKeepsTheOrder :
    (burning (.burn 39 95 home 15) live).rst.operation = some (.burn 39 95 home 15) ∧
    (burning (.revoke 39) live).rst.operation = some (.revoke 39) ∧
    (burning (.geometry geo) live).rst.operation = some (.geometry geo) ∧ (burning (.geometry geo) live).powerHeld = false :=
  ⟨rfl, rfl, rfl, rfl⟩

theorem witness_LoadCompleteEndsLoading :
    State.reset.powerHeld = false ∧ State.reset.mode = .loading ∧ State.reset.rst.geometryCells.read = .blank ∧
    (area ⟨0xA5, 1, 14, 0⟩ State.reset).rst.geometryCells.read = .torn ∧
    (area (geometryImage geo) State.reset).rst.geometryCells.read = .written geo :=
  ⟨rfl, rfl, by decide +kernel, by decide +kernel, by decide +kernel⟩

/-- Records 0 and 39 hold the same origin, in slots 15 and 14. -/
def twoRecords : State := burned 39 (recordImage home 14) (burned 0 (recordImage home 15) State.reset)

theorem witness_LoadDecidesEveryRecord :
    (∀ i, State.reset.entry i = .free) ∧ (∀ k : RecIx, State.reset.rst.loadResults[k] = none) ∧
    State.reset.storeRecord 0 = .blank ∧ (burned 39 (recordImage home 15) State.reset).storeRecord 39 = .written home 15 ∧
    (burned 39 { recordImage home 15 with revokeMark := 0x5A } State.reset).storeRecord 39 = .revoked home 15 ∧
    (burned 39 { recordImage home 15 with revokeMark := 0x01 } State.reset).storeRecord 39 = .torn := by
  decide +kernel

theorem twoRecords_loaded (k : RecIx) : (twoRecords.load geo).state.loadedAt k = decide (k = 0) := by
  revert k
  decide +kernel

theorem witness_LoadDecidesEveryRecord_checks :
    twoRecords.passesLoad (twoRecords.load geo).state geo 0 home 15 ∧
    ¬twoRecords.passesLoad (twoRecords.load geo).state geo 39 home 14 := by
  refine ⟨⟨by decide, by decide, by decide, fun _ _ _ h => absurd h (by simp)⟩, fun h => ?_⟩
  have first : twoRecords.storeRecord 0 = .written home 15 := by decide +kernel
  exact (h.2.2.2 0 home 15 (by decide) (by rw [twoRecords_loaded]; rfl) first).1 rfl

theorem witness_CommandsPassThrough :
    busCommand (.activate 1 15 7) = some (.activate 1 15 7) ∧ busCommand (.otherCommand 7) = some (.other 7) ∧ held.powerHeld = true ∧ waiting.mode = .unconfigured ∧ (live.setResetLine true).ctr.resetLine = true ∧
    live.mode ≠ .loading ∧ State.reset.mode = .loading ∧ ({ live with mode := .active ⟨.one, .w17⟩ } : State).mode = .active ⟨.one, .w17⟩ :=
  ⟨rfl, rfl, rfl, rfl, rfl, by decide, rfl, rfl⟩

theorem translates_live : live.translates 1 geo := ⟨rfl, rfl, rfl, by decide⟩

theorem witness_ActivateTranslatesDataRows :
    live.translates 1 geo ∧ 16367 % geo.n < geo.dataRows ∧ live.record 1 15 = none ∧
    (repaired 0 none live).translates 1 geo ∧ (repaired 0 none live).lookup home = some 95 :=
  ⟨translates_live, by decide +kernel, by decide +kernel, ⟨rfl, rfl, rfl, by decide⟩, by decide +kernel⟩

theorem witness_ActivateObeysTheAliasRule :
    live.translates 1 geo ∧ 16383 % geo.n = geo.n - 16 + (15 : SlotNo).val ∧ live.record 1 15 = none ∧
    ((spare 15 ⟨.testing false, .bad⟩ live).slot 1 15 15).state = .testing false ∧
    ((busy .offering job live).slot 1 15 15).state = .target 95 ∧ ((busy .offering job live).entry 95).context = some 3 ∧
    (live.slot 1 15 0).state = .sink ∧ (live.slot 1 15 15).state = .free ∧
    ((repaired 0 none live).slot 1 15 14).state = .mapped 95 :=
  ⟨translates_live, by decide +kernel⟩

/-- A RETIRING entry whose spare row is open. -/
def retiringOpen : State := opened ⟨16367, 16382, .plain⟩ (live.setEntry 95 (.retiring home 14 3))

theorem witness_ActivateClosesAnOpenBankFirst :
    retiringOpen.translates 1 geo ∧ retiringOpen.record 1 15 = some ⟨16367, 16382, .plain⟩ ∧
    retiringOpen.mge.reports.length < 32 ∧ retiringOpen.rmt.closes = [] ∧ retiringOpen.entry 95 = .retiring home 14 3 ∧
    16382 = geo.n - 16 + (14 : SlotNo).val ∧ retiringOpen.OriginsUnique ∧
    (∀ i o k m, retiringOpen.entry i = .retiring o k m → i = 95) ∧ home.row = 16367 % geo.n ∧ home.row < geo.dataRows := by
  have other : ∀ i, i ≠ 95 → retiringOpen.entry i = .free := by decide +kernel
  refine ⟨⟨rfl, rfl, rfl, by decide⟩, by decide +kernel, by decide +kernel, rfl, by decide +kernel, by decide +kernel,
    ⟨fun i k o hi hk => ?_, nofun⟩, fun i o k m h => ?_, by decide +kernel, by decide +kernel⟩
  · by_contra hne
    rcases Classical.em (i = 95) with rfl | h
    · rw [other k (fun h => hne h.symm)] at hk
      cases hk
    · rw [other i h] at hi
      cases hi
  · by_contra hne
    rw [other i hne] at h
    cases h

/-- The report queue is full of reports that no context awaits. -/
def crowded (s : State) : State := { s with mge := { s.mge with reports := List.replicate 32 (.destWrite 0 1 15 1 31) } }

theorem test_full_report_queue :
    (after (.write 1 15 124) (crowded (openSource live))).mge.reports =
      List.replicate 31 (.destWrite 0 1 15 1 31) ++ [.sourceWrite 3 1 15 16367 31] := by decide +kernel

/-- Bank 15 of rank 1 is open as the source of context 3, and its slot 15 holds a record. -/
def openOver (x : SlotRecord) : State := openSource (spare 15 x (live.setEntry 95 (.forming home 15 3)))

theorem witness_ActivateClosesAnOpenBankFirst_alias :
    (openOver ⟨.target 95, .good⟩).translates 1 geo ∧ 16383 % geo.n = geo.n - 16 + (15 : SlotNo).val ∧
    ((openOver ⟨.target 95, .good⟩).entry 95).context = some 3 ∧ (∀ i, (openSource live).entry i = .free) ∧
    ∀ x ∈ [SlotRecord.mk (.testing true) .bad, ⟨.target 95, .good⟩, ⟨.free, .good⟩],
      (openOver x).record 1 15 = some ⟨16367, 16367, .source 3⟩ ∧ (openOver x).mge.reports.length < 32 ∧
      (openOver x).rmt.closes = [] ∧ (openOver x).slot 1 15 15 = x :=
  ⟨⟨rfl, rfl, rfl, by decide⟩, by decide +kernel⟩

theorem test_reopening_follows_the_alias_rule :
    (after (.activate 1 15 16383) (openOver ⟨.free, .good⟩)).record 1 15 = some ⟨16383, 16368, .sunk⟩ ∧
    (after (.activate 1 15 16383) (openOver ⟨.free, .good⟩)).ctr.aliasCount = 1 := by decide +kernel

theorem witness_WritesAreReportedByRole :
    (openSource live).translates 1 geo ∧ (openSource live).mge.reports.length < 32 ∧
    (openSource live).record 1 15 = some ⟨16367, 16367, .source 3⟩ ∧
    (opened ⟨16383, 16383, .dest 3⟩ live).record 1 15 = some ⟨16383, 16383, .dest 3⟩ ∧ live.record 1 15 = none ∧
    (crowded (openSource live)).mge.reports = .destWrite 0 1 15 1 31 :: List.replicate 31 (.destWrite 0 1 15 1 31) ∧
    32 ≤ (crowded (openSource live)).mge.reports.length ∧
    (crowded (openSource live)).record 1 15 = some ⟨16367, 16367, .source 3⟩ ∧
    (crowded (opened ⟨16383, 16383, .dest 3⟩ live)).record 1 15 = some ⟨16383, 16383, .dest 3⟩ ∧
    (crowded (opened ⟨16383, 16368, .sunk⟩ live)).record 1 15 = some ⟨16383, 16368, .sunk⟩ :=
  ⟨⟨rfl, rfl, rfl, by decide⟩, by decide +kernel⟩

theorem witness_BankClosesAreReported :
    (openSource live).translates 1 geo ∧ (openSource live).mge.reports.length < 31 ∧
    (openSource live).record 1 15 = some ⟨16367, 16367, .source 3⟩ ∧
    (opened ⟨16383, 16383, .dest 3⟩ live).record 1 15 = some ⟨16383, 16383, .dest 3⟩ ∧
    (opened ⟨16383, 16368, .sunk⟩ live).record 1 15 = some ⟨16383, 16368, .sunk⟩ ∧ live.record 1 15 = none :=
  ⟨⟨rfl, rfl, rfl, by decide⟩, by decide +kernel⟩

theorem witness_RankClosesEveryOpenBank :
    (openSource live).translates 1 geo ∧ (openSource live).record 1 15 ≠ none ∧
    (openSource live).mge.reports.length + ((List.finRange 16).filterMap ((openSource live).record 1)).length ≤ 32 :=
  ⟨⟨rfl, rfl, rfl, by decide⟩, by decide +kernel⟩

theorem witness_ChannelResetClosesTheRecords :
    live.mode = .active geo ∧ live.powerHeld = false ∧ live.ctr.resetLine = false ∧ (∀ g, waiting.mode ≠ .active g) :=
  ⟨rfl, rfl, rfl, nofun⟩

/-- The head report is a source write of block 31 of `home`. -/
def wrote (s : State) : State := reported (.sourceWrite 3 1 15 16367 31) s

/-- `cleanJob` in its last round without a fence. -/
def lastRound : Job := { cleanJob with captured := ⟨1, 20, 500, 10⟩ }

theorem witness_SourceWritesSpoilTheCopy :
    (wrote (busy .offering job live)).mge.reports = [.sourceWrite 3 1 15 16367 31] ∧
    ((wrote (busy .offering job live)).ctx 3).body = .busy .offering job ∧ job.origin = ⟨1, 15, 16367⟩ ∧
    job.fenced ≠ .held ∧ ((wrote (busy .armed cleanJob live)).ctx 3).body = .busy .armed cleanJob ∧ cleanJob.fenced = .no ∧
    cleanJob.round < cleanJob.captured.maxRounds ∧ (wrote (busy .armed cleanJob live)).sbl.outbound.length < 8 ∧
    ((wrote (busy .armed lastRound live)).ctx 3).body = .busy .armed lastRound ∧
    lastRound.captured.maxRounds ≤ lastRound.round ∧ lastRound.fenced = .no ∧ lastRound.origin = ⟨1, 15, 16367⟩ ∧
    (wrote (busy .armed lastRound live)).sbl.outbound.length < 8 ∧
    ((wrote (busy .copying { job with fenced := .held } live)).ctx 3).body = .busy .copying { job with fenced := .held } ∧
    ((wrote live).ctx 3).isIdle = true ∧
    ((wrote (busy .closing { job with fenced := .held } live)).ctx 3).body = .busy .closing { job with fenced := .held } := by
  decide +kernel

theorem witness_DestWritesCompleteTheCopy :
    (reported (.destWrite 3 1 15 15 31) (busy .copying job live)).mge.reports = [.destWrite 3 1 15 15 31] ∧
    ((reported (.destWrite 3 1 15 15 31) (busy .copying job live)).ctx 3).body = .busy .copying job ∧
    job.origin.rank = 1 ∧ job.origin.bank = 15 ∧ job.destSlot.val = 15 ∧ job.ordered.getLsbD 31 = true ∧
    ({ job with ordered := 0x7FFFFFFF } : Job).ordered.getLsbD 31 = false := by decide +kernel

/-- The head report is the close of `home` as the source of context 3. -/
def closed (s : State) : State := reported (.close 1 15 16367 16367 (.source 3)) s

/-- A source write of block 31 of `home` stands behind its close. -/
def late (s : State) : State :=
  s.setReports [.close 1 15 16367 16367 (.source 3), .sourceWrite 3 1 15 16367 31]

theorem witness_BelongingCloseCutsOver :
    (closed (busy .armed cleanJob live)).mge.reports = [.close 1 15 16367 16367 (.source 3)] ∧
    ((closed (busy .armed cleanJob live)).ctx 3).body = .busy .armed cleanJob ∧ cleanJob.origin = ⟨1, 15, 16367⟩ ∧
    ((closed (busy .armed cleanJob live)).entry 95).slot ≠ some 15 ∧ (closed (busy .armed cleanJob live)).record 1 15 = none ∧
    (closed (busy .armed cleanJob live)).sbl.outbound.length < 8 ∧ ((closed (busy .armed cleanJob live)).ctx 3).held = [] ∧
    3 ∉ (closed (busy .armed cleanJob live)).sbl.waiting ∧
    (openSource (closed (busy .armed cleanJob live))).record 1 15 = some ⟨16367, 16367, .source 3⟩ ∧
    ((closed (busy .copying cleanJob live)).ctx 3).body = .busy .copying cleanJob := by decide +kernel

/-- `cleanJob` under a held fence. -/
def fencedJob : Job := { cleanJob with fenced := .held }

/-- OUTBOUND is full and nothing waits. -/
def stuffed (s : State) : State := s.setOutbound (List.replicate 8 (.cancelOrder 0 1))

theorem witness_BelongingCloseCutsOver_queues :
    (stuffed (closed (busy .armed fencedJob live))).mge.reports = [.close 1 15 16367 16367 (.source 3)] ∧
    ((stuffed (closed (busy .armed fencedJob live))).ctx 3).body = .busy .armed fencedJob ∧ fencedJob.fenced = .held ∧
    ((stuffed (closed (busy .armed fencedJob live))).ctx 3).held = [] ∧ fencedJob.origin = ⟨1, 15, 16367⟩ ∧
    8 ≤ (stuffed (closed (busy .armed fencedJob live))).sbl.outbound.length ∧
    (late (busy .armed cleanJob live)).mge.reports =
      [.close 1 15 16367 16367 (.source 3), .sourceWrite 3 1 15 16367 31] ∧
    ((late (busy .armed cleanJob live)).ctx 3).body = .busy .armed cleanJob ∧ cleanJob.round < cleanJob.captured.maxRounds ∧
    (reported (.close 1 15 16367 16382 .plain) (busy .armed cleanJob live)).mge.reports = [.close 1 15 16367 16382 .plain] ∧
    (∀ c, Role.plain ≠ .source c) := by decide +kernel

theorem test_late_write_restarts_the_copy :
    ((after .closeReportMigration (late (busy .armed cleanJob live))).ctx 3).body = .busy .offering
      { cleanJob with round := 2, ordered := 0x80000000, copied := 0x7FFFFFFF } := by decide +kernel

theorem test_full_outbound_holds_the_release :
    let t := after .closeReportMigration (stuffed (closed (busy .armed fencedJob live)))
    t.entry 95 = .live home 15 0 none ∧ (t.ctx 3).held = [⟨.fenceOrder 3 1 .release home, false⟩] ∧
    t.sbl.waiting = [3] ∧ (t.ctx 3).timer = none := by decide +kernel

/-- The Remap Table has a close report of `home`'s spare row to take. -/
def tableClosed (s : State) : State := { s with rmt := { s.rmt with closes := [⟨1, 15, 16382⟩] } }

theorem witness_CloseFreesTheRetiringEntry :
    (tableClosed retiringOpen).mode = .active geo ∧ (tableClosed retiringOpen).rmt.closes = [⟨1, 15, 16382⟩] ∧
    (tableClosed retiringOpen).entry 95 = .retiring home 14 3 ∧ 16382 = geo.n - 16 + (14 : SlotNo).val ∧
    (∀ i o k m, (tableClosed retiringOpen).entry i = .retiring o k m → i = 95) ∧
    (∀ i o k m, (tableClosed live).entry i = .retiring o k m → False) := by
  have other : ∀ i, i ≠ 95 → (tableClosed retiringOpen).entry i = .free := by decide +kernel
  have free : ∀ i, (tableClosed live).entry i = .free := by decide +kernel
  refine ⟨rfl, rfl, by decide +kernel, by decide +kernel, fun i o k m h => ?_, fun i o k m h => ?_⟩
  · by_contra hne
    rw [other i hne] at h
    cases h
  · rw [free] at h
    cases h

/-- Both parts of a channel reset are outstanding. -/
def resetReported (s : State) : State :=
  { s with mge := { s.mge with channelResets := 1 }, rmt := { s.rmt with channelResets := 1 } }

theorem witness_ChannelResetEndsMigrationsAndRetirings :
    0 < (resetReported (busy .armed cleanJob live)).mge.channelResets ∧
    (resetReported (busy .armed cleanJob live)).mge.reports = [] ∧ (resetReported (busy .armed cleanJob live)).sbl.waiting = [] ∧
    ((resetReported (busy .armed cleanJob live)).ctx 3).body = .busy .armed cleanJob ∧
    ((resetReported (busy .closing { job with fenced := .held } live)).ctx 3).body = .busy .closing { job with fenced := .held } ∧
    0 < (resetReported retiringOpen).rmt.channelResets ∧ (resetReported retiringOpen).entry 95 = .retiring home 14 3 := by
  decide +kernel

theorem witness_FramesAreDispatched :
    held.powerHeld = true ∧ State.reset.sbl.state = .down ∧ live.powerHeld = false ∧ live.sbl.state = .up ∧
    (greeting live).sbl.state = .greeting ∧ (255 : Byte) ≠ 0 ∧ (0x1E : Byte) ≠ checkByte [0x23, 0xFF, 0x00] ∧
    ([0x23, 0x00, 0x00] : List Byte).length < 4 ∧ ([0x1D] : List Byte).length ≠ (1 : Byte).toNat + 1 ∧
    (∀ x ∈ [((0x20 : Byte), 1), (0x21, 1), (0x10, 7), (0x10, 9), (0x31, 0)],
      x ∉ [(0x01#8, 2), (0x02#8, 2), (0x10#8, 8), (0x21#8, 0), (0x22#8, 1), (0x23#8, 0), (0x31#8, 1)]) ∧
    (∀ x ∈ [(0 : Byte), 3, 255], x ≠ 0x01 ∧ x ≠ 0x02) := by decide +kernel

theorem witness_BadFramesFailTheLink :
    State.reset.sbl.state = .down ∧ live.powerHeld = false ∧ live.sbl.state ≠ .down ∧ live.sbl.badRun < 3 ∧
    3 ≤ ({ live.sbl with badRun := 3 } : Link).badRun := by decide +kernel

theorem witness_GreetingsAreTaken :
    (greeting live).powerHeld = false ∧ (greeting live).sbl.state = .greeting ∧ (greeting live).sbl.waiting = [] ∧
    (greeting live).sbl.outbound.length < 8 ∧ (∀ c, ((greeting live).ctx c).isIdle = true) ∧ live.sbl.state = .up ∧
    ((2 : Byte) ≠ 1 ∨ (4 : Byte) ≠ 4) := by decide +kernel

/-- A full OUTBOUND with a message of context 3 waiting. -/
def full (s : State) : State :=
  { (s.setCtx 3 { s.ctx 3 with held := [⟨.copyOrder 3 1 home 15 1, false⟩] }) with
    sbl := { s.sbl with outbound := List.replicate 8 (.cancelOrder 0 1), waiting := [3] } }

theorem witness_LinkSendsAndRetries :
    (greeting live).sbl.state = .greeting ∧ (greeting live).sbl.retryTimer ≠ none ∧ (greeting live).sbl.outbound.length < 8 ∧
    live.sbl.retryTimer = none ∧ (greeting live).sbl.outbound = [.hello] ∧ (greeting live).sbl.waiting = [] ∧
    (full (busy .offering job live)).sbl.outbound = .cancelOrder 0 1 :: List.replicate 7 (.cancelOrder 0 1) ∧
    (full (busy .offering job live)).sbl.waiting = [3] ∧
    ((full (busy .offering job live)).ctx 3).held = [⟨.copyOrder 3 1 home 15 1, false⟩] ∧ live.sbl.outbound = [] := by
  decide +kernel

/-- Context 3 of `busy st j live` answers a matching reply in round 1. -/
theorem answered (b : ReplyBody) (j : Job) (h : j.round = 1) :
    (replied 1 b (busy (awaitedIn b) j live)).hasReply ⟨3, 1, b⟩ [] ∧
    (replied 1 b (busy (awaitedIn b) j live)).answeredBy ⟨3, 1, b⟩ j := by
  refine ⟨⟨rfl, rfl, rfl⟩, ?_, h, ?_⟩
  · simp [replied, busy, State.ctx, State.setCtx, State.setSlot, State.setEntry]
  · simp [replied, busy, State.ctx, State.setCtx, State.setSlot, State.setEntry]

theorem witness_CopyAnswersMoveTheContext :
    (replied 1 .copyAccept (busy .offering job live)).answeredBy ⟨3, 1, .copyAccept⟩ job ∧
    (replied 1 (.copyRefuse .unsupported) (busy .offering job live)).answeredBy ⟨3, 1, .copyRefuse .unsupported⟩ job :=
  ⟨(answered .copyAccept job rfl).2, (answered (.copyRefuse .unsupported) job rfl).2⟩

theorem witness_CopyDoneDecidesTheRound :
    (∀ j ∈ [cleanJob, job, { job with captured := ⟨1, 20, 500, 10⟩ }, { job with fenced := .held, captured := ⟨1, 20, 500, 10⟩ }],
      (replied 1 .copyDone (busy .copying j live)).hasReply ⟨3, 1, .copyDone⟩ [] ∧
      (replied 1 .copyDone (busy .copying j live)).answeredBy ⟨3, 1, .copyDone⟩ j) ∧
    (replied 1 .copyDone (busy .copying cleanJob live)).sbl.outbound.length < 8 ∧
    cleanJob.copied = BitVec.allOnes 32 ∧ cleanJob.dirty = 0 ∧ job.copied ≠ BitVec.allOnes 32 ∧
    job.round < job.captured.maxRounds ∧ (openSource (busy .copying cleanJob live)).record 1 15 = some ⟨16367, 16367, .source 3⟩ ∧
    (busy .copying cleanJob live).record 1 15 = none ∧ ((busy .copying cleanJob live).entry 95).slot ≠ some 15 ∧
    (wrote (busy .copying job live)).mge.reports = [.sourceWrite 3 1 15 16367 31] := by
  refine ⟨fun j hj => answered .copyDone j ?_, by decide +kernel⟩
  revert j
  decide +kernel

/-- A migration that has asked for the fence. -/
def fencing : Job := { job with fenced := .requested, round := 1, captured := ⟨1, 20, 500, 10⟩ }

theorem witness_FenceAcksAreTaken :
    (∀ j ∈ [fencing, { fencing with copied := BitVec.allOnes 32 }],
      (replied 1 (.fenceAck .set) (busy .fencing j live)).answeredBy ⟨3, 1, .fenceAck .set⟩ j) ∧
    (replied 1 (.fenceAck .release) (busy .closing fencing live)).answeredBy ⟨3, 1, .fenceAck .release⟩ fencing ∧
    (replied 1 (.fenceAck .set) (busy .fencing fencing live)).sbl.outbound.length < 8 ∧ fencing.copied ≠ BitVec.allOnes 32 ∧
    (busy .fencing fencing live).record 1 15 = none ∧ ((busy .fencing fencing live).entry 95).slot ≠ some 15 ∧
    (openSource (busy .fencing fencing live)).record 1 15 = some ⟨16367, 16367, .source 3⟩ := by
  refine ⟨fun j hj => (answered (.fenceAck .set) j ?_).2, (answered (.fenceAck .release) fencing rfl).2, by decide +kernel⟩
  revert j
  decide +kernel

theorem witness_StaleRepliesAreAnswered :
    (∀ b ∈ [ReplyBody.copyAccept, .copyRefuse .busy, .copyDone, .fenceAck .set, .fenceAck .release],
      (replied 63 b live).hasReply ⟨3, 63, b⟩ [] ∧ ∀ j, ¬(replied 63 b live).answeredBy ⟨3, 63, b⟩ j) ∧
    (replied 63 .copyDone live).sbl.outbound.length < 8 ∧ ¬(full live).sbl.outbound.length < 8 ∧
    (greeting (replied 63 .copyDone live)).sbl.state ≠ .up := by
  refine ⟨fun b _ => ⟨⟨rfl, rfl, rfl⟩, fun j h => ?_⟩, by decide +kernel⟩
  have idle : ((replied 63 b live).ctx 3).body = .idle none := rfl
  exact absurd (idle.symm.trans h.1) nofun

theorem witness_ContextTimersExpire :
    (∀ st ∈ [BusyState.offering, .copying, .armed, .fencing, .closing],
      ((busy st fencing live).ctx 3).body = .busy st fencing ∧ ((busy st fencing live).ctx 3).timer = some 5) ∧
    (live.ctx 3).timer = none := by decide +kernel

/-- An error note on the highest row of bank 15 of rank 1. -/
def note (row : Nat) : ErrorNote := ⟨1, 15, BitVec.ofNat 24 row, 127, .corrected, 255⟩

theorem witness_DataRowNotesAreScored :
    (noted (note 16367) live).hasNote (note 16367) [] ∧ (noted (note 16367) live).mode = .active geo ∧
    (note 16367).rank.toNat = home.rank.val ∧ (note 16367).bank.toNat = home.bank.val ∧ (note 16367).row.toNat = home.row ∧
    home.rank.val < geo.ranks.toNat ∧ home.row < geo.n - 16 ∧ (note 16367).column.toNat ≤ 127 ∧
    live.lookup home = none ∧ (repaired 0 (some 0) live).lookup home = some 95 ∧
    (repaired 0 (some 0) live).entry 95 = .live home 14 0 (some 0) ∧
    ((repaired 0 (some 0) live).setStage (.ready 95 0 1)).rst.stage.cancellable = some 95 :=
  ⟨⟨rfl, rfl⟩, by decide +kernel⟩

theorem witness_SpareRowNotesGoBySlot :
    (noted (note 16383) live).hasNote (note 16383) [] ∧ (∀ g, waiting.mode ≠ .active g) ∧ live.mode = .active geo ∧
    (geo.n ≤ (note 16384).row.toNat ∧ (note 16383).rank.toNat = (1 : Rank).val ∧ (note 16383).bank.toNat = (15 : Bank).val ∧
    (1 : Rank).val < geo.ranks.toNat ∧ (note 16383).row.toNat = geo.n - 16 + (15 : SlotNo).val ∧
    (note 16383).column.toNat ≤ 127 ∧ (live.slot 1 15 15).state = .free ∧
    ((spare 15 ⟨.testing true, .good⟩ live).slot 1 15 15).state = .testing true ∧
    ((busy .copying job live).slot 1 15 15).state = .target 95 ∧ ((busy .copying job live).ctx 3).activeJob = some job ∧
    (∀ d, d < (3 : Ctx) → ((busy .copying job live).ctx d).activeJob = none) ∧ (live.slot 1 15 0).state = .sink) :=
  ⟨⟨rfl, rfl⟩, nofun, rfl, by decide +kernel⟩

theorem witness_DecayBoundaryInOrder :
    live.wls.decayTimer = none ∧ live.startDecay.wls.decayTimer ≠ none ∧ live.startDecay.runProfile.autoRepair = true ∧
    ({ live.startDecay with pol := { live.pol with pendingRun := some 1 } } : State).pol.profiles[1].autoRepair = false := by
  decide +kernel

/-- A nominated item for `home`, with its key at the head of both queues. -/
def called (sub : Subject) (s : State) : State := turn ⟨home, sub⟩ (watched [item ⟨home, sub⟩ 1023 true] s)

theorem witness_PolicyActsOnItems :
    (called .origin live).policyTurn .nominationTake ⟨home, .origin⟩
      { called .origin live with pol := { (called .origin live).pol with nominations := [] } } ∧
    (called .origin live).policyTurn .retryPassStep ⟨home, .origin⟩
      { called .origin live with pol := { (called .origin live).pol with passOrder := [] } } ∧
    live.mode = .active geo ∧ home.rank.val < geo.ranks.toNat ∧ home.row < geo.n - 16 ∧ live.sbl.state = .up ∧
    (called .origin live).nextContext 0 ∧ live.holdsNo home ∧ live.nextEntry 0 ∧ live.refusesSlot 1 15 ∧
    (spare 15 ⟨.free, .good⟩ live).grants 1 15 15 ∧ (repaired 2 none live).lookup home = some 95 ∧
    (repaired 2 none live).entry 95 = .live home 14 2 none ∧ (repaired 3 none live).entry 95 = .live home 14 3 none ∧
    (∀ c, ((allBusy live).ctx c).isIdle = false) := by
  refine ⟨.inl ⟨[], rfl, rfl, rfl, rfl⟩, .inr ⟨[], rfl, rfl, rfl⟩, rfl, by decide +kernel, by decide +kernel, rfl,
    ?_, ?_, ?_, ?_, ?_, ?_⟩
  · unfold State.nextContext; decide +kernel
  · unfold State.holdsNo; decide +kernel
  · unfold State.nextEntry; decide +kernel
  · unfold State.refusesSlot; decide +kernel
  · unfold State.grants; decide +kernel
  · decide +kernel

theorem witness_StagesAndOperationsEnd :
    (live.setStage (.probation 95 39 1 9901)).rst.stage = .probation 95 39 1 9901 ∧
    ((repaired 0 (some 39) live).setStage (.ready 95 39 0)).rst.stage = .ready 95 39 0 ∧
    (repaired 0 (some 39) live).entry 95 = .live home 14 0 (some 39) ∧
    (burning (.burn 39 95 home 14) (repaired 0 (some 39) live)).rst.operation = some (.burn 39 95 home 14) ∧
    ((repaired 0 (some 39) live).slot 1 15 14).state = .mapped 95 ∧ home.row ≤ 131071 ∧
    (burning (.revoke 39) (burned 39 (recordImage home 14) live)).storeRecord 39 = .written home 14 ∧
    (burning (.geometry geo) live).rst.operation = some (.geometry geo) ∧ live.rst.operation = none := by decide +kernel

theorem witness_RequestFramesAreAnswered :
    held.powerHeld = true ∧ live.powerHeld = false ∧ live.port.inHand = none ∧ (asked .burn live).port.inHand ≠ none ∧
    requestOf 0x0D [1, 15, 0, 63, 239, 15] = some (.watchClear 1 15 0x003FEF 15) ∧ requestOf 0x1E [] = none ∧
    ((5 : Byte).toNat ≠ ([0] : List Byte).length + 3 ∨ 10 < (5 : Byte).toNat) ∧ (0 : Byte) ≠ checkByte [0x04, 0x1A, 0x02] := by
  decide +kernel

theorem witness_ReadsReportAndChangeNothing :
    (∀ q ∈ [Request.profileRead 1, .profileRead 2, .tableRead 95, .tableRead 96, .contextRead 3, .contextRead 4, .watchRead 31,
        .watchRead 32, .storeRead 39, .storeRead 40, .storeStatus, .conditionRead, .slotRead 1 15 15, .slotRead 2 15 15,
        .tableFind 1 15 16367, .tableFind 1 15 16368], (asked q live).hasInHand (hand q) q) ∧
    live.mode = .active geo ∧ (asked (.profileRead 1) State.reset).mode = .loading :=
  ⟨fun _ _ => ⟨rfl, rfl, rfl, rfl⟩, rfl, rfl⟩

theorem witness_ReleaseFreesOrRetires :
    (asked (.release 95) live).hasInHand (hand (.release 95)) (.release (BitVec.ofNat 8 (95 : EntryIx).val)) ∧
    (asked (.release 96) live).hasInHand (hand (.release 96)) (.release 96) ∧ 96 ≤ (96 : Byte).toNat ∧ live.mode = .active geo ∧ live.entry 95 = .free ∧ (busy .offering job live).entry 95 = .forming home 15 3 ∧
    (repaired 3 (some 39) live).entry 95 = .live home 14 3 (some 39) ∧
    (burning (.burn 39 95 home 14) live).rst.operation = some (.burn 39 95 home 14) ∧
    (burning (.revoke 39) live).rst.operation = some (.revoke 39) ∧ retiringOpen.entry 95 = .retiring home 14 3 ∧
    live.rst.operation = none ∧ (opened ⟨16367, 16382, .plain⟩ live).record 1 15 = some ⟨16367, 16382, .plain⟩ ∧ 16382 = geo.n - 16 + (14 : SlotNo).val :=
  ⟨⟨rfl, rfl, rfl, rfl⟩, ⟨rfl, rfl, rfl, rfl⟩, by decide, rfl, by decide +kernel⟩

theorem witness_SlotsAreTestedAndGraded :
    (∀ q ∈ [Request.slotGrade 1 15 15 2, .slotGrade 1 15 16 2, .slotGrade 1 15 15 3, .slotTestBegin 1 15 15,
        .slotTestEnd 1 15 15 0, .slotTestEnd 1 15 15 1, .slotTestEnd 1 15 15 2], (asked q live).hasInHand (hand q) q) ∧
    live.mode = .active geo ∧ (∀ g, waiting.mode ≠ .active g) ∧ (1 : Rank).val < geo.ranks.toNat ∧
    (live.slot 1 15 15).state = .free ∧ (live.slot 1 15 0).state ≠ .free ∧
    ((spare 15 ⟨.testing false, .bad⟩ live).slot 1 15 15).state = .testing false ∧
    ((spare 15 ⟨.testing true, .bad⟩ live).slot 1 15 15).state = .testing true :=
  ⟨fun _ _ => ⟨rfl, rfl, rfl, rfl⟩, rfl, nofun, by decide, by decide +kernel⟩

theorem witness_LaunchesOnRequest :
    (∀ q ∈ [Request.repair 1 15 16367, .repair 1 15 16368, .move 95, .move 96], (asked q live).hasInHand (hand q) q) ∧
    live.mode = .active geo ∧ live.sbl.state = .up ∧ (greeting live).sbl.state ≠ .up ∧ live.nextContext 0 ∧
    (∀ c, ((allBusy live).ctx c).isIdle = false) ∧ live.holdsNo home ∧ ¬(repaired 0 none live).holdsNo home ∧ live.nextEntry 0 ∧
    live.refusesSlot 1 15 ∧ (spare 15 ⟨.free, .good⟩ live).grants 1 15 15 ∧
    (repaired 2 none live).entry 95 = .live home 14 2 none := by
  refine ⟨fun _ _ => ⟨rfl, rfl, rfl, rfl⟩, rfl, rfl, by decide +kernel, ?_, by decide +kernel, ?_, ?_, ?_, ?_, ?_, by decide +kernel⟩
  · unfold State.nextContext; decide +kernel
  · unfold State.holdsNo; decide +kernel
  · unfold State.holdsNo; decide +kernel
  · unfold State.nextEntry; decide +kernel
  · unfold State.refusesSlot; decide +kernel
  · unfold State.grants; decide +kernel

theorem witness_CancelAndWatchClear :
    (∀ q ∈ [Request.cancel 3, .cancel 4, .watchClear 1 15 16367 0, .watchClear 1 15 16367 15, .watchClear 1 15 16367 16,
        .watchClear 2 15 16367 0, .watchClear 1 16 16367 0, .watchClear 1 15 16368 0],
      (asked q live).hasInHand (hand q) q) ∧ live.mode = .active geo ∧ (live.ctx 3).activeJob = none ∧
    ((busy .copying job live).ctx 3).activeJob = some job ∧
    (watched [item ⟨home, .slot 15⟩ 1023 true] live).wls.items.find? (fun i => i.key == ⟨home, .slot 15⟩) =
      some (item ⟨home, .slot 15⟩ 1023 true) ∧ (item ⟨home, .slot 15⟩ 1023 true).inRepair = none ∧
    live.wls.items.find? (fun i => i.key == ⟨home, .slot 15⟩) = none :=
  ⟨fun _ _ => ⟨rfl, rfl, rfl, rfl⟩, rfl, by decide +kernel⟩

theorem witness_ProfileRequestsChangeThePolicy :
    (∀ q ∈ [Request.profileEditSelect 1, .profileEditSelect 2, .profileRunSelect 1, .profileWrite 4 60000, .profileWrite 4 60001,
        .profileWrite 11 255, .profileWrite 12 1], (asked q live).hasInHand (hand q) q) ∧
    live.mode ≠ .loading ∧ live.pol.edit ≠ live.pol.run ∧ State.reset.mode = .loading :=
  ⟨fun _ _ => ⟨rfl, rfl, rfl, rfl⟩, by decide, by decide, rfl⟩

theorem witness_ConfigureTakesThePartToActive :
    (∀ q ∈ [Request.configure 2 14, .configure 2 18], (asked q waiting).hasInHand (hand q) q) ∧ live.mode = .active geo ∧
    waiting.mode = .unconfigured ∧ (2 : Byte).toNat = geo.ranks.toNat ∧ (14 : Byte).toNat = geo.w.toNat :=
  ⟨fun _ _ => ⟨rfl, rfl, rfl, rfl⟩, rfl, rfl, rfl, rfl⟩

theorem witness_StoreRequestsAreDecided :
    (∀ q ∈ [Request.stage 95, .stage 96, .burn, .revoke 39, .revoke 40, .burnGeometry, .lockStore],
      (asked q live).hasInHand (hand q) q) ∧ live.mode = .active geo ∧ (locked live).rst.lock = true ∧
    live.rst.lock = false ∧ live.rst.operation = none ∧ (burning (.revoke 0) live).rst.operation ≠ none ∧
    live.rst.stage = .empty ∧ (repaired 3 none live).entry 95 = .live home 14 3 none ∧ live.storeRecord 0 = .blank ∧
    (live.setStage (.ready 95 39 1)).rst.stage.cancellable = some 95 ∧
    (burned 39 (recordImage home 14) live).storeRecord 39 = .written home 14 ∧ live.rst.geometryCells.read = .blank ∧
    (area (geometryImage geo) live).rst.geometryCells.read ≠ .blank :=
  ⟨fun _ _ => ⟨rfl, rfl, rfl, rfl⟩, rfl, by decide +kernel⟩

theorem witness_StoreRequestsAreDecided_unconfigured :
    (∀ q ∈ [Request.burnGeometry, .lockStore], (asked q waiting).hasInHand (hand q) q) ∧ waiting.mode = .unconfigured ∧
    (locked waiting).rst.lock = true ∧ waiting.rst.lock = false ∧ waiting.rst.operation = none ∧
    (burning (.revoke 0) waiting).rst.operation ≠ none ∧ waiting.rst.stage.cancellable = none :=
  ⟨fun _ _ => ⟨rfl, rfl, rfl, rfl⟩, rfl, by decide +kernel⟩

theorem witness_ConditionsAreClearedAndMasked :
    (∀ q ∈ [Request.alertMask 0xFFFF, .alertMask 0x10000, .conditionClear 0xFFFF, .conditionClear 0x10000],
      (asked q live).hasInHand (hand q) q) ∧ live.mode ≠ .loading ∧
    (0xFFFF : BitVec 32).toNat < 65536 ∧ 65536 ≤ (0x10000 : BitVec 32).toNat ∧
    exec .channelReset live = .next (after .channelReset live) ∧ exec .powerOn live = .next (after .powerOn live) :=
  ⟨fun _ _ => ⟨rfl, rfl, rfl, rfl⟩, by decide, by decide, by decide, rfl, rfl⟩

/-- A warm reset whose link part has been taken. -/
def warmedLink (s : State) : State := after .warmResetLink (warming s)

theorem test_warm_link_ends_migrations :
    ((warmedLink (busy .fencing { job with fenced := .requested } live)).ctx 3).lastResult = some (.aborted .warmReset) ∧
    (warmedLink (busy .fencing { job with fenced := .requested } live)).sbl.outbound = [.hello] ∧
    (warmedLink (busy .fencing { job with fenced := .requested } live)).port.conditions = 0 := by decide +kernel

theorem test_warm_migration_clears_late_orders :
    (after .warmResetMigration { busy .offering job (warmedLink live) with
      sbl := { live.sbl with outbound := [.helloAck, .copyOrder 3 1 home 15 1] } }).sbl.outbound = [.helloAck] := by decide +kernel

theorem witness_WarmResetReachesEveryOwner :
    (asked .warmReset live).hasInHand (hand .warmReset) .warmReset ∧ live.mode ≠ .loading ∧
    (∀ p ∈ [WarmPart.migration, .link, .watch, .slots, .store, .conditions], p ∈ (warming live).port.warmParts) ∧
    live.port.warmParts = [] ∧ live.rst.stage.cancellable = none ∧ .migration ∈ (warmedLink live).port.warmParts ∧
    .link ∉ (warmedLink live).port.warmParts ∧ (warmedLink live).sbl.waiting = [] ∧
    (∀ c, ((warming live).ctx c).isIdle = true ∧ ((warming live).ctx c).held = []) ∧
    ((repaired 0 (some 0) live).setStage (.ready 95 0 1)).rst.stage.cancellable = some 95 :=
  ⟨⟨rfl, rfl, rfl, rfl⟩, by decide +kernel⟩

end Sys2Proof.Tests
end

section
/-! SUPPORT. The operations that leave the Remap Table as it is. -/

namespace Sys2Proof.Machine

variable (s : State)

@[simp] theorem State.raiseIf_rmt (b : Bool) (k : Condition) : (s.raiseIf b k).rmt = s.rmt := by
  unfold State.raiseIf; split <;> rfl

@[simp] theorem State.violation_rmt : s.violation.rmt = s.rmt := rfl
@[simp] theorem State.passThrough_rmt (x : ChannelCommand) : (s.passThrough x).rmt = s.rmt := by simp [State.passThrough]
@[simp] theorem State.openBank_rmt (r : Rank) (b : Bank) (x : OpenRow) : (s.openBank r b x).rmt = s.rmt := rfl

/-! ## The link's queue -/

@[simp] theorem State.queueTail_rmt (c : Ctx) (h : HeldMsg) : (s.queueTail c h).rmt = s.rmt := by
  unfold State.queueTail; split <;> rfl

@[simp] theorem State.makeMsg_rmt (c : Ctx) (m : OutMsg) : (s.makeMsg c m).rmt = s.rmt := by
  unfold State.makeMsg; split <;> simp

theorem State.refillUpTo_rmt (n : Nat) : ∀ s : State, (s.refillUpTo n).rmt = s.rmt := by
  induction n with
  | zero => exact fun _ => rfl
  | succ n ih =>
    intro s
    unfold State.refillUpTo
    split
    · rfl
    · split
      · split <;> simp [ih]
      · rfl

@[simp] theorem State.refill_rmt : s.refill.rmt = s.rmt := State.refillUpTo_rmt _ s

@[simp] theorem State.displaceTail_rmt : s.displaceTail.rmt = s.rmt := by
  unfold State.displaceTail; split
  · rfl
  · dsimp only; split <;> rfl

@[simp] theorem State.queueGreeting_rmt (m : OutMsg) : (s.queueGreeting m).rmt = s.rmt := by
  unfold State.queueGreeting; split
  · rfl
  · dsimp only; split <;> simp

@[simp] theorem State.sendStale_rmt (m : OutMsg) : (s.sendStale m).rmt = s.rmt := by
  unfold State.sendStale; split <;> rfl

@[simp] theorem State.purgeOutbound_rmt (keep : OutMsg → Bool) : (s.purgeOutbound keep).rmt = s.rmt := by
  simp [State.purgeOutbound]

@[simp] theorem State.linkUp_rmt : s.linkUp.rmt = s.rmt := by simp [State.linkUp]
@[simp] theorem State.retry_rmt : s.retry.rmt = s.rmt := s.queueGreeting_rmt .hello

@[simp] theorem State.passNote_rmt (n : ErrorNote) : (s.passNote n).rmt = s.rmt := by
  unfold State.passNote; split <;> rfl

@[simp] theorem State.passReply_rmt (r : Reply) : (s.passReply r).rmt = s.rmt := by
  unfold State.passReply; split <;> rfl

@[simp] theorem State.takeHelloAck_rmt (level count : Byte) : (s.takeHelloAck level count).rmt = s.rmt := by
  unfold State.takeHelloAck; split
  · rfl
  · split <;> simp

@[simp] theorem State.transmitHead_rmt : s.transmitHead.rmt = s.rmt := by
  unfold State.transmitHead; split <;> simp

/-! ## Contexts and slots -/

@[simp] theorem State.dropHeld_rmt (c : Ctx) : (s.dropHeld c).rmt = s.rmt := rfl
@[simp] theorem State.enterIdle_rmt (c : Ctx) (j : Job) : (s.enterIdle c j).rmt = s.rmt := rfl

@[simp] theorem State.abortSlot_rmt (j : Job) (r : AbortReason) : (s.abortSlot j r).rmt = s.rmt := by
  unfold State.abortSlot; split <;> rfl

@[simp] theorem State.abortMessages_rmt (c : Ctx) (j : Job) : (s.abortMessages c j).rmt = s.rmt := by
  unfold State.abortMessages; split <;> simp

@[simp] theorem State.cutoverSlots_rmt (j : Job) : (s.cutoverSlots j).rmt = s.rmt := by
  unfold State.cutoverSlots; dsimp only; split <;> rfl

@[simp] theorem State.startRound_rmt (c : Ctx) (j : Job) : (s.startRound c j).rmt = s.rmt := by simp [State.startRound]
@[simp] theorem State.requestFence_rmt (c : Ctx) (j : Job) : (s.requestFence c j).rmt = s.rmt := by
  simp [State.requestFence]

@[simp] theorem State.dirtyBlock_rmt (c : Ctx) (st : BusyState) (j : Job) (b : Fin 32) :
    (s.dirtyBlock c st j b).rmt = s.rmt := by
  unfold State.dirtyBlock; dsimp only; split
  · split <;> simp
  · rfl

@[simp] theorem State.takeDestWrite_rmt (c : Ctx) (r : Rank) (k : Bank) (n : Nat) (b : Fin 32) :
    (s.takeDestWrite c r k n b).rmt = s.rmt := by
  unfold State.takeDestWrite; split
  · rfl
  · rfl
  · split <;> rfl

@[simp] theorem State.launchNotice_rmt (c : Ctx) (o : Origin) : (s.launchNotice c o).rmt = s.rmt := by
  unfold State.launchNotice; split
  · split <;> rfl
  · rfl

@[simp] theorem State.closingExpiry_rmt (c : Ctx) : (s.closingExpiry c).rmt = s.rmt := by
  unfold State.closingExpiry; split
  · split <;> rfl
  · rfl

/-! ## Watch items and policy -/

@[simp] theorem State.handNomination_rmt (k : Key) : (s.handNomination k).rmt = s.rmt := by
  unfold State.handNomination; split <;> rfl

@[simp] theorem State.testNomination_rmt (k : Key) : (s.testNomination k).rmt = s.rmt := by
  unfold State.testNomination; split
  · split
    · simp [State.changeItem]
    · rfl
  · rfl

@[simp] theorem State.scoreNote_rmt (k : Key) (cls : NoteClass) (w : Nat) (run : Option Ctx) :
    (s.scoreNote k cls w run).rmt = s.rmt := by
  unfold State.scoreNote; split
  · simp [State.changeItem]
  · split
    · rfl
    · split
      · simp
      · split
        · split <;> simp
        · rfl

@[simp] theorem State.applyPendingRun_rmt : s.applyPendingRun.rmt = s.rmt := by
  unfold State.applyPendingRun; split <;> rfl

@[simp] theorem State.decayBoundary_rmt : s.decayBoundary.rmt = s.rmt := by simp [State.decayBoundary]

@[simp] theorem State.launchFailed_rmt (k : Key) (last : Option FailureKind) (f : FailureKind) (cond : Condition) :
    (s.launchFailed k last f cond).rmt = s.rmt := by
  unfold State.launchFailed; split <;> rfl

/-! ## The port and the burn engine -/

@[simp] theorem State.refuseFrame_rmt (tag : Byte) (st : Status) : (s.refuseFrame tag st).rmt = s.rmt := rfl

@[simp] theorem State.acceptRequest_rmt (tag : Byte) (q : Request) : (s.acceptRequest tag q).rmt = s.rmt := by
  unfold State.acceptRequest; split <;> rfl

@[simp] theorem State.takeFrame_rmt (bytes : List Byte) : (s.takeFrame bytes).rmt = s.rmt := by
  unfold State.takeFrame; split <;> simp

@[simp] theorem State.compose_rmt (st : Status) (p : Payload) : (s.compose st p).rmt = s.rmt := by
  unfold State.compose; split
  · split <;> rfl
  · rfl

@[simp] theorem State.answer_rmt (st : Status) (p : Payload) : (s.answer st p).rmt = s.rmt := s.compose_rmt st p

@[simp] theorem State.engineDone_rmt (kind : OperationKind) (done : Bool) : (s.engineDone kind done).rmt = s.rmt := rfl
@[simp] theorem State.engineDone_mode (kind : OperationKind) (done : Bool) : (s.engineDone kind done).mode = s.mode := rfl

@[simp] theorem State.burnSlot_rmt (i : EntryIx) (o : Origin) (n : SlotNo) : (s.burnSlot i o n).rmt = s.rmt := by
  unfold State.burnSlot; split <;> rfl
@[simp] theorem State.burnSlot_mode (i : EntryIx) (o : Origin) (n : SlotNo) : (s.burnSlot i o n).mode = s.mode := by
  unfold State.burnSlot; split <;> rfl

@[simp] theorem State.tick_rmt : s.tick.rmt = s.rmt := by
  unfold State.tick; split <;> rfl

end Sys2Proof.Machine
end

section
/-!
SUPPORT. What every operation but a FIRST launch, the load and a power event does to the Remap Table. `ClaimFree s t` says that no
entry has an origin in `t` that it did not have in `s`, that MOVES stays within its bound, and that the mode stays.
-/

namespace Sys2Proof.Machine

/-- From `e` to `e'` an entry claims no origin, and its MOVES stays within its bound. -/
structure Entry.LeadsTo (e e' : Entry) : Prop where
  origin : ∀ o, e'.origin = some o → e.origin = some o
  moves : e.MovesBounded → e'.MovesBounded

namespace Entry.LeadsTo

theorem refl (e : Entry) : e.LeadsTo e := ⟨fun _ h => h, id⟩

theorem trans {e e' e'' : Entry} (a : e.LeadsTo e') (b : e'.LeadsTo e'') : e.LeadsTo e'' :=
  ⟨fun o h => a.origin o (b.origin o h), fun h => b.moves (a.moves h)⟩

theorem free (e : Entry) : e.LeadsTo .free := ⟨nofun, fun _ => trivial⟩

/-- R12. -/
theorem restored (e : Entry) : e.LeadsTo e.restored := by
  cases e with
  | forming => exact free _
  | moving o k n c m => exact ⟨fun _ h => h, fun h => Nat.le_succ_of_le h⟩
  | _ => exact refl _

/-- R10, R11: a completed move counts one more, from 2 at most. -/
theorem cutOver (dest : SlotNo) (e : Entry) : e.LeadsTo (e.cutOver dest) := by
  cases e with
  | forming => exact ⟨fun _ h => h, fun _ => Nat.zero_le 3⟩
  | moving o k n c m => exact ⟨fun _ h => h, fun h => Nat.succ_le_succ h⟩
  | _ => exact refl _

/-- R18. -/
theorem unstaged (e : Entry) : e.LeadsTo e.unstaged := by
  cases e with
  | live => exact ⟨fun _ h => h, id⟩
  | _ => exact refl _

/-- R19. -/
theorem burned (k : RecIx) (e : Entry) : e.LeadsTo (e.burned k) := by
  cases e with
  | live => exact ⟨fun _ h => h, id⟩
  | _ => exact refl _

end Entry.LeadsTo

/-- See the head of the section. -/
structure ClaimFree (s t : State) : Prop where
  mode : t.mode = s.mode
  entry : ∀ i, (s.entry i).LeadsTo (t.entry i)

namespace ClaimFree

theorem trans {s t u : State} (a : ClaimFree s t) (b : ClaimFree t u) : ClaimFree s u :=
  ⟨b.mode.trans a.mode, fun i => (a.entry i).trans (b.entry i)⟩

theorem ofEntries {s t : State} (hm : t.mode = s.mode) (he : t.rmt.entries = s.rmt.entries) : ClaimFree s t where
  mode := hm
  entry i := by
    have : t.entry i = s.entry i := by unfold State.entry; rw [he]
    exact this ▸ .refl _

theorem refl (s : State) : ClaimFree s s := ofEntries rfl rfl

theorem ofRmt {s t : State} (hm : t.mode = s.mode) (h : t.rmt = s.rmt) : ClaimFree s t := ofEntries hm (congrArg _ h)

theorem ofKept {s t : State} (k : Kept s t) (h : t.rmt = s.rmt) : ClaimFree s t := ofRmt k.mode h

/-- What comes after a change that leaves the table alone. -/
theorem after {s t u : State} (b : ClaimFree t u) (hm : t.mode = s.mode) (h : t.rmt.entries = s.rmt.entries) : ClaimFree s u :=
  (ofEntries hm h).trans b

theorem setEntry {s t : State} (a : ClaimFree s t) {i : EntryIx} {e : Entry} (h : (s.entry i).LeadsTo e) :
    ClaimFree s (t.setEntry i e) where
  mode := a.mode
  entry k := by
    rw [State.setEntry_entry]
    split
    · next hk => exact hk ▸ h
    · exact a.entry k

theorem foldl {α : Type} (f : State → α → State) (h : ∀ s a, ClaimFree s (f s a)) (l : List α) (s : State) :
    ClaimFree s (l.foldl f s) := by
  induction l generalizing s with
  | nil => exact refl s
  | cons a l ih => exact (h s a).trans (ih _)

variable (s : State)

/-! ## Plain updates -/

theorem bumpGeneration : ClaimFree s s.bumpGeneration := ofEntries rfl rfl
theorem reportCloseToTable (x) : ClaimFree s (s.reportCloseToTable x) := ofEntries rfl rfl
theorem setRecord (r b x) : ClaimFree s (s.setRecord r b x) := ofRmt rfl rfl
theorem openBank (r b x) : ClaimFree s (s.openBank r b x) := ofRmt rfl rfl
theorem violation : ClaimFree s s.violation := ofRmt rfl rfl
theorem forward (x) : ClaimFree s (s.forward x) := ofRmt rfl rfl
theorem passThrough (x) : ClaimFree s (s.passThrough x) := ofKept (Kept.passThrough s x) (by simp)
theorem setResetLine (b) : ClaimFree s (s.setResetLine b) := ofRmt rfl rfl
theorem channelResetEvent : ClaimFree s s.channelResetEvent := ofEntries rfl rfl
theorem endTests : ClaimFree s s.endTests := ofRmt rfl rfl
theorem enterState (c st j) : ClaimFree s (s.enterState c st j) := ofRmt rfl rfl
theorem enterIdle (c j) : ClaimFree s (s.enterIdle c j) := ofRmt rfl rfl
theorem setLastResult (c r) : ClaimFree s (s.setLastResult c r) := ofRmt rfl rfl
theorem clearAllHeld : ClaimFree s s.clearAllHeld := ofRmt rfl rfl
theorem makeMsg (c m) : ClaimFree s (s.makeMsg c m) := ofKept (Kept.makeMsg s c m) (by simp)
theorem queueGreeting (m) : ClaimFree s (s.queueGreeting m) := ofKept (Kept.queueGreeting s m) (by simp)
theorem purgeOutbound (keep) : ClaimFree s (s.purgeOutbound keep) := ofKept (Kept.purgeOutbound s keep) (by simp)
theorem linkDown : ClaimFree s s.linkDown := ofRmt rfl rfl
theorem linkUp : ClaimFree s s.linkUp := ofKept (Kept.linkUp s) (by simp)
theorem enterGreeting : ClaimFree s s.enterGreeting := ofRmt rfl rfl
theorem onlyHelloAck : ClaimFree s s.onlyHelloAck := ofRmt rfl rfl
theorem transmitHead : ClaimFree s s.transmitHead := ofKept (Kept.transmitHead s) (by simp)
theorem retry : ClaimFree s s.retry := ofKept (Kept.retry s) (by simp)
theorem closingExpiry (c) : ClaimFree s (s.closingExpiry c) := ofKept (Kept.closingExpiry s c) (by simp)
theorem setItems (l) : ClaimFree s (s.setItems l) := ofRmt rfl rfl
theorem removeItem (k) : ClaimFree s (s.removeItem k) := ofRmt rfl rfl
theorem decayBoundary : ClaimFree s s.decayBoundary := ofKept (Kept.decayBoundary s) (by simp)
theorem setStage (x) : ClaimFree s (s.setStage x) := ofRmt rfl rfl
theorem ofMge (x : Migration) : ClaimFree s { s with mge := x } := ofRmt rfl rfl
theorem ofPol (x : Policy) : ClaimFree s { s with pol := x } := ofRmt rfl rfl
theorem setLastFailure (k f) : ClaimFree s (s.setLastFailure k f) := ofRmt rfl rfl
theorem launchFailed (k l f c) : ClaimFree s (s.launchFailed k l f c) := ofKept (Kept.launchFailed s k l f c) (by simp)
theorem raise (k) : ClaimFree s (s.raise k) := ofRmt rfl rfl
theorem clearConditions (x) : ClaimFree s (s.clearConditions x) := ofRmt rfl rfl
theorem setAlertMask (x) : ClaimFree s (s.setAlertMask x) := ofRmt rfl rfl
theorem acceptRequest (tag q) : ClaimFree s (s.acceptRequest tag q) := ofKept (Kept.acceptRequest s tag q) (by simp)
theorem takeFrame (bytes) : ClaimFree s (s.takeFrame bytes) := ofKept (Kept.takeFrame s bytes) (by simp)
theorem answer (st p) : ClaimFree s (s.answer st p) := ofKept (Kept.answer s st p) (by simp)
theorem refuse (st) : ClaimFree s (s.refuse st) := answer s st _

/-! ## Entries and stages -/

theorem freeEntry (i o k) : ClaimFree s (s.freeEntry i o k) :=
  ((refl s).setEntry (.free (s.entry i))).trans (ofEntries rfl rfl)

theorem freeIfRetiring (i) : ClaimFree s (s.freeIfRetiring i) := by
  unfold State.freeIfRetiring; split
  · exact freeEntry ..
  · exact refl s

theorem freeAllRetiring : ClaimFree s s.freeAllRetiring := foldl _ freeIfRetiring _ _

theorem tableClose (x) : ClaimFree s (s.tableClose x) := by
  unfold State.tableClose; split
  · split
    · exact freeIfRetiring ..
    · exact refl s
  · exact refl s

theorem tableTakesCloses : ClaimFree s s.tableTakesCloses := (foldl _ tableClose _ _).after rfl rfl

theorem dropStage (i) : ClaimFree s (s.dropStage i) :=
  (ofRmt rfl rfl : ClaimFree s (s.setStage .empty)).setEntry (.unstaged _)

theorem cancelStage : ClaimFree s s.cancelStage := by
  unfold State.cancelStage; split
  · exact dropStage ..
  · exact refl s

theorem cancelStageFor (i) : ClaimFree s (s.cancelStageFor i) := by
  unfold State.cancelStageFor; split
  · exact dropStage ..
  · exact refl s

theorem stageExpiry : ClaimFree s s.stageExpiry := by
  unfold State.stageExpiry; split
  · exact (dropStage ..).trans (raise ..)
  · exact refl s

/-! ## Migrations -/

theorem abortChanges (c j r) : ClaimFree s (s.abortChanges c j r) :=
  ((refl s).setEntry (.restored (s.entry j.entry))).trans
    (ofRmt (Kept.abortChanges s c j r).mode (by simp [State.abortChanges]))

theorem abort (c r) : ClaimFree s (s.abort c r) := by
  unfold State.abort; split
  · exact refl s
  · split
    · exact (abortChanges ..).trans (enterIdle ..)
    · exact (abortChanges ..).trans (ofKept (Kept.abortMessages ..) (by simp))

theorem endSilently (r c) : ClaimFree s (s.endSilently r c) := by
  unfold State.endSilently; split
  · exact refl s
  · exact ofRmt rfl rfl
  · exact abort ..

theorem endAllSilently (r) : ClaimFree s (s.endAllSilently r) := foldl _ (fun s c => endSilently s r c) _ _

theorem cutoverChanges (c j) : ClaimFree s (s.cutoverChanges c j) :=
  ((ofKept (Kept.cutoverSlots s j) (by simp)).setEntry (.cutOver j.destSlot (s.entry j.entry))).trans
    ((((bumpGeneration _).trans (removeItem _ _)).trans (setLastResult _ _ _)).trans (raise _ _))

theorem cutover (c j) : ClaimFree s (s.cutover c j) := by
  unfold State.cutover; split
  · exact (cutoverChanges ..).trans ((enterState ..).trans (makeMsg ..))
  · exact (cutoverChanges ..).trans (enterIdle ..)

theorem armOrCutover (c j) : ClaimFree s (s.armOrCutover c j) := by
  unfold State.armOrCutover; split
  · exact ofRmt rfl rfl
  · exact cutover ..

theorem afterUncleanRound (c j) : ClaimFree s (s.afterUncleanRound c j) := by
  unfold State.afterUncleanRound; split
  · exact ofKept (Kept.startRound ..) (by simp)
  · split
    · exact ofKept (Kept.requestFence ..) (by simp)
    · exact abort ..

theorem expire (c st r) : ClaimFree s (s.expire c st r) := by
  unfold State.expire; split
  · exact abort ..
  · exact refl s

/-- R71: after its claim a launch leaves the table alone. -/
theorem launch (c d i e o k key) : ClaimFree (s.setEntry i e) (s.launch c d i e o k key) :=
  ofRmt (Kept.launch s c d i e o k key).mode (by simp [State.launch])

/-- R9: a MOVE launch keeps the origin and finds MOVES below 3. -/
theorem launchMove {i c t} (h : s.launchMove i = .launched c t) : ClaimFree s t := by
  unfold State.launchMove at h
  split at h
  · cases h
  · split at h
    · cases h
    · next o old m he =>
      split at h
      · next hm =>
        split at h
        · cases h
        · next k _ =>
          cases h
          have moving : (s.entry i).LeadsTo (.moving o old k c m) := he ▸ ⟨fun _ h => h, fun _ => Nat.le_of_lt_succ hm⟩
          exact ((refl s).setEntry moving).trans (launch ..)
      · cases h
    · cases h

/-! ## Reports -/

theorem takeSourceWrite (c o b) : ClaimFree s (s.takeSourceWrite c o b) := by
  unfold State.takeSourceWrite; split
  · exact refl s
  · exact refl s
  · split
    · split
      · exact abort ..
      · exact ofKept (Kept.dirtyBlock ..) (by simp)
    · exact refl s

theorem decideClose (c) : ClaimFree s (s.decideClose c) := by
  unfold State.decideClose; split
  · split
    · exact refl s
    · exact cutover ..
  · exact refl s

theorem takeReports (l : List Report) : ∀ s : State, ClaimFree s (State.takeReports l s) := by
  induction l with
  | nil => exact fun s => refl s
  | cons x l ih =>
    intro s
    cases x with
    | sourceWrite => exact (takeSourceWrite s _ _ _).trans (ih _)
    | destWrite => exact (ofKept (Kept.takeDestWrite s _ _ _ _ _) (by simp)).trans (ih _)
    | close =>
      unfold State.takeReports; split
      · exact (ih s).trans (decideClose _ _)
      · exact ih s

theorem takeAllReports : ClaimFree s s.takeAllReports := (takeReports _ _).after rfl rfl

theorem takeHeadReport : ClaimFree s s.takeHeadReport := by
  unfold State.takeHeadReport; split
  · exact refl s
  · split
    · exact takeAllReports s
    · exact (takeReports _ _).after rfl rfl

theorem takeHeadIf (k) : ClaimFree s (s.takeHeadIf k) := by
  unfold State.takeHeadIf; split
  · split
    · exact takeHeadReport s
    · exact refl s
  · exact refl s

theorem makeReport (x) : ClaimFree s (s.makeReport x) := by
  unfold State.makeReport; dsimp only; split
  · exact ofRmt rfl rfl
  · exact (takeHeadReport s).trans (ofRmt rfl rfl)

theorem migrationChannelReset : ClaimFree s s.migrationChannelReset :=
  ((takeAllReports s).trans (endAllSilently _ _)).trans (purgeOutbound ..)

/-! ## The command path -/

theorem closeBank (r b) : ClaimFree s (s.closeBank r b) := by
  unfold State.closeBank; split
  · exact ((makeReport ..).trans (reportCloseToTable ..)).trans (setRecord ..)
  · exact refl s

theorem closeRank (r) : ClaimFree s (s.closeRank r) := foldl _ (fun s b => closeBank s r b) _ _

theorem reportWrite (g r b col) : ClaimFree s (s.reportWrite g r b col) := by
  unfold State.reportWrite; split
  · exact makeReport ..
  · exact makeReport ..
  · exact refl s

theorem closeBeforeLookup (r b) : ClaimFree s (s.closeBeforeLookup r b) := by
  unfold State.closeBeforeLookup; split
  · exact (closeBank ..).trans (tableTakesCloses _)
  · exact refl s

theorem activateData (g o) : ClaimFree s (s.activateData g o) := (closeBeforeLookup s _ _).trans (openBank ..)

theorem activateAlias (g r b n) : ClaimFree s (s.activateAlias g r b n) := by
  unfold State.activateAlias; dsimp only; split
  · exact ((closeBank ..).trans (openBank ..)).trans (violation _)
  · exact (closeBank ..).trans (openBank ..)

/-! ## Error notes -/

theorem slotNote (r b k) : ClaimFree s (s.slotNote r b k) := by
  unfold State.slotNote; split
  case h_3 =>
    split
    · exact abort ..
    · exact refl s
  all_goals exact ofRmt rfl rfl

theorem noteOnStage (i) : ClaimFree s (s.noteOnStage i) := by
  unfold State.noteOnStage; split
  · exact (dropStage ..).trans (raise ..)
  · exact refl s

theorem dataNote (o cls rep) : ClaimFree s (s.dataNote o cls rep) := by
  unfold State.dataNote; dsimp only; split
  · exact ofKept (Kept.scoreNote ..) (by simp)
  · exact (noteOnStage ..).trans (ofKept (Kept.scoreNote ..) (by simp))

theorem takeNote (n) : ClaimFree s (s.takeNote n) := by
  unfold State.takeNote; split
  · exact refl s
  · split
    · split
      · split
        · exact dataNote ..
        · exact slotNote ..
      · exact ofRmt rfl rfl
    · exact ofRmt rfl rfl

theorem takePassedNote (n) : ClaimFree s (s.takePassedNote n) := by
  unfold State.takePassedNote; split
  · split
    · exact (takeNote ..).after rfl rfl
    · exact refl s
  · exact refl s

/-! ## Messages -/

theorem linkFail : ClaimFree s s.linkFail :=
  ((((linkDown s).trans (endAllSilently _ _)).trans (clearAllHeld _)).trans (raise _ _)).trans (enterGreeting _)

theorem badFrame : ClaimFree s s.badFrame := by
  unfold State.badFrame; split
  · split
    · exact linkFail s
    · exact ofRmt rfl rfl
  · exact refl s

theorem greetAnew : ClaimFree s s.greetAnew :=
  (((queueGreeting s _).trans (endAllSilently _ _)).trans (clearAllHeld _)).trans (onlyHelloAck _)

theorem takeHello (l c) : ClaimFree s (s.takeHello l c) := by
  unfold State.takeHello; split
  · exact raise ..
  · split
    · exact refl s
    · exact ((linkUp s).trans (queueGreeting ..)).trans (endAllSilently ..)
    · exact greetAnew s

theorem receive (m) : ClaimFree s (s.receive m) := by
  unfold State.receive; split
  · split
    · exact ofKept ((Kept.goodFrame s).trans (Kept.passNote ..)) (by simp)
    · exact ofKept ((Kept.goodFrame s).trans (Kept.passReply ..)) (by simp)
    · exact (takeHello ..).after rfl rfl
    · exact ofKept ((Kept.goodFrame s).trans (Kept.takeHelloAck ..)) (by simp)
  · exact refl s

theorem answerStale (r) : ClaimFree s (s.answerStale r) := ofKept (Kept.answerStale s r) (s.sendStale_rmt _)

theorem endRound (c j) : ClaimFree s (s.endRound c j) := by
  unfold State.endRound; split
  · exact armOrCutover ..
  · exact afterUncleanRound ..

theorem fencedTest (c) : ClaimFree s (s.fencedTest c) := by
  unfold State.fencedTest; dsimp only; split
  · exact (takeAllReports s).trans (armOrCutover ..)
  · exact takeAllReports s

theorem takeAccept (r) : ClaimFree s (s.takeAccept r) := by
  unfold State.takeAccept; split
  · exact ofRmt rfl rfl
  · exact answerStale ..

theorem takeRefuse (r) : ClaimFree s (s.takeRefuse r) := by
  unfold State.takeRefuse; split
  · exact abort ..
  · exact answerStale ..

theorem takeDone (r) : ClaimFree s (s.takeDone r) := by
  unfold State.takeDone; split
  · dsimp only; split
    · exact (takeAllReports s).trans (endRound ..)
    · exact (takeAllReports s).trans (answerStale ..)
  · exact answerStale ..

theorem takeFenceSet (r) : ClaimFree s (s.takeFenceSet r) := by
  unfold State.takeFenceSet; split
  · dsimp only; split
    · exact (fencedTest ..).after rfl rfl
    · exact ofKept (Kept.startRound ..) (by simp)
  · exact answerStale ..

theorem takeFenceRelease (r) : ClaimFree s (s.takeFenceRelease r) := by
  unfold State.takeFenceRelease; split
  · exact ofRmt rfl rfl
  · exact answerStale ..

theorem takeReplyBody (r) : ClaimFree s (s.takeReplyBody r) := by
  unfold State.takeReplyBody; split
  · exact takeAccept ..
  · exact takeRefuse ..
  · exact takeDone ..
  · exact takeFenceSet ..
  · exact takeFenceRelease ..

theorem takePassedReply (r) : ClaimFree s (s.takePassedReply r) := by
  unfold State.takePassedReply; split
  · split
    · dsimp only; split
      · exact (takeReplyBody ..).after rfl rfl
      · exact ofRmt rfl rfl
    · exact refl s
  · exact refl s

theorem takeReply (r) : ClaimFree s (s.takeReply r) := by
  unfold State.takeReply; split
  · exact refl s
  · split
    · exact takePassedReply ..
    · exact (receive ..).trans (takePassedReply ..)

/-! ## Completions -/

theorem finishBurn (k i o n v) : ClaimFree s (s.finishBurn k i o n v) := by
  unfold State.finishBurn; split
  · have written : ClaimFree s ((s.setCells k (recordImage o n)).setLoadResult k (some (.loaded i))) := ofRmt rfl rfl
    exact (written.setEntry (.burned k (s.entry i))).trans (ofRmt (by simp) (by simp))
  · have drawn : ClaimFree s (s.drawFree.setCells k (failedRecord (recordCellsOf (Config.failedBurnCells s.freeCount)))) :=
      ofRmt rfl rfl
    exact (drawn.setEntry (.unstaged (s.entry i))).trans (ofRmt rfl rfl)

theorem burnCompletes (v) : ClaimFree s (s.burnCompletes v) := by
  unfold State.burnCompletes; split
  · exact finishBurn ..
  · exact refl s

theorem revokeCompletes (v) : ClaimFree s (s.revokeCompletes v) := by
  unfold State.revokeCompletes State.finishRevoke; split
  · split <;> exact ofRmt rfl rfl
  · exact refl s

theorem geometryCompletes (v) : ClaimFree s (s.geometryCompletes v) := by
  unfold State.geometryCompletes State.finishGeometry; split
  · split <;> exact ofRmt rfl rfl
  · exact refl s

/-! ## Requests -/

theorem whenLoaded (t) (h : ClaimFree s t) : ClaimFree s (s.whenLoaded t) := by
  unfold State.whenLoaded; split
  · exact refuse ..
  · exact h

theorem whenActive (k) (h : ∀ g, ClaimFree s (k g)) : ClaimFree s (s.whenActive k) := by
  unfold State.whenActive; split
  · exact h _
  · exact refuse ..

theorem whenSome {α : Type} (x : Option α) (k) (h : ∀ a, ClaimFree s (k a)) : ClaimFree s (s.whenSome x k) := by
  unfold State.whenSome; split
  · exact h _
  · exact refuse ..

theorem whenEngineFree (t) (h : ClaimFree s t) : ClaimFree s (s.whenEngineFree t) := by
  unfold State.whenEngineFree; split
  · exact refuse ..
  · split
    · exact refuse ..
    · exact h

theorem decideTableRead (i) : ClaimFree s (s.decideTableRead i) := whenLoaded s _ (whenSome s _ _ fun _ => answer ..)
theorem decideContextRead (c) : ClaimFree s (s.decideContextRead c) := whenLoaded s _ (whenSome s _ _ fun _ => answer ..)
theorem decideProfileRead (p) : ClaimFree s (s.decideProfileRead p) := whenLoaded s _ (whenSome s _ _ fun _ => answer ..)
theorem decideStoreRead (r) : ClaimFree s (s.decideStoreRead r) := whenLoaded s _ (whenSome s _ _ fun _ => answer ..)
theorem decideStoreStatus : ClaimFree s s.decideStoreStatus := whenLoaded s _ (answer ..)
theorem decideConditionRead : ClaimFree s s.decideConditionRead := whenLoaded s _ (answer ..)

theorem decideSlotRead (r b k) : ClaimFree s (s.decideSlotRead r b k) :=
  whenActive s _ fun _ => whenSome s _ _ fun _ => answer ..

theorem decideEditSelect (p) : ClaimFree s (s.decideEditSelect p) :=
  whenLoaded s _ (whenSome s _ _ fun _ => (ofPol s _).trans (answer ..))

theorem decideRunSelect (p) : ClaimFree s (s.decideRunSelect p) :=
  whenLoaded s _ (whenSome s _ _ fun _ => (ofPol s _).trans (answer ..))

theorem decideConditionClear (x) : ClaimFree s (s.decideConditionClear x) :=
  whenLoaded s _ (whenSome s _ _ fun _ => (clearConditions ..).trans (answer ..))

theorem decideAlertMask (x) : ClaimFree s (s.decideAlertMask x) :=
  whenLoaded s _ (whenSome s _ _ fun _ => (setAlertMask ..).trans (answer ..))

/-- R13, R14: only a LIVE entry is released, and RETIRING keeps its origin and MOVES. -/
theorem release {g i o k m st} (he : s.entry i = .live o k m st) : ClaimFree s (s.release g i o k m) := by
  unfold State.release; dsimp only; split
  · have retiring : (s.entry i).LeadsTo (.retiring o k m) := he ▸ ⟨fun _ h => h, id⟩
    exact ((cancelStageFor s i).setEntry retiring).trans ((answer ..).after rfl rfl)
  · exact ((cancelStageFor ..).trans (freeEntry ..)).trans (answer ..)

theorem decideRelease (x) : ClaimFree s (s.decideRelease x) :=
  whenActive s _ fun _ => whenSome s _ _ fun i => by
    split
    · exact refuse ..
    · split
      · exact refuse ..
      · exact release s ‹_›
    · exact refuse ..

/-- R159: a staged entry is LIVE before and after. -/
theorem stageEntry (i) : ClaimFree s (s.stageEntry i) := by
  unfold State.stageEntry; split
  · exact refuse ..
  · next o k m he =>
    split
    · exact refuse ..
    · split
      · next r _ =>
        have staged : (s.entry i).LeadsTo (.live o k m (some r)) := he ▸ ⟨fun _ h => h, id⟩
        have probation : ClaimFree s (s.setStage (.probation i r Config.probationLength Config.expiryLength)) := ofRmt rfl rfl
        exact (probation.setEntry staged).trans (answer ..)
      · exact refuse ..
  · exact refuse ..

theorem decideStage (x) : ClaimFree s (s.decideStage x) :=
  whenActive s _ fun _ => whenSome s _ _ fun _ => whenEngineFree s _ (by
    split
    · exact stageEntry ..
    · exact refuse ..)

theorem decideMove (x) : ClaimFree s (s.decideMove x) :=
  whenActive s _ fun _ => whenSome s _ _ fun i => by
    unfold State.answerLaunch; split
    · exact (launchMove s ‹_›).trans (answer ..)
    · exact refuse ..

theorem decideCancel (x) : ClaimFree s (s.decideCancel x) :=
  whenActive s _ fun _ => whenSome s _ _ fun _ => by
    split
    · exact (abort ..).trans (answer ..)
    · exact refuse ..

theorem decideLockStore : ClaimFree s s.decideLockStore :=
  whenLoaded s _ (((ofRmt rfl rfl : ClaimFree s s.setLock).trans (cancelStage _)).trans (answer ..))

theorem decideTableFind (r b w) : ClaimFree s (s.decideTableFind r b w) :=
  whenActive s _ fun _ => whenSome s _ _ fun _ => by split <;> exact answer ..

theorem decideTestBegin (r b k) : ClaimFree s (s.decideTestBegin r b k) :=
  whenActive s _ fun _ => whenSome s _ _ fun _ => by
    split
    · exact (answer ..).after rfl rfl
    · exact refuse ..

theorem decideTestEnd (r b k v) : ClaimFree s (s.decideTestEnd r b k v) :=
  whenActive s _ fun _ => whenSome s _ _ fun _ => by
    split
    · exact (answer ..).after rfl rfl
    · exact refuse ..

theorem decideSlotGrade (r b k v) : ClaimFree s (s.decideSlotGrade r b k v) :=
  whenActive s _ fun _ => whenSome s _ _ fun _ => by
    split
    · exact (answer ..).after rfl rfl
    · exact refuse ..

theorem decideWatchRead (p) : ClaimFree s (s.decideWatchRead p) :=
  whenLoaded s _ (whenSome s _ _ fun _ => by split <;> exact answer ..)

theorem decideWatchClear (r b w x) : ClaimFree s (s.decideWatchClear r b w x) :=
  whenActive s _ fun _ => whenSome s _ _ fun _ => by
    split
    · exact refuse ..
    · split
      · exact refuse ..
      · exact (answer ..).after rfl rfl

theorem decideProfileWrite (f v) : ClaimFree s (s.decideProfileWrite f v) :=
  whenLoaded s _ (whenSome s _ _ fun _ => by
    split
    · exact refuse ..
    · exact (answer ..).after rfl rfl)

theorem decideBurn : ClaimFree s s.decideBurn :=
  whenActive s _ fun _ => whenEngineFree s _ (by
    split
    · split
      · exact (answer ..).after rfl rfl
      · exact refuse ..
    all_goals exact refuse ..)

theorem decideRevoke (r) : ClaimFree s (s.decideRevoke r) :=
  whenActive s _ fun _ => whenSome s _ _ fun _ => whenEngineFree s _ (by
    split
    · exact (answer ..).after rfl rfl
    · exact refuse ..)

theorem decideBurnGeometry : ClaimFree s s.decideBurnGeometry :=
  whenLoaded s _ (whenEngineFree s _ (by
    split
    · split
      · exact (answer ..).after rfl rfl
      · exact refuse ..
    · exact refuse ..))

theorem decideWarmReset : ClaimFree s s.decideWarmReset := ofKept (Kept.decideWarmReset s) (by
  unfold State.decideWarmReset State.whenLoaded; split
  · simp [State.refuse]
  · exact s.compose_rmt _ _)

/-! ## Parts of a warm reset -/

theorem takeWarmPart (p) (e : State → State) (h : ClaimFree s (e s)) : ClaimFree s (s.takeWarmPart p e) := by
  unfold State.takeWarmPart; split
  · exact h.trans (ofRmt rfl rfl)
  · exact refl s

theorem warmMigration : ClaimFree s s.warmMigration := by
  unfold State.warmMigration; dsimp only; split
  · exact endAllSilently s _
  · exact (endAllSilently s _).trans (purgeOutbound ..)

theorem warmLink : ClaimFree s s.warmLink :=
  (((linkDown s).trans (endAllSilently _ _)).trans (clearAllHeld _)).trans (enterGreeting _)

/-! ## Commands with a condition of their own -/

theorem ofNext {s t u : State} (a : ClaimFree s u) (h : (.next u : Host.Outcome State Fault Refusal) = .next t) :
    ClaimFree s t := Host.Outcome.next.inj h ▸ a

variable {s} {t : State}

theorem execActivate {r b row} (h : execActivate r b row s = .next t) : ClaimFree s t := by
  refine ofNext ?_ h
  split
  · exact passThrough ..
  · dsimp only; split
    · exact activateData ..
    · exact activateAlias ..

theorem execWrite {r b col} (h : execWrite r b col s = .next t) : ClaimFree s t := by
  refine ofNext ?_ h
  split
  · exact passThrough ..
  · exact (forward ..).trans (reportWrite ..)

theorem execReadAp {r b col} (h : execReadAp r b col s = .next t) : ClaimFree s t := by
  refine ofNext ?_ h
  split
  · exact passThrough ..
  · exact (forward ..).trans (closeBank ..)

theorem execWriteAp {r b col} (h : execWriteAp r b col s = .next t) : ClaimFree s t := by
  refine ofNext ?_ h
  split
  · exact passThrough ..
  · exact ((forward ..).trans (reportWrite ..)).trans (closeBank ..)

theorem execPrecharge {r b} (h : execPrecharge r b s = .next t) : ClaimFree s t := by
  refine ofNext ?_ h
  split
  · exact passThrough ..
  · exact (forward ..).trans (closeBank ..)

theorem execPrechargeAll {r} (h : execPrechargeAll r s = .next t) : ClaimFree s t := by
  refine ofNext ?_ h
  split
  · exact passThrough ..
  · exact (forward ..).trans (closeRank ..)

theorem execRefresh {r} (h : execRefresh r s = .next t) : ClaimFree s t := by
  refine ofNext ?_ h
  split
  · exact passThrough ..
  · exact (forward ..).trans (closeRank ..)

theorem execChannelReset (h : execChannelReset s = .next t) : ClaimFree s t := by
  refine ofNext ?_ h
  split
  · exact refl s
  · split
    · split
      · exact setResetLine ..
      · exact (channelResetEvent s).trans (setResetLine ..)
    · exact setResetLine ..

theorem execChannelResetMigration (h : execChannelResetMigration s = .next t) : ClaimFree s t := by
  refine ofNext ?_ h
  split
  · exact refl s
  · exact (ofMge s _).trans (migrationChannelReset _)

theorem execChannelResetTable (h : execChannelResetTable s = .next t) : ClaimFree s t := by
  refine ofNext ?_ h
  split
  · exact refl s
  · have taken : ClaimFree s { s with rmt := { s.rmt with channelResets := s.rmt.channelResets - 1 } } := ofEntries rfl rfl
    exact taken.trans (freeAllRetiring _)

theorem execCloseReportTable (h : execCloseReportTable s = .next t) : ClaimFree s t := by
  refine ofNext ?_ h
  split
  · exact refl s
  · next rest _ =>
    have taken : ClaimFree s { s with rmt := { s.rmt with closes := rest } } := ofEntries rfl rfl
    exact taken.trans (tableClose _ _)

theorem execInboundFrame {bytes} (h : execInboundFrame bytes s = .next t) : ClaimFree s t := by
  refine ofNext ?_ h
  split
  · exact refl s
  · split
    · exact receive ..
    · exact badFrame s

theorem execErrorNote {n} (h : execErrorNote n s = .next t) : ClaimFree s t := by
  refine ofNext ?_ h
  split
  · exact refl s
  · split
    · exact takePassedNote ..
    · split
      · exact badFrame s
      · exact (receive ..).trans (takePassedNote ..)

theorem execTransmitBegin (h : execTransmitBegin s = .next t) : ClaimFree s t := by
  refine ofNext ?_ h
  split
  · exact transmitHead s
  · exact refl s

theorem execRetryTimerExpiry (h : execRetryTimerExpiry s = .next t) : ClaimFree s t := by
  refine ofNext ?_ h
  split
  · exact retry s
  · exact refl s

theorem execDecayBoundary (h : execDecayBoundary s = .next t) : ClaimFree s t := by
  refine ofNext ?_ h
  split
  · exact decayBoundary s
  · exact refl s

theorem execRequestFrame {bytes} (h : execRequestFrame bytes s = .next t) : ClaimFree s t := by
  refine ofNext ?_ h
  split
  · exact refl s
  · exact takeFrame ..

end ClaimFree

end Sys2Proof.Machine
end

section
/-!
SUPPORT. The two laws of the Remap Table through every step (R4, R11): `TableLawsKept s t` says that both carry over from
`s` to `t`. Only a FIRST launch and the load claim an origin. Each claims one that no entry has: the launch by its lookup
(R8), the load by the list of what it has loaded (R157).
-/

namespace Sys2Proof.Machine

/-- No two entries outside FREE share an origin: the first clause of `State.OriginsUnique`. -/
def State.OriginsApart (s : State) : Prop :=
  ∀ i k o, (s.entry i).origin = some o → (s.entry k).origin = some o → i = k

/-- Both laws of the Remap Table carry over from `s` to `t`. -/
structure TableLawsKept (s t : State) : Prop where
  moves : s.MovesBounded → t.MovesBounded
  origins : s.OriginsUnique → t.OriginsUnique

theorem Entry.eq_free_iff (e : Entry) : e = .free ↔ ∀ o, e.origin ≠ some o := by cases e <;> simp [Entry.origin]

theorem State.originsApart_of_free {s : State} (h : ∀ i, s.entry i = .free) : s.OriginsApart :=
  fun i _ o hi => absurd hi ((s.entry i).eq_free_iff.1 (h i) o)

/-- A claim of an origin that no entry has keeps the origins apart. -/
theorem State.OriginsApart.claim {s t : State} (h : s.OriginsApart) {i : EntryIx} {e : Entry}
    (written : ∀ k, t.entry k = if k = i then e else s.entry k) {o : Origin} (he : e.origin = some o) (fresh : s.holdsNo o) :
    t.OriginsApart := by
  intro a b o' ha hb
  rw [written] at ha hb
  split at ha <;> split at hb
  · next hai hbi => exact hai.trans hbi.symm
  · have : o = o' := Option.some.inj (he.symm.trans ha)
    exact absurd hb (this ▸ fresh b)
  · have : o = o' := Option.some.inj (he.symm.trans hb)
    exact absurd ha (this ▸ fresh a)
  · exact h a b o' ha hb

theorem State.MovesBounded.write {s t : State} (h : s.MovesBounded) {i : EntryIx} {e : Entry}
    (written : ∀ k, t.entry k = if k = i then e else s.entry k) (he : e.MovesBounded) : t.MovesBounded := by
  intro k
  rw [written]
  split
  · exact he
  · exact h k

theorem ClaimFree.lawsKept {s t : State} (a : ClaimFree s t) : TableLawsKept s t where
  moves h i := (a.entry i).moves (h i)
  origins := fun ⟨apart, blank⟩ =>
    ⟨fun i k o hi hk => apart i k o ((a.entry i).origin o hi) ((a.entry k).origin o hk), fun hg i => by
      have hs : s.geometry = none := by rw [← hg, State.geometry, State.geometry, a.mode]
      exact (t.entry i).eq_free_iff.2 fun o ho => (s.entry i).eq_free_iff.1 (blank hs i) o ((a.entry i).origin o ho)⟩

/-- R3. -/
theorem State.reset_entry (i : EntryIx) : State.reset.entry i = .free := by
  simp [State.entry, State.reset, RemapTable.reset]

namespace TableLawsKept

theorem refl (s : State) : TableLawsKept s s := ⟨id, id⟩

theorem trans {s t u : State} (a : TableLawsKept s t) (b : TableLawsKept t u) : TableLawsKept s u :=
  ⟨fun h => b.moves (a.moves h), fun h => b.origins (a.origins h)⟩

/-- An empty table meets both laws. -/
theorem ofFree {s t : State} (h : ∀ i, t.entry i = .free) : TableLawsKept s t where
  moves _ i := h i ▸ trivial
  origins _ := ⟨State.originsApart_of_free h, fun _ => h⟩

variable (s : State)

/-! ## The FIRST launch and the policy -/

/-- R8: what a granted FIRST launch has found, and what it does. -/
theorem launchFirst_eq_launched {s : State} {o : Origin} {c : Ctx} {t : State} (h : s.launchFirst o = .launched c t) :
    s.geometry ≠ none ∧ s.holdsNo o ∧ ∃ i k, t = s.launch c .first i (.forming o k c) o k ⟨o, .origin⟩ := by
  unfold State.launchFirst at h
  split at h
  · cases h
  · split at h
    · cases h
    · next hg =>
      split at h
      · split at h
        · cases h
        · next hl =>
          split at h
          · cases h
          · split at h
            · cases h
            · cases h
              exact ⟨by simp [hg], (s.lookup_eq_none o).1 hl, _, _, rfl⟩
      · cases h

theorem launchFirst {s : State} {o : Origin} {c : Ctx} {t : State} (h : s.launchFirst o = .launched c t) :
    TableLawsKept s t := by
  obtain ⟨active, fresh, i, k, rfl⟩ := launchFirst_eq_launched h
  have claimed : TableLawsKept s (s.setEntry i (.forming o k c)) :=
    ⟨fun h => State.MovesBounded.write h (s.setEntry_entry i · _) trivial, fun ⟨apart, _⟩ =>
      ⟨State.OriginsApart.claim apart (s.setEntry_entry i · _) rfl fresh, fun hg => absurd hg active⟩⟩
  exact claimed.trans (ClaimFree.launch ..).lawsKept

theorem launchFailed (k l f c) : TableLawsKept s (s.launchFailed k l f c) :=
  (ClaimFree.launchFailed s k l f c).lawsKept

theorem afterLaunch (k l x) (h : ∀ c t, x = Launch.launched c t → TableLawsKept s t) :
    TableLawsKept s (s.afterLaunch k l x) := by
  unfold State.afterLaunch; split
  · exact (h _ _ rfl).trans (ClaimFree.setLastFailure ..).lawsKept
  · exact launchFailed ..
  · exact launchFailed ..
  · exact refl s

theorem actOn (k l d) : TableLawsKept s (s.actOn k l d) := by
  unfold State.actOn; split
  · exact afterLaunch s _ _ _ fun _ _ h => launchFirst h
  · exact afterLaunch s _ _ _ fun _ _ h => (ClaimFree.launchMove s h).lawsKept
  · exact launchFailed ..
  · exact refl s

theorem consider (k) : TableLawsKept s (s.consider k) := by
  unfold State.consider; split
  · split
    · exact actOn ..
    · exact refl s
  · exact refl s

theorem passStep : TableLawsKept s s.passStep := by
  unfold State.passStep; split
  · exact (ClaimFree.ofPol s _).lawsKept.trans (consider ..)
  · exact refl s

theorem takeNomination : TableLawsKept s s.takeNomination := by
  unfold State.takeNomination; split
  · dsimp only; split
    · exact (ClaimFree.ofPol s _).lawsKept.trans (consider ..)
    · exact (ClaimFree.ofPol s _).lawsKept
  · exact refl s

theorem decideRepair (r b w) : TableLawsKept s (s.decideRepair r b w) := by
  unfold State.decideRepair State.whenActive; split
  · dsimp only [State.whenSome]; split
    · dsimp only [State.answerLaunch]; split
      · exact (launchFirst ‹_›).trans (ClaimFree.answer ..).lawsKept
      · exact (ClaimFree.refuse ..).lawsKept
    · exact (ClaimFree.refuse ..).lawsKept
  · exact (ClaimFree.refuse ..).lawsKept

end TableLawsKept

/-! ## The load -/

/-- Every origin in the table is one of a record loaded, and they are apart. -/
structure Loading.Sound (x : Loading) : Prop where
  apart : x.state.OriginsApart
  named : ∀ i o, (x.state.entry i).origin = some o → ∃ y ∈ x.loaded, y.origin = o

/-- R156, R157: a record leaves the table alone, or is loaded into it after the checks against the records loaded before. -/
theorem loadRecord_cases (g : Geometry) (x : Loading) (k : RecIx) :
    ((loadRecord g x k).state.rmt = x.state.rmt ∧ (loadRecord g x k).loaded = x.loaded) ∨
    ∃ i y, y.loadable g x.loaded = true ∧ loadRecord g x k = ⟨x.state.loadRepair k i y, y :: x.loaded⟩ := by
  unfold loadRecord
  split
  · exact .inl ⟨rfl, rfl⟩
  · exact .inl ⟨rfl, rfl⟩
  · exact .inl ⟨rfl, rfl⟩
  · split
    · split
      · exact .inr ⟨_, _, ‹_›, rfl⟩
      · exact .inl ⟨rfl, rfl⟩
    · exact .inl ⟨rfl, rfl⟩

theorem State.loadRepair_entry (s : State) (k : RecIx) (i i' : EntryIx) (y : Repair) :
    (s.loadRepair k i y).entry i' = if i' = i then .permanent y.origin y.slot 0 k else s.entry i' := s.setEntry_entry ..

theorem State.entry_eq_of_rmt_eq {s t : State} (h : t.rmt = s.rmt) (i : EntryIx) : t.entry i = s.entry i := by
  unfold State.entry; rw [h]

/-- R157: an origin that a record may load is none of those loaded before. -/
theorem Repair.origin_ne_of_loadable {y z : Repair} {g : Geometry} {l : List Repair} (h : y.loadable g l = true) (hz : z ∈ l) :
    z.origin ≠ y.origin := by
  simp only [Repair.loadable, Bool.and_eq_true, Bool.not_eq_true', List.any_eq_false, Bool.or_eq_true, not_or] at h
  obtain ⟨-, checked⟩ := h
  simpa using (checked z hz).1

theorem Loading.Sound.loadRecord {x : Loading} (h : x.Sound) (g : Geometry) (k : RecIx) : (loadRecord g x k).Sound := by
  rcases loadRecord_cases g x k with ⟨hr, hl⟩ | ⟨i, y, hy, he⟩
  · have same := State.entry_eq_of_rmt_eq hr
    refine ⟨fun a b o ha hb => h.apart a b o (same a ▸ ha) (same b ▸ hb), fun a o ha => ?_⟩
    rw [hl]
    exact h.named a o (same a ▸ ha)
  · rw [he]
    have fresh : x.state.holdsNo y.origin := fun a ha => by
      obtain ⟨z, hz, hzo⟩ := h.named a _ ha
      exact Repair.origin_ne_of_loadable hy hz hzo
    refine ⟨h.apart.claim (State.loadRepair_entry _ k i · y) rfl fresh, fun a o ha => ?_⟩
    rw [State.loadRepair_entry] at ha
    split at ha
    · exact ⟨y, List.mem_cons_self, Option.some.inj ha⟩
    · obtain ⟨z, hz, hzo⟩ := h.named a o ha
      exact ⟨z, List.mem_cons_of_mem _ hz, hzo⟩

/-- What a record of the load keeps, the load keeps. -/
theorem State.load_induction {P : Loading → Prop} {s : State} {g : Geometry} (start : P ⟨s, []⟩)
    (next : ∀ x k, P x → P (Machine.loadRecord g x k)) : P (s.load g) :=
  List.foldlRecOn _ _ start fun x hx k _ => next x k hx

theorem State.load_sound {s : State} (h : ∀ i, s.entry i = .free) (g : Geometry) : (s.load g).Sound :=
  State.load_induction
    ⟨State.originsApart_of_free h, fun i o ho => absurd ho ((s.entry i).eq_free_iff.1 (h i) o)⟩
    fun _ k hx => hx.loadRecord g k

/-- R17: a loaded entry has MOVES 0. -/
theorem loadRecord_movesBounded {x : Loading} (h : x.state.MovesBounded) (g : Geometry) (k : RecIx) :
    (loadRecord g x k).state.MovesBounded := by
  rcases loadRecord_cases g x k with ⟨hr, -⟩ | ⟨i, y, -, he⟩
  · exact fun a => State.entry_eq_of_rmt_eq hr a ▸ h a
  · rw [he]
    exact State.MovesBounded.write h (State.loadRepair_entry _ k i · y) (Nat.zero_le 3)

theorem State.load_movesBounded {s : State} (h : s.MovesBounded) (g : Geometry) : (s.load g).state.MovesBounded :=
  @State.load_induction (fun x => x.state.MovesBounded) s g h fun _ k hx => loadRecord_movesBounded hx g k

theorem State.enterActive_rmt (s : State) (g : Geometry) : (s.enterActive g).rmt = (s.load g).state.rmt := by
  unfold State.enterActive
  generalize (s.load g).state = t
  exact t.applyPendingRun_rmt

namespace TableLawsKept

variable (s : State)

/-- A state in ACTIVE whose table is that of a sound load. -/
theorem ofLoading {s t : State} {x : Loading} (ht : t.rmt = x.state.rmt) (active : t.geometry ≠ none)
    (moves : s.MovesBounded → x.state.MovesBounded) (sound : s.OriginsUnique → x.Sound) : TableLawsKept s t where
  moves h i := State.entry_eq_of_rmt_eq ht i ▸ moves h i
  origins h := by
    refine ⟨fun i k o hi hk => ?_, fun hg => absurd hg active⟩
    rw [State.entry_eq_of_rmt_eq ht] at hi hk
    exact (sound h).apart i k o hi hk

theorem enterActive {s : State} (hs : s.geometry = none) (g : Geometry) : TableLawsKept s (s.enterActive g) :=
  ofLoading (s.enterActive_rmt g) nofun (fun h => @State.load_movesBounded s h g) fun h => State.load_sound (h.2 hs) g

/-- Before the part is ACTIVE, UNCONFIGURED leaves the table empty. -/
theorem unconfigured {s t : State} (hs : s.geometry = none) (ht : t.rmt = s.rmt) : TableLawsKept s t where
  moves h i := State.entry_eq_of_rmt_eq ht i ▸ h i
  origins := fun ⟨_, blank⟩ => (ofFree (s := s) fun i => State.entry_eq_of_rmt_eq ht i ▸ blank hs i).origins ‹_›

theorem afterRead {s : State} (hs : s.geometry = none) : TableLawsKept s s.afterRead := by
  unfold State.afterRead; split
  · exact enterActive hs _
  · exact unconfigured hs rfl
  · exact unconfigured hs rfl

theorem decideConfigure (r w) : TableLawsKept s (s.decideConfigure r w) := by
  unfold State.decideConfigure; split
  · exact (ClaimFree.refuse ..).lawsKept
  · exact (ClaimFree.refuse ..).lawsKept
  · next hm =>
    unfold State.whenSome; split
    · exact (enterActive (by simp [State.geometry, Mode.geometry, hm]) _).trans (ClaimFree.answer ..).lawsKept
    · exact (ClaimFree.refuse ..).lawsKept

/-! ## Commands -/

theorem ofNext {s t u : State} (h : (.next u : Host.Outcome State Fault Refusal) = .next t) (a : TableLawsKept s u) :
    TableLawsKept s t := Host.Outcome.next.inj h ▸ a

theorem execLoadComplete {s t : State} (h : execLoadComplete s = .next t) : TableLawsKept s t := by
  refine ofNext h ?_
  split
  · exact refl s
  · next hc =>
    have loading : s.mode = .loading := by simpa using (not_or.1 hc).2
    have inactive : s.geometry = none := by rw [State.geometry, loading]; rfl
    have greets (u : State) : ClaimFree u { u with ready := true }.enterGreeting := .ofRmt rfl rfl
    exact (afterRead inactive).trans (greets _).lawsKept

theorem takeRequest (q) (d : State → State) (h : ∀ s, TableLawsKept s (d s)) : TableLawsKept s (s.takeRequest q d) := by
  unfold State.takeRequest; split
  · exact refl s
  · have taken : TableLawsKept s (if s.port.awaits q then s else s.acceptRequest 0 q) := by
      split
      · exact refl s
      · exact (ClaimFree.acceptRequest ..).lawsKept
    dsimp only
    generalize (if s.port.awaits q then s else s.acceptRequest 0 q) = t at taken
    split
    · exact taken.trans (h t)
    · exact taken

end TableLawsKept

end Sys2Proof.Machine
end

section
/-! The two laws of the Remap Table through every command, and the statements about them. -/

namespace Sys2Proof.Machine

open ClaimFree in
/-- R4, R11: both laws of the Remap Table carry over from a state to the next, whatever the command. -/
theorem exec_keepsTableLaws {c : Instr} {s t : State} (h : exec c s = .next t) : TableLawsKept s t := by
  cases c with
  | powerOn => exact .ofNext h (.ofFree State.reset_entry)
  | powerOnResetAssert => exact .ofNext h (.ofFree State.reset_entry)
  | loadComplete => exact .execLoadComplete h
  -- the command path
  | activate => exact (ClaimFree.execActivate h).lawsKept
  | read => exact ((passThrough ..).ofNext h).lawsKept
  | write => exact (ClaimFree.execWrite h).lawsKept
  | readAp => exact (ClaimFree.execReadAp h).lawsKept
  | writeAp => exact (ClaimFree.execWriteAp h).lawsKept
  | precharge => exact (ClaimFree.execPrecharge h).lawsKept
  | prechargeAll => exact (ClaimFree.execPrechargeAll h).lawsKept
  | refresh => exact (ClaimFree.execRefresh h).lawsKept
  | otherCommand => exact ((passThrough ..).ofNext h).lawsKept
  | channelReset => exact (ClaimFree.execChannelReset h).lawsKept
  | channelResetDeassert => exact ((setResetLine ..).ofNext h).lawsKept
  -- reports
  | channelResetMigration => exact (ClaimFree.execChannelResetMigration h).lawsKept
  | channelResetTable => exact (ClaimFree.execChannelResetTable h).lawsKept
  | sourceWriteReport => exact ((takeHeadIf ..).ofNext h).lawsKept
  | destWriteReport => exact ((takeHeadIf ..).ofNext h).lawsKept
  | closeReportMigration => exact ((takeHeadIf ..).ofNext h).lawsKept
  | closeReportTable => exact (ClaimFree.execCloseReportTable h).lawsKept
  -- the link
  | inboundFrame => exact (ClaimFree.execInboundFrame h).lawsKept
  | badFrame => exact ((badFrame s).ofNext h).lawsKept
  | errorNote => exact (ClaimFree.execErrorNote h).lawsKept
  | copyAccept => exact ((takeReply ..).ofNext h).lawsKept
  | copyRefuse => exact ((takeReply ..).ofNext h).lawsKept
  | copyDone => exact ((takeReply ..).ofNext h).lawsKept
  | fenceAckSet => exact ((takeReply ..).ofNext h).lawsKept
  | fenceAckRelease => exact ((takeReply ..).ofNext h).lawsKept
  | hello => exact ((receive ..).ofNext h).lawsKept
  | helloAck => exact ((receive ..).ofNext h).lawsKept
  | transmitBegin => exact (ClaimFree.execTransmitBegin h).lawsKept
  -- timers
  | retryTimerExpiry => exact (ClaimFree.execRetryTimerExpiry h).lawsKept
  | offerTimerExpiry => exact ((expire ..).ofNext h).lawsKept
  | roundTimerExpiry => exact ((expire ..).ofNext h).lawsKept
  | armTimerExpiry => exact ((expire ..).ofNext h).lawsKept
  | fenceTimerExpiry => exact ((expire ..).ofNext h).lawsKept
  | closingFenceTimerExpiry => exact ((closingExpiry ..).ofNext h).lawsKept
  | decayBoundary => exact (ClaimFree.execDecayBoundary h).lawsKept
  | probationTimerExpiry => exact ((setStage ..).ofNext h).lawsKept
  | stageExpired => exact ((stageExpiry s).ofNext h).lawsKept
  -- the Policy Unit and the burn engine
  | retryPassStep => exact .ofNext h (.passStep s)
  | nominationTake => exact .ofNext h (.takeNomination s)
  | burnComplete => exact ((burnCompletes ..).ofNext h).lawsKept
  | revokeComplete => exact ((revokeCompletes ..).ofNext h).lawsKept
  | burnGeometryComplete => exact ((geometryCompletes ..).ofNext h).lawsKept
  -- requests
  | requestFrame => exact (ClaimFree.execRequestFrame h).lawsKept
  | tableRead => exact .ofNext h (.takeRequest s _ _ fun s => (decideTableRead s _).lawsKept)
  | tableFind => exact .ofNext h (.takeRequest s _ _ fun s => (decideTableFind s _ _ _).lawsKept)
  | release => exact .ofNext h (.takeRequest s _ _ fun s => (decideRelease s _).lawsKept)
  | slotRead => exact .ofNext h (.takeRequest s _ _ fun s => (decideSlotRead s _ _ _).lawsKept)
  | slotTestBegin => exact .ofNext h (.takeRequest s _ _ fun s => (decideTestBegin s _ _ _).lawsKept)
  | slotTestEnd => exact .ofNext h (.takeRequest s _ _ fun s => (decideTestEnd s _ _ _ _).lawsKept)
  | slotGrade => exact .ofNext h (.takeRequest s _ _ fun s => (decideSlotGrade s _ _ _ _).lawsKept)
  | contextRead => exact .ofNext h (.takeRequest s _ _ fun s => (decideContextRead s _).lawsKept)
  | repair => exact .ofNext h (.takeRequest s _ _ fun s => .decideRepair s _ _ _)
  | move => exact .ofNext h (.takeRequest s _ _ fun s => (decideMove s _).lawsKept)
  | cancel => exact .ofNext h (.takeRequest s _ _ fun s => (decideCancel s _).lawsKept)
  | watchRead => exact .ofNext h (.takeRequest s _ _ fun s => (decideWatchRead s _).lawsKept)
  | watchClear => exact .ofNext h (.takeRequest s _ _ fun s => (decideWatchClear s _ _ _ _).lawsKept)
  | profileRead => exact .ofNext h (.takeRequest s _ _ fun s => (decideProfileRead s _).lawsKept)
  | profileEditSelect => exact .ofNext h (.takeRequest s _ _ fun s => (decideEditSelect s _).lawsKept)
  | profileWrite => exact .ofNext h (.takeRequest s _ _ fun s => (decideProfileWrite s _ _).lawsKept)
  | profileRunSelect => exact .ofNext h (.takeRequest s _ _ fun s => (decideRunSelect s _).lawsKept)
  | configure => exact .ofNext h (.takeRequest s _ _ fun s => .decideConfigure s _ _)
  | stage => exact .ofNext h (.takeRequest s _ _ fun s => (decideStage s _).lawsKept)
  | burn => exact .ofNext h (.takeRequest s _ _ fun s => (decideBurn s).lawsKept)
  | revoke => exact .ofNext h (.takeRequest s _ _ fun s => (decideRevoke s _).lawsKept)
  | burnGeometry => exact .ofNext h (.takeRequest s _ _ fun s => (decideBurnGeometry s).lawsKept)
  | lockStore => exact .ofNext h (.takeRequest s _ _ fun s => (decideLockStore s).lawsKept)
  | storeRead => exact .ofNext h (.takeRequest s _ _ fun s => (decideStoreRead s _).lawsKept)
  | storeStatus => exact .ofNext h (.takeRequest s _ _ fun s => (decideStoreStatus s).lawsKept)
  | conditionRead => exact .ofNext h (.takeRequest s _ _ fun s => (decideConditionRead s).lawsKept)
  | conditionClear => exact .ofNext h (.takeRequest s _ _ fun s => (decideConditionClear s _).lawsKept)
  | alertMask => exact .ofNext h (.takeRequest s _ _ fun s => (decideAlertMask s _).lawsKept)
  | warmReset => exact .ofNext h (.takeRequest s _ _ fun s => (decideWarmReset s).lawsKept)
  -- the parts of a warm reset
  | warmResetMigration => exact ((takeWarmPart s _ _ (warmMigration s)).ofNext h).lawsKept
  | warmResetLink => exact ((takeWarmPart s _ _ (warmLink s)).ofNext h).lawsKept
  | warmResetWatch => exact ((takeWarmPart s _ _ (setItems s _)).ofNext h).lawsKept
  | warmResetSlots => exact ((takeWarmPart s _ _ (endTests s)).ofNext h).lawsKept
  | warmResetStore => exact ((takeWarmPart s _ _ (cancelStage s)).ofNext h).lawsKept
  | warmResetConditions => exact ((takeWarmPart s _ _ (clearConditions s _)).ofNext h).lawsKept

/-- R4, R11: both laws of the Remap Table carry over in every step. -/
theorem step_keepsTableLaws {s t : State} (h : step s = .next t) : TableLawsKept s t := by
  unfold step at h
  split at h
  · cases h
    exact (ClaimFree.ofKept (Kept.tick s) s.tick_rmt).lawsKept
  · next c rest _ =>
    exact (ClaimFree.ofRmt rfl rfl : ClaimFree s { s with pending := rest }).lawsKept.trans (exec_keepsTableLaws h)

/-- Settles O7: a MOVE launch finds MOVES below 3, and only its cutover counts one more. -/
theorem stepKeepsMovesBounded : Obligations.StepKeepsMovesBounded :=
  fun _ _ hs h => (step_keepsTableLaws h).moves hs

/-- Settles O9: only a FIRST launch and the load claim an origin, and each claims one that no entry has. -/
theorem stepKeepsOriginsUnique : Obligations.StepKeepsOriginsUnique :=
  fun _ _ hs h => (step_keepsTableLaws h).origins hs

end Sys2Proof.Machine
end

section
/-! SUPPORT. Freeing an entry (R16), the close report that frees one (R15) and the answers of RELEASE (R13, R14). -/

namespace Sys2Proof.Machine

variable (s : State)

/-! ## Freeing an entry -/

@[simp] theorem State.freeEntry_entry (i i' : EntryIx) (o : Origin) (k : SlotNo) :
    (s.freeEntry i o k).entry i' = if i' = i then .free else s.entry i' := s.setEntry_entry i i' .free

@[simp] theorem State.freeEntry_slot (i : EntryIx) (o : Origin) (k : SlotNo) (r : Rank) (b : Bank) (k' : SlotNo) :
    (s.freeEntry i o k).slot r b k' =
      if r = o.rank ∧ b = o.bank ∧ k' = k then ⟨.free, (s.slot o.rank o.bank k).grade⟩ else s.slot r b k' :=
  s.setSlot_slot o.rank r o.bank b k k' ⟨.free, (s.slot o.rank o.bank k).grade⟩

@[simp] theorem State.freeEntry_mode (i : EntryIx) (o : Origin) (k : SlotNo) : (s.freeEntry i o k).mode = s.mode := rfl
@[simp] theorem State.freeEntry_ctr (i : EntryIx) (o : Origin) (k : SlotNo) : (s.freeEntry i o k).ctr = s.ctr := rfl
@[simp] theorem State.freeEntry_mge (i : EntryIx) (o : Origin) (k : SlotNo) : (s.freeEntry i o k).mge = s.mge := rfl
@[simp] theorem State.freeEntry_sbl (i : EntryIx) (o : Origin) (k : SlotNo) : (s.freeEntry i o k).sbl = s.sbl := rfl
@[simp] theorem State.freeEntry_pol (i : EntryIx) (o : Origin) (k : SlotNo) : (s.freeEntry i o k).pol = s.pol := rfl
@[simp] theorem State.freeEntry_rst (i : EntryIx) (o : Origin) (k : SlotNo) : (s.freeEntry i o k).rst = s.rst := rfl
@[simp] theorem State.freeEntry_port (i : EntryIx) (o : Origin) (k : SlotNo) : (s.freeEntry i o k).port = s.port := rfl
@[simp] theorem State.removeSlotItems_wls (o : Origin) :
    (s.removeSlotItems o).wls = { s.wls with items := s.wls.items.filter fun a => !a.isSlotItemOf o } := rfl
@[simp] theorem State.freeEntry_wls (i : EntryIx) (o : Origin) (k : SlotNo) :
    (s.freeEntry i o k).wls = { s.wls with items := s.wls.items.filter fun a => !a.isSlotItemOf o } := rfl
@[simp] theorem State.freeEntry_generation (i : EntryIx) (o : Origin) (k : SlotNo) :
    (s.freeEntry i o k).rmt.generation = s.rmt.generation + 1 := rfl
@[simp] theorem State.freeEntry_closes (i : EntryIx) (o : Origin) (k : SlotNo) :
    (s.freeEntry i o k).rmt.closes = s.rmt.closes := rfl

theorem State.freeEntry_slotsExcept (i : EntryIx) (o : Origin) (k : SlotNo) :
    s.SlotsExcept (s.freeEntry i o k) o.rank o.bank k := by
  intro r b k' hne
  rw [State.freeEntry_slot, if_neg fun ⟨hr, hb, hk⟩ => hne (by rw [hr, hb, hk])]

/-! ## The close report -/

/-- R26: the row of a slot, as the statements write it. -/
theorem Geometry.slotRow_eq (g : Geometry) (k : SlotNo) : g.slotRow k = g.n - 16 + k.val := rfl

/-- R15. -/
theorem Entry.endedBy_iff (e : Entry) (g : Geometry) (x : CloseReport) :
    e.endedBy g x = true ↔
      ∃ o k m, e = .retiring o k m ∧ o.rank = x.rank ∧ o.bank = x.bank ∧ x.physical = g.n - 16 + k.val := by
  cases e with
  | retiring o k m =>
    simp only [Entry.endedBy, Bool.and_eq_true, beq_iff_eq, Geometry.slotRow_eq, and_assoc]
    constructor
    · rintro ⟨hr, hb, hp⟩
      exact ⟨o, k, m, rfl, hr, hb, hp.symm⟩
    · rintro ⟨_, _, _, he, hr, hb, hp⟩
      cases he
      exact ⟨hr, hb, hp.symm⟩
  | _ => simp [Entry.endedBy]

theorem State.retiringAt_eq_some (g : Geometry) (x : CloseReport) (i : EntryIx) :
    s.retiringAt g x = some i ↔ (s.entry i).endedBy g x = true ∧ ∀ i', i' < i → (s.entry i').endedBy g x = false :=
  find?_finRange_eq_some _ i

theorem State.retiringAt_eq_none (g : Geometry) (x : CloseReport) :
    s.retiringAt g x = none ↔ ∀ i, (s.entry i).endedBy g x = false := find?_finRange_eq_none _

variable {s} {g : Geometry}

theorem State.geometry_of_active (hm : s.mode = .active g) : s.geometry = some g := by rw [State.geometry, hm]; rfl

/-- R15: the close of the row that a RETIRING entry serves frees that entry. -/
theorem State.tableClose_of_retiring {x : CloseReport} {i : EntryIx} {o : Origin} {k : SlotNo} {m : Nat}
    (hm : s.mode = .active g) (hi : s.retiringAt g x = some i) (he : s.entry i = .retiring o k m) :
    s.tableClose x = s.freeEntry i o k := by
  simp [State.tableClose, State.geometry_of_active hm, hi, State.freeIfRetiring, he]

/-- R15: another close changes nothing. -/
theorem State.tableClose_of_none {x : CloseReport} (hm : s.mode = .active g) (hn : s.retiringAt g x = none) :
    s.tableClose x = s := by
  simp [State.tableClose, State.geometry_of_active hm, hn]

theorem exec_closeReportTable {x : CloseReport} {rest : List CloseReport} (h : s.rmt.closes = x :: rest) :
    exec .closeReportTable s = .next ({ s with rmt := { s.rmt with closes := rest } }.tableClose x) := by
  show execCloseReportTable s = _
  simp [execCloseReportTable, h]

/-- Settles O34. The entry found is the named one, since no other RETIRING entry serves the row. -/
theorem closeFreesTheRetiringEntry : Obligations.CloseFreesTheRetiringEntry := by
  intro s g x rest hm hc
  have hm' : { s with rmt := { s.rmt with closes := rest } }.mode = .active g := hm
  rw [exec_closeReportTable hc]
  constructor
  · intro i o k m he hr hb hp only
    have first : s.retiringAt g x = some i := by
      refine (s.retiringAt_eq_some g x i).2 ⟨((s.entry i).endedBy_iff g x).2 ⟨o, k, m, he, hr, hb, hp⟩, fun i' hlt => ?_⟩
      rw [Bool.eq_false_iff, ne_eq, Entry.endedBy_iff]
      rintro ⟨o', k', m', he', hr', hb', hp'⟩
      have same : k' = k := Fin.ext (by omega)
      exact hlt.ne (only i' o' k' m' he' hr' hb' same)
    refine ⟨_, congrArg _ (State.tableClose_of_retiring hm' first he), by simp, by simp, fun i' hne => ?_, by simp, ?_,
      State.freeEntry_slotsExcept _ i o k, by simp [WatchItem.isSlotItemOf], by simp, by simp, by simp, by simp, by simp, by simp⟩
    · rw [State.freeEntry_entry, if_neg hne]
      rfl
    · rw [State.freeEntry_slot, if_pos ⟨rfl, rfl, rfl⟩]
      rfl
  · intro none
    refine congrArg _ (State.tableClose_of_none hm' ((State.retiringAt_eq_none _ g x).2 fun i => ?_))
    rw [Bool.eq_false_iff, ne_eq, Entry.endedBy_iff]
    rintro ⟨o, k, m, he, hr, hb, hp⟩
    exact none i o k m he hr hb hp

/-! ## RELEASE -/

/-- An index operand within the range names that index. -/
theorem indexOf_ofNat {n : Nat} (i : Fin n) (hn : n ≤ 256) : indexOf n (BitVec.ofNat 8 i.val) = some i := by
  have small : i.val % 256 = i.val := Nat.mod_eq_of_lt (by omega)
  simp [indexOf, small]

theorem indexOf_eq_none {n : Nat} {b : Byte} (h : n ≤ b.toNat) : indexOf n b = none := dif_neg (by omega)

variable (s)

/-- R13: the record of the entry's stage is under a burn or a revoke. -/
theorem State.burningRecord_iff (staged : Option RecIx) :
    s.burningRecord staged = true ↔ ∃ r, staged = some r ∧
      ((∃ i o k, s.rst.operation = some (.burn r i o k)) ∨ s.rst.operation = some (.revoke r)) := by
  unfold State.burningRecord
  split
  · next r r' i o k ho => simpa [ho] using eq_comm
  · next r r' ho => simpa [ho] using eq_comm
  · next hb hr =>
    simp only [Bool.false_eq_true, false_iff]
    rintro ⟨r, rfl, ⟨i, o, k, ho⟩ | ho⟩
    · exact hb r r i o k rfl ho
    · exact hr r r rfl ho

/-- R14, R62. -/
theorem State.spareOpen_iff (g : Geometry) (o : Origin) (k : SlotNo) :
    s.spareOpen g o k = true ↔ ∃ y, s.record o.rank o.bank = some y ∧ y.physical = g.n - 16 + k.val := by
  unfold State.spareOpen
  split
  · next x hx => simp [hx, Geometry.slotRow_eq]
  · next hx => simp [hx]

@[simp] theorem State.decided_mode (h : InHand) (st : Status) (p : Payload) : (s.decided h st p).mode = s.mode := rfl
@[simp] theorem State.decided_rmt (h : InHand) (st : Status) (p : Payload) : (s.decided h st p).rmt = s.rmt := rfl
@[simp] theorem State.decided_sld (h : InHand) (st : Status) (p : Payload) : (s.decided h st p).sld = s.sld := rfl
@[simp] theorem State.decided_ctr (h : InHand) (st : Status) (p : Payload) : (s.decided h st p).ctr = s.ctr := rfl
@[simp] theorem State.decided_mge (h : InHand) (st : Status) (p : Payload) : (s.decided h st p).mge = s.mge := rfl
@[simp] theorem State.decided_sbl (h : InHand) (st : Status) (p : Payload) : (s.decided h st p).sbl = s.sbl := rfl
@[simp] theorem State.decided_wls (h : InHand) (st : Status) (p : Payload) : (s.decided h st p).wls = s.wls := rfl
@[simp] theorem State.decided_pol (h : InHand) (st : Status) (p : Payload) : (s.decided h st p).pol = s.pol := rfl
@[simp] theorem State.decided_rst (h : InHand) (st : Status) (p : Payload) : (s.decided h st p).rst = s.rst := rfl
@[simp] theorem State.decided_entry (h : InHand) (st : Status) (p : Payload) (i : EntryIx) :
    (s.decided h st p).entry i = s.entry i := rfl
@[simp] theorem State.decided_slot (h : InHand) (st : Status) (p : Payload) (r : Rank) (b : Bank) (k : SlotNo) :
    (s.decided h st p).slot r b k = s.slot r b k := rfl

/-- R182: how a decision leaves the port depends on the port alone. -/
theorem State.decided_port_congr {s u : State} (hp : u.port = s.port) (h : InHand) (st : Status) (p : Payload) :
    (u.decided h st p).port = (s.decided h st p).port := by
  simp [State.decided, hp]

theorem Stage.heldFor_iff (x : Stage) (i : EntryIx) : x.heldFor i = true ↔ x.cancellable = some i := by
  cases x <;> simp [Stage.heldFor, Stage.cancellable]

@[simp] theorem State.cancelStageFor_mode (i : EntryIx) : (s.cancelStageFor i).mode = s.mode := by
  unfold State.cancelStageFor; split <;> rfl
@[simp] theorem State.cancelStageFor_sld (i : EntryIx) : (s.cancelStageFor i).sld = s.sld := by
  unfold State.cancelStageFor; split <;> rfl
@[simp] theorem State.cancelStageFor_ctr (i : EntryIx) : (s.cancelStageFor i).ctr = s.ctr := by
  unfold State.cancelStageFor; split <;> rfl
@[simp] theorem State.cancelStageFor_mge (i : EntryIx) : (s.cancelStageFor i).mge = s.mge := by
  unfold State.cancelStageFor; split <;> rfl
@[simp] theorem State.cancelStageFor_sbl (i : EntryIx) : (s.cancelStageFor i).sbl = s.sbl := by
  unfold State.cancelStageFor; split <;> rfl
@[simp] theorem State.cancelStageFor_wls (i : EntryIx) : (s.cancelStageFor i).wls = s.wls := by
  unfold State.cancelStageFor; split <;> rfl
@[simp] theorem State.cancelStageFor_pol (i : EntryIx) : (s.cancelStageFor i).pol = s.pol := by
  unfold State.cancelStageFor; split <;> rfl
@[simp] theorem State.cancelStageFor_port (i : EntryIx) : (s.cancelStageFor i).port = s.port := by
  unfold State.cancelStageFor; split <;> rfl
@[simp] theorem State.cancelStageFor_generation (i : EntryIx) : (s.cancelStageFor i).rmt.generation = s.rmt.generation := by
  unfold State.cancelStageFor; split <;> rfl
@[simp] theorem State.cancelStageFor_slot (i : EntryIx) (r : Rank) (b : Bank) (k : SlotNo) :
    (s.cancelStageFor i).slot r b k = s.slot r b k := by
  simp [State.slot]

/-- R14: only the entry whose stage it is loses its mark. -/
theorem State.cancelStageFor_entry_of_ne {i i' : EntryIx} (h : i' ≠ i) : (s.cancelStageFor i).entry i' = s.entry i' := by
  unfold State.cancelStageFor; split
  · exact (State.setEntry_entry ..).trans (if_neg h)
  · rfl

theorem State.cancelStageFor_rst (i : EntryIx) :
    (s.cancelStageFor i).rst = if s.rst.stage.cancellable = some i then { s.rst with stage := .empty } else s.rst := by
  unfold State.cancelStageFor; split
  · next h => rw [if_pos ((Stage.heldFor_iff ..).1 h)]; rfl
  · next h => rw [if_neg (h ∘ (Stage.heldFor_iff ..).2)]

variable {s}

theorem State.whenActive_of_active {f : Geometry → State} (hm : s.mode = .active g) : s.whenActive f = f g := by
  simp [State.whenActive, State.geometry_of_active hm]

theorem exec_release {h : InHand} {x : Byte} (hh : s.hasInHand h (.release x)) :
    exec (.release x) s = .next (s.decideRelease x) :=
  congrArg _ (State.takeRequest_inHand hh _)

theorem State.hasInHand.refuse_eq {h : InHand} {q : Request} (hh : s.hasInHand h q) (st : Status) :
    s.refuse st = s.decided h st .none := by
  obtain ⟨-, hi, -, -⟩ := hh
  exact State.answer_eq_decided hi st .none

/-- R13: an index out of range. -/
theorem State.decideRelease_of_none {x : Byte} (hm : s.mode = .active g) (hx : indexOf 96 x = none) :
    s.decideRelease x = s.refuse .badArgument := by
  rw [State.decideRelease, State.whenActive_of_active hm, hx, State.whenSome]

variable {x : Byte} {i : EntryIx}

theorem State.decideRelease_of_free (hm : s.mode = .active g) (hx : indexOf 96 x = some i) (he : s.entry i = .free) :
    s.decideRelease x = s.refuse .notFound := by
  simp [State.decideRelease, State.whenActive_of_active hm, State.whenSome, hx, he]

theorem State.decideRelease_of_other (hm : s.mode = .active g) (hx : indexOf 96 x = some i) (hf : s.entry i ≠ .free)
    (hl : ∀ o k m st, s.entry i ≠ .live o k m st) : s.decideRelease x = s.refuse .state := by
  simp only [State.decideRelease, State.whenActive_of_active hm, State.whenSome, hx]

theorem State.decideRelease_of_live {o : Origin} {k : SlotNo} {m : Nat} {st : Option RecIx} (hm : s.mode = .active g)
    (hx : indexOf 96 x = some i) (he : s.entry i = .live o k m st) :
    s.decideRelease x = if s.burningRecord st then s.refuse .state else s.release g i o k m := by
  simp [State.decideRelease, State.whenActive_of_active hm, State.whenSome, hx, he]

/-- R14, R16: what the release of a LIVE entry does, by whether its spare row is open. Its stage is cancelled first. -/
theorem State.release_eq {o : Origin} {k : SlotNo} {m : Nat} {h : InHand} (hh : s.port.inHand = some h) :
    s.release g i o k m =
      if s.spareOpen g o k then
        (((s.cancelStageFor i).setEntry i (.retiring o k m)).removeSlotItems o).decided h .ok (.released .retiring)
      else ((s.cancelStageFor i).freeEntry i o k).decided h .ok (.released .free) := by
  unfold State.release
  dsimp only
  split
  · exact State.answer_eq_decided (by simp [hh]) ..
  · exact State.answer_eq_decided (by simp [hh]) ..

/-- Settles O52. -/
theorem releaseFreesOrRetires : Obligations.ReleaseFreesOrRetires := by
  intro s h g hm
  refine ⟨fun x hx hh => ?_, fun i => ?_⟩
  · rw [exec_release hh, State.decideRelease_of_none hm (indexOf_eq_none hx), hh.refuse_eq]
  have named : indexOf 96 (BitVec.ofNat 8 i.val) = some i := indexOf_ofNat i (by decide)
  refine ⟨fun he hh => ?_, fun other hh => ?_, fun o k m r he busy hh => ?_, fun o k m st he idle hh => ?_⟩
  · rw [exec_release hh, State.decideRelease_of_free hm named he, hh.refuse_eq]
  · have ⟨notFree, notLive⟩ : s.entry i ≠ .free ∧ ∀ o k m st, s.entry i ≠ .live o k m st := by
      rcases other with ⟨_, _, _, he⟩ | ⟨_, _, _, _, _, he⟩ | ⟨_, _, _, he⟩ | ⟨_, _, _, _, he⟩ <;> simp [he]
    rw [exec_release hh, State.decideRelease_of_other hm named notFree notLive, hh.refuse_eq]
  · have burning : s.burningRecord (some r) = true := (s.burningRecord_iff _).2 ⟨r, rfl, busy⟩
    rw [exec_release hh, State.decideRelease_of_live hm named he, if_pos burning, hh.refuse_eq]
  · have notBurning : ¬s.burningRecord st = true := by
      rw [State.burningRecord_iff]
      rintro ⟨r, hr, ⟨i', o', k', hb⟩ | hb⟩
      · exact (idle r i' o' k' hr).1 hb
      · exact (idle r i o k hr).2 hb
    obtain ⟨-, inHand, -, -⟩ := id hh
    rw [exec_release hh, State.decideRelease_of_live hm named he, if_neg notBurning, State.release_eq inHand,
      ← State.spareOpen_iff]
    by_cases isOpen : s.spareOpen g o k = true
    · rw [if_pos isOpen]
      refine ⟨_, rfl, fun i' hne => ?_, by simp [WatchItem.isSlotItemOf],
        by simp [State.cancelStageFor_rst], by simp, by simp, by simp, by simp, by simp, fun r b k' _ => ?_,
        fun closed => absurd isOpen closed, fun _ => ⟨?_, ?_, by simp, State.decided_port_congr (by simp) ..⟩⟩
      · exact ((State.setEntry_entry ..).trans (if_neg hne)).trans (s.cancelStageFor_entry_of_ne hne)
      · exact s.cancelStageFor_slot i r b k'
      · exact State.setEntry_entry_same ..
      · exact s.cancelStageFor_generation i
    · rw [if_neg isOpen]
      refine ⟨_, rfl, fun i' hne => ?_, by simp [WatchItem.isSlotItemOf], by simp [State.cancelStageFor_rst], by simp, by simp,
        by simp, by simp, by simp, fun r b k' hne => ?_,
        fun _ => ⟨by simp, by simp, by simp, State.decided_port_congr (by simp) ..⟩,
        fun opened => absurd opened isOpen⟩
      · simp [hne, s.cancelStageFor_entry_of_ne hne]
      · exact (State.freeEntry_slotsExcept _ i o k r b k' hne).trans (s.cancelStageFor_slot i r b k')

end Sys2Proof.Machine
end

section
/-! SUPPORT. What the tables read right after power-on, and the laws of a reachable state there. -/

namespace Sys2Proof.Machine

/-- R31. -/
theorem State.reset_slot (r : Rank) (b : Bank) (k : SlotNo) :
    State.reset.slot r b k = ⟨if k = 0 then .sink else .free, .untested⟩ := by
  have bank : ∀ k : SlotNo, bankReset[k] = ⟨if k = 0 then .sink else .free, .untested⟩ := by decide
  simpa [State.slot, State.reset, directoryReset] using bank k

/-- R69. -/
theorem State.reset_ctx (c : Ctx) : State.reset.ctx c = Context.reset := by
  simp [State.ctx, State.reset, Migration.reset]

theorem State.reset_ctx_idle (c : Ctx) : (State.reset.ctx c).isIdle = true := by rw [State.reset_ctx]; rfl

theorem State.reset_ctx_not_busy (c : Ctx) (st : BusyState) (j : Job) : (State.reset.ctx c).body ≠ .busy st j := by
  rw [State.reset_ctx]; nofun

theorem State.reset_ctx_activeJob (c : Ctx) : (State.reset.ctx c).activeJob = none := by rw [State.reset_ctx]; rfl

theorem State.reset_alertFollows : State.reset.AlertFollows := by
  simp [State.AlertFollows, State.reset, Port.reset]

theorem State.reset_readyFollows : State.reset.ReadyFollows := ⟨rfl, nofun⟩

theorem State.reset_queuesBounded : State.reset.QueuesBounded := by
  simp [State.QueuesBounded, State.reset, Migration.reset, Link.reset, WatchList.reset, Policy.reset]

theorem State.reset_movesBounded : State.reset.MovesBounded := fun i => State.reset_entry i ▸ trivial

theorem State.reset_sinkKept : State.reset.SinkKept := by
  refine ⟨fun r b => State.reset_slot r b 0, fun i => ?_, fun c st j h => absurd h (State.reset_ctx_not_busy c st j), nofun⟩
  rw [State.reset_entry]
  exact ⟨nofun, nofun⟩

theorem State.reset_originsUnique : State.reset.OriginsUnique :=
  ⟨State.originsApart_of_free State.reset_entry, fun _ => State.reset_entry⟩

theorem State.reset_storeSound : State.reset.StoreSound := ⟨nofun, nofun, nofun, nofun, nofun⟩

theorem State.reset_keysUnique : State.reset.KeysUnique := List.nodup_nil

theorem State.reset_roundsBounded : State.reset.RoundsBounded :=
  ⟨by decide, fun c st j h => absurd h (State.reset_ctx_not_busy c st j)⟩

theorem State.reset_linkQuiet : State.reset.LinkQuiet := by
  refine ⟨fun c _ => ?_, fun _ => State.reset_ctx_idle, fun _ => ⟨State.reset_ctx_idle, rfl, nofun⟩⟩
  rw [State.reset_ctx]
  exact ⟨rfl, rfl⟩

theorem State.reset_tablesTied : State.reset.TablesTied where
  table _ := State.reset_entry
  entries i := by rw [State.reset_entry]; trivial
  slots r b k := by
    rw [State.reset_slot]
    by_cases sink : k = 0
    · rw [if_pos sink]; trivial
    · rw [if_neg sink]; trivial
  contexts c j h := by rw [State.reset_ctx_activeJob] at h; cases h
  stage := ⟨nofun, nofun, nofun⟩

/-- Settles O4: the table is empty, every context IDLE, every queue empty, and slot 0 the only one in use. -/
theorem lawsHoldAtReset : Obligations.LawsHoldAtReset :=
  ⟨State.reset_alertFollows, State.reset_readyFollows, State.reset_queuesBounded, State.reset_movesBounded,
    State.reset_sinkKept, State.reset_originsUnique, State.reset_storeSound, State.reset_keysUnique,
    State.reset_roundsBounded, State.reset_linkQuiet, State.reset_tablesTied⟩

end Sys2Proof.Machine
end

section
/-!
SUPPORT. What the laws of the spare rows and of the migrations read of a state: the tables, which are the mode, the entries, the
slots, the stage, the operation, the watch items and the profiles; and the contexts with the link's queue. An operation that
touches none of it keeps every one of these laws; one that works on the link alone keeps all of them but the law of the link.
-/

namespace Sys2Proof.Machine

/-- What the laws read outside the contexts and the link. -/
structure Tables where
  mode      : Mode
  entries   : Vector Entry 96
  slots     : Vector (Vector (Vector SlotRecord 16) 16) 2
  stage     : Stage
  operation : Option Operation
  items     : List WatchItem
  profiles  : Vector Profile 2

def State.tables (s : State) : Tables :=
  ⟨s.mode, s.rmt.entries, s.sld, s.rst.stage, s.rst.operation, s.wls.items, s.pol.profiles⟩

/-- Everything the laws read. -/
structure View where
  tables   : Tables
  contexts : Vector Context 4
  link     : LinkState
  outbound : List OutMsg
  waiting  : List Ctx

def State.view (s : State) : View := ⟨s.tables, s.mge.contexts, s.sbl.state, s.sbl.outbound, s.sbl.waiting⟩

/-- `t` differs from `s` at most on the link and in what the contexts hold for it: messages, timers and results. -/
structure State.OnLink (s t : State) : Prop where
  tables : t.tables = s.tables
  bodies : ∀ c, (t.ctx c).body = (s.ctx c).body

/-! ## Reading a view -/

section
variable {s t : State}

theorem State.entry_eq_of_tables (h : t.tables = s.tables) (i : EntryIx) : t.entry i = s.entry i :=
  congrArg (fun x : Tables => x.entries[i]) h

theorem State.slot_eq_of_tables (h : t.tables = s.tables) (r : Rank) (b : Bank) (k : SlotNo) :
    t.slot r b k = s.slot r b k := congrArg (fun x : Tables => x.slots[r][b][k]) h

theorem State.mode_eq_of_tables (h : t.tables = s.tables) : t.mode = s.mode := congrArg Tables.mode h
theorem State.stage_eq_of_tables (h : t.tables = s.tables) : t.rst.stage = s.rst.stage := congrArg Tables.stage h
theorem State.operation_eq_of_tables (h : t.tables = s.tables) : t.rst.operation = s.rst.operation :=
  congrArg Tables.operation h
theorem State.items_eq_of_tables (h : t.tables = s.tables) : t.wls.items = s.wls.items := congrArg Tables.items h
theorem State.profiles_eq_of_tables (h : t.tables = s.tables) : t.pol.profiles = s.pol.profiles :=
  congrArg Tables.profiles h

theorem State.ctx_eq_of_view (h : t.view = s.view) (c : Ctx) : t.ctx c = s.ctx c :=
  congrArg (fun x : View => x.contexts[c]) h

theorem State.onLink_of_view (h : t.view = s.view) : s.OnLink t :=
  ⟨congrArg View.tables h, fun c => congrArg Context.body (State.ctx_eq_of_view h c)⟩

end

/-! ## Operations that leave the view as it is -/

section
variable (s : State)

@[simp] theorem State.raise_view (k : Condition) : (s.raise k).view = s.view := rfl
@[simp] theorem State.raiseIf_view (b : Bool) (k : Condition) : (s.raiseIf b k).view = s.view := by
  unfold State.raiseIf; split <;> rfl
@[simp] theorem State.clearConditions_view (x : BitVec 16) : (s.clearConditions x).view = s.view := rfl
@[simp] theorem State.reportCloseToTable_view (x : CloseReport) : (s.reportCloseToTable x).view = s.view := rfl
@[simp] theorem State.setRecord_view (r : Rank) (b : Bank) (x : Option OpenRow) : (s.setRecord r b x).view = s.view := rfl
@[simp] theorem State.forward_view (x : ChannelCommand) : (s.forward x).view = s.view := rfl
@[simp] theorem State.passThrough_view (x : ChannelCommand) : (s.passThrough x).view = s.view := by
  simp [State.passThrough]
@[simp] theorem State.openBank_view (r : Rank) (b : Bank) (x : OpenRow) : (s.openBank r b x).view = s.view := rfl
@[simp] theorem State.violation_view : s.violation.view = s.view := rfl
@[simp] theorem State.setResetLine_view (b : Bool) : (s.setResetLine b).view = s.view := rfl
@[simp] theorem State.setLock_view : s.setLock.view = s.view := rfl

@[simp] theorem State.applyPendingRun_view : s.applyPendingRun.view = s.view := by
  unfold State.applyPendingRun; split <;> rfl

@[simp] theorem State.handNomination_view (k : Key) : (s.handNomination k).view = s.view := by
  unfold State.handNomination; split <;> rfl

@[simp] theorem State.launchNotice_view (c : Ctx) (o : Origin) : (s.launchNotice c o).view = s.view := by
  unfold State.launchNotice; split
  · split <;> rfl
  · rfl

@[simp] theorem State.passNote_view (n : ErrorNote) : (s.passNote n).view = s.view := by
  unfold State.passNote; split <;> rfl

@[simp] theorem State.passReply_view (r : Reply) : (s.passReply r).view = s.view := by
  unfold State.passReply; split <;> rfl

@[simp] theorem State.acceptRequest_view (tag : Byte) (q : Request) : (s.acceptRequest tag q).view = s.view := by
  unfold State.acceptRequest; split <;> rfl

@[simp] theorem State.takeFrame_view (bytes : List Byte) : (s.takeFrame bytes).view = s.view := by
  unfold State.takeFrame; split
  · rfl
  · simp

@[simp] theorem State.compose_view (st : Status) (p : Payload) : (s.compose st p).view = s.view := by
  unfold State.compose; split
  · split <;> rfl
  · rfl

@[simp] theorem State.answer_view (st : Status) (p : Payload) : (s.answer st p).view = s.view := s.compose_view st p
@[simp] theorem State.refuse_view (st : Status) : (s.refuse st).view = s.view := s.answer_view st .none

end

/-! ## Operations on the link alone -/

namespace State.OnLink

theorem refl (s : State) : s.OnLink s := ⟨rfl, fun _ => rfl⟩

theorem trans {s t u : State} (a : s.OnLink t) (b : t.OnLink u) : s.OnLink u :=
  ⟨b.tables.trans a.tables, fun c => (b.bodies c).trans (a.bodies c)⟩

variable (s : State)

theorem ofSbl (x : Link) : s.OnLink { s with sbl := x } := ⟨rfl, fun _ => rfl⟩
theorem setOutbound (l) : s.OnLink (s.setOutbound l) := ofSbl s _
theorem setWaiting (l) : s.OnLink (s.setWaiting l) := ofSbl s _
theorem linkDown : s.OnLink s.linkDown := ofSbl s _
theorem enterGreeting : s.OnLink s.enterGreeting := ofSbl s _
theorem onlyHelloAck : s.OnLink s.onlyHelloAck := ofSbl s _

theorem setCtx {c : Ctx} {x : Context} (h : x.body = (s.ctx c).body) : s.OnLink (s.setCtx c x) where
  tables := rfl
  bodies d := by
    rw [State.setCtx_ctx]
    split
    · next hd => rw [hd, h]
    · rfl

theorem setRest (c r h t) : s.OnLink (s.setCtx c ⟨(s.ctx c).body, r, h, t⟩) := setCtx s rfl
theorem setLastResult (c r) : s.OnLink (s.setLastResult c r) := setRest ..

theorem clearAllHeld : s.OnLink s.clearAllHeld := ⟨rfl, fun c => by simp [State.ctx, State.clearAllHeld]⟩

theorem dropHeld (c) : s.OnLink (s.dropHeld c) := (setRest ..).trans (setWaiting ..)

theorem queued_body (x : Context) (m : OutMsg) : (x.queued m).body = x.body := by
  unfold Context.queued; split <;> rfl

theorem queueTail (c h) : s.OnLink (s.queueTail c h) := by
  unfold State.queueTail; split
  · exact setOutbound ..
  · exact (setCtx s (queued_body ..)).trans (setOutbound ..)

theorem makeMsg (c m) : s.OnLink (s.makeMsg c m) := by
  unfold State.makeMsg; split
  · exact queueTail ..
  · exact (setRest ..).trans (setWaiting ..)

theorem refillUpTo (n : Nat) : ∀ s : State, s.OnLink (s.refillUpTo n) := by
  induction n with
  | zero => exact refl
  | succ n ih =>
    intro s
    unfold State.refillUpTo
    split
    · exact refl s
    · split
      · split
        · exact (setWaiting ..).trans (ih _)
        · exact (((setWaiting ..).trans (setRest ..)).trans (queueTail ..)).trans (ih _)
      · exact refl s

theorem refill : s.OnLink s.refill := refillUpTo _ s

theorem purgeOutbound (keep) : s.OnLink (s.purgeOutbound keep) := (setOutbound ..).trans (refill _)

theorem linkUp : s.OnLink s.linkUp := (ofSbl s _).trans (purgeOutbound ..)

theorem displaceTail : s.OnLink s.displaceTail := by
  unfold State.displaceTail; split
  · exact refl s
  · dsimp only; split
    · exact ((setOutbound ..).trans (setRest ..)).trans (setWaiting ..)
    · exact setOutbound ..

theorem queueGreeting (m) : s.OnLink (s.queueGreeting m) := by
  unfold State.queueGreeting; split
  · exact refl s
  · dsimp only; split
    · exact setOutbound ..
    · exact (displaceTail s).trans (setOutbound ..)

theorem transmitHead : s.OnLink s.transmitHead := by
  unfold State.transmitHead; split
  · exact (ofSbl s _).trans (refill _)
  · exact refl s

theorem retry : s.OnLink s.retry := (queueGreeting ..).trans (ofSbl ..)

end State.OnLink

end Sys2Proof.Machine
end

section
/-!
SUPPORT. The laws of the sink (R27), of the rounds (R72), of the watch keys (R122) and of the quiet link (R102) under plain updates.
-/

namespace Sys2Proof.Machine

/-! ## The body of a context -/

/-- Writes the body of a context: its state with the job of its migration. -/
def State.setBody (s : State) (c : Ctx) (b : ContextBody) : State := s.setCtx c { s.ctx c with body := b }

section
variable (s : State) (c : Ctx) (b : ContextBody)

theorem State.setBody_body (d : Ctx) : ((s.setBody c b).ctx d).body = if d = c then b else (s.ctx d).body := by
  rw [State.setBody, State.setCtx_ctx]; split <;> rfl

/-- A context that takes a body, whatever it holds for the link. -/
theorem State.OnLink.ofBody (x : Context) : (s.setBody c x.body).OnLink (s.setCtx c x) where
  tables := rfl
  bodies d := by rw [State.setBody_body, State.setCtx_ctx]; split <;> rfl

theorem State.OnLink.enterState (st : BusyState) (j : Job) : (s.setBody c (.busy st j)).OnLink (s.enterState c st j) :=
  .ofBody s c { s.ctx c with body := .busy st j, timer := none }

theorem State.OnLink.enterIdle (j : Job) :
    (s.setBody c (.idle (some ⟨j.direction, j.origin, j.round⟩))).OnLink (s.enterIdle c j) :=
  (ofBody s c { s.ctx c with body := .idle (some ⟨j.direction, j.origin, j.round⟩), timer := none }).trans (dropHeld ..)

end

theorem Context.isIdle_of_busy {x : Context} {st : BusyState} {j : Job} (h : x.body = .busy st j) : x.isIdle = false := by
  rw [Context.isIdle, h]

theorem Context.isIdle_congr {x y : Context} (h : x.body = y.body) : x.isIdle = y.isIdle := by
  rw [Context.isIdle, Context.isIdle, h]

/-- R69: a context in an active state. -/
theorem Context.activeJob_eq_some {x : Context} {j : Job} :
    x.activeJob = some j ↔ ∃ st, st ≠ .closing ∧ x.body = .busy st j := by
  obtain ⟨body, _, _, _⟩ := x
  cases body with
  | idle => simp [Context.activeJob]
  | busy st k => cases st <;> simp [Context.activeJob]

/-! ## The sink (R27) -/

/-- The entry names no sink row. -/
structure Entry.SinkFree (e : Entry) : Prop where
  slot : e.slot ≠ some 0
  next : e.nextSlot ≠ some 0

namespace Entry.SinkFree

theorem free : Entry.SinkFree .free := ⟨nofun, nofun⟩

theorem restored {e : Entry} (h : e.SinkFree) : e.restored.SinkFree := by
  cases e with
  | forming => exact free
  | moving => exact ⟨h.slot, nofun⟩
  | _ => exact h

theorem cutOver {e : Entry} (h : e.SinkFree) {dest : SlotNo} (hd : dest ≠ 0) : (e.cutOver dest).SinkFree := by
  have moved : some dest ≠ some 0 := fun hs => hd (Option.some.inj hs)
  cases e with
  | forming => exact ⟨moved, nofun⟩
  | moving => exact ⟨moved, nofun⟩
  | _ => exact h

theorem unstaged {e : Entry} (h : e.SinkFree) : e.unstaged.SinkFree := by
  cases e with
  | live => exact ⟨h.slot, nofun⟩
  | _ => exact h

theorem burned {e : Entry} (h : e.SinkFree) (k : RecIx) : (e.burned k).SinkFree := by
  cases e with
  | live => exact ⟨h.slot, nofun⟩
  | _ => exact h

end Entry.SinkFree

namespace State.SinkKept
variable {s t : State}

theorem entry (h : s.SinkKept) (i : EntryIx) : (s.entry i).SinkFree := by
  obtain ⟨-, entries, -, -⟩ := h
  exact ⟨(entries i).1, (entries i).2⟩

theorem entrySlot (h : s.SinkKept) {i : EntryIx} {k : SlotNo} (hk : (s.entry i).slot = some k) : k ≠ 0 := by
  rintro rfl
  exact (h.entry i).slot hk

theorem dest (h : s.SinkKept) {c : Ctx} {st : BusyState} {j : Job} (hb : (s.ctx c).body = .busy st j) : j.destSlot ≠ 0 := by
  obtain ⟨-, -, jobs, -⟩ := h
  exact jobs c st j hb

theorem burnSlot (h : s.SinkKept) {k : RecIx} {i : EntryIx} {o : Origin} {n : SlotNo}
    (ho : s.rst.operation = some (.burn k i o n)) : n ≠ 0 := by
  obtain ⟨-, -, -, burn⟩ := h
  exact burn k i o n ho

/-- R27: a slot in another state than SINK is another slot. -/
theorem ne_zero (h : s.SinkKept) {r : Rank} {b : Bank} {k : SlotNo} (hk : (s.slot r b k).state ≠ .sink) : k ≠ 0 := by
  rintro rfl
  exact hk (by rw [h.1 r b])

/-- Another operation of the engine, which latches no sink row either. -/
theorem setStore (h : s.SinkKept) {x : RepairStore} (burn : ∀ k i o n, x.operation = some (.burn k i o n) → n ≠ 0) :
    ({ s with rst := x } : State).SinkKept := by
  obtain ⟨slots, entries, jobs, -⟩ := h
  exact ⟨slots, entries, jobs, burn⟩

theorem ofOnLink (h : s.SinkKept) (a : s.OnLink t) : t.SinkKept := by
  obtain ⟨slots, entries, jobs, burn⟩ := h
  refine ⟨fun r b => ?_, fun i => ?_, fun c st j hb => ?_, fun k i o n ho => ?_⟩
  · rw [State.slot_eq_of_tables a.tables]; exact slots r b
  · rw [State.entry_eq_of_tables a.tables]; exact entries i
  · rw [a.bodies] at hb; exact jobs c st j hb
  · rw [State.operation_eq_of_tables a.tables] at ho; exact burn k i o n ho

theorem setEntry (h : s.SinkKept) (i : EntryIx) {e : Entry} (he : e.SinkFree) : (s.setEntry i e).SinkKept := by
  obtain ⟨slots, entries, jobs, burn⟩ := h
  refine ⟨slots, fun k => ?_, jobs, burn⟩
  rw [State.setEntry_entry]
  split
  · exact ⟨he.slot, he.next⟩
  · exact entries k

theorem setSlot (h : s.SinkKept) (r : Rank) (b : Bank) {k : SlotNo} (hk : k ≠ 0) (x : SlotRecord) :
    (s.setSlot r b k x).SinkKept := by
  obtain ⟨slots, rest⟩ := h
  refine ⟨fun r' b' => ?_, rest⟩
  rw [State.setSlot_slot, if_neg fun ⟨_, _, h0⟩ => hk h0.symm]
  exact slots r' b'

theorem setBody (h : s.SinkKept) (c : Ctx) {b : ContextBody} (hb : ∀ st j, b = .busy st j → j.destSlot ≠ 0) :
    (s.setBody c b).SinkKept := by
  obtain ⟨slots, entries, jobs, burn⟩ := h
  refine ⟨slots, entries, fun d st j hd => ?_, burn⟩
  rw [State.setBody_body] at hd
  split at hd
  · exact hb st j hd
  · exact jobs d st j hd

end State.SinkKept

/-! ## The rounds (R68, R72) -/

/-- R139. -/
def State.ProfilesBounded (s : State) : Prop :=
  ∀ p : ProfileNo, 1 ≤ s.pol.profiles[p].maxRounds ∧ s.pol.profiles[p].maxRounds ≤ 6

/-- R72: the law of ROUND, apart from what FENCING adds. -/
structure Job.RoundBounded (j : Job) : Prop where
  captured : 1 ≤ j.captured.maxRounds ∧ j.captured.maxRounds ≤ 6
  round : 1 ≤ j.round ∧ j.round ≤ j.captured.maxRounds + 1
  last : j.captured.maxRounds < j.round → j.fenced = .held

/-- R72, R81: the law of the rounds for a job in a state; an exempt one may be in FENCING with the fence held already. -/
structure Job.RoundLaw (exempt : Prop) (st : BusyState) (j : Job) : Prop where
  bounded : j.RoundBounded
  fencing : st = .fencing → ¬exempt → j.fenced = .requested

/-- The law of the rounds, with the contexts of `F` exempt. A context is exempt for as long as the FENCE_ACK(SET) that completes
its copy takes the reports before its test (R81). -/
def State.RoundsBut (F : Ctx → Prop) (s : State) : Prop :=
  s.ProfilesBounded ∧ ∀ c st j, (s.ctx c).body = .busy st j → j.RoundLaw (F c) st

theorem State.roundsBounded_iff (s : State) : s.RoundsBounded ↔ s.RoundsBut fun _ => False := by
  refine and_congr_right fun _ => forall₃_congr fun c st j => forall_congr' fun _ => ?_
  constructor
  · rintro ⟨h1, h2, h3, h4, h5, h6⟩
    exact ⟨⟨⟨h1, h2⟩, ⟨h3, h4⟩, h5⟩, fun h _ => h6 h⟩
  · rintro ⟨⟨⟨h1, h2⟩, ⟨h3, h4⟩, h5⟩, h6⟩
    exact ⟨h1, h2, h3, h4, h5, fun h => h6 h id⟩

namespace State.RoundsBut
variable {F : Ctx → Prop} {s t : State}

theorem ofOnLink (h : s.RoundsBut F) (a : s.OnLink t) : t.RoundsBut F := by
  refine ⟨fun p => ?_, fun c st j hb => ?_⟩
  · rw [State.profiles_eq_of_tables a.tables]; exact h.1 p
  · rw [a.bodies] at hb; exact h.2 c st j hb

theorem setBody (h : s.RoundsBut F) {c : Ctx} {b : ContextBody}
    (hb : ∀ st j, b = .busy st j → j.RoundLaw (F c) st) : (s.setBody c b).RoundsBut F := by
  refine ⟨h.1, fun d st j hd => ?_⟩
  rw [State.setBody_body] at hd
  split at hd
  · next hc => exact hc ▸ hb st j hd
  · exact h.2 d st j hd

end State.RoundsBut

/-! ## The watch keys (R122) -/

theorem State.KeysUnique.ofOnLink {s t : State} (h : s.KeysUnique) (a : s.OnLink t) : t.KeysUnique := by
  rw [State.KeysUnique, State.items_eq_of_tables a.tables]; exact h

theorem State.KeysUnique.filter {s : State} (h : s.KeysUnique) (p : WatchItem → Bool) :
    (s.setItems (s.wls.items.filter p)).KeysUnique := h.sublist (List.filter_sublist.map _)

theorem State.KeysUnique.map {s : State} (h : s.KeysUnique) {f : WatchItem → WatchItem} (hf : ∀ i, (f i).key = i.key) :
    (s.setItems (s.wls.items.map f)).KeysUnique := by
  have keys : (s.wls.items.map f).map WatchItem.key = s.wls.items.map WatchItem.key := by simp [Function.comp_def, hf]
  exact (congrArg List.Nodup keys).mpr h

/-- Changes of one item keep the keys. -/
theorem State.KeysUnique.change {s : State} (h : s.KeysUnique) (k : Key) {f : WatchItem → WatchItem}
    (hf : ∀ i, (f i).key = i.key) : (s.changeItem k f).KeysUnique :=
  h.map fun i => by split <;> simp [hf]

theorem State.KeysUnique.setBody {s : State} (h : s.KeysUnique) (c : Ctx) (b : ContextBody) : (s.setBody c b).KeysUnique := h

theorem State.findItem_eq_none {s : State} {k : Key} : s.findItem k = none ↔ k ∉ s.wls.items.map WatchItem.key := by
  simp [State.findItem, List.find?_eq_none]

theorem State.KeysUnique.createItem {s : State} (h : s.KeysUnique) {k : Key} (fresh : k ∉ s.wls.items.map WatchItem.key)
    (cls : NoteClass) (w : Nat) (run : Option Ctx) : (s.createItem k cls w run).KeysUnique := by
  unfold State.KeysUnique State.createItem
  rw [List.map_append, List.nodup_append]
  exact ⟨h, List.nodup_singleton _, fun a ha b hb hab => fresh (by simp_all)⟩

/-! ## The quiet link (R69, R102) -/

/-- R69: an IDLE context holds no message and runs no timer. -/
def State.IdleQuiet (s : State) : Prop := ∀ c, (s.ctx c).isIdle = true → (s.ctx c).held = [] ∧ (s.ctx c).timer = none

/-- A message that may stand in OUTBOUND while the link is not UP. -/
def OutMsg.IsGreeting (m : OutMsg) : Prop := m = .hello ∨ m = .helloAck

theorem State.enterIdle_ctx (s : State) (c d : Ctx) (j : Job) :
    (s.enterIdle c j).ctx d =
      if d = c then ⟨.idle (some ⟨j.direction, j.origin, j.round⟩), (s.ctx c).lastResult, [], none⟩ else s.ctx d := by
  by_cases hd : d = c
  · simp [State.enterIdle, State.dropHeld, State.setWaiting, State.ctx, State.setCtx, hd]
  · rw [if_neg hd]
    exact (State.setCtx_ctx ..).trans ((if_neg hd).trans ((State.setCtx_ctx ..).trans (if_neg hd)))

namespace State.IdleQuiet
variable {s t : State}

theorem setCtx (h : s.IdleQuiet) {c : Ctx} {x : Context} (hx : x.isIdle = true → x.held = [] ∧ x.timer = none) :
    (s.setCtx c x).IdleQuiet := by
  intro d hd
  rw [State.setCtx_ctx] at hd ⊢
  split at hd
  · next hc => rw [if_pos hc]; exact hx hd
  · next hc => rw [if_neg hc]; exact h d hd

theorem enterState (h : s.IdleQuiet) (c : Ctx) (st : BusyState) (j : Job) : (s.enterState c st j).IdleQuiet := setCtx h nofun

theorem setLastResult (h : s.IdleQuiet) (c : Ctx) (r : MigrationResult) : (s.setLastResult c r).IdleQuiet := setCtx h (h c)

theorem dropHeld (h : s.IdleQuiet) (c : Ctx) : (s.dropHeld c).IdleQuiet :=
  setCtx h fun idle => ⟨rfl, (h c idle).2⟩

theorem ofView (h : s.IdleQuiet) (hv : t.view = s.view) : t.IdleQuiet := fun c => by
  rw [State.ctx_eq_of_view hv]; exact h c

/-- A context outside IDLE may take any message. -/
theorem queueTail (h : s.IdleQuiet) {c : Ctx} (busy : (s.ctx c).isIdle = false) (m : HeldMsg) :
    (s.queueTail c m).IdleQuiet := by
  unfold State.queueTail; split
  · exact h
  · refine setCtx h fun idle => ?_
    rw [Context.isIdle_congr (State.OnLink.queued_body ..), busy] at idle
    cases idle

theorem makeMsg (h : s.IdleQuiet) {c : Ctx} (busy : (s.ctx c).isIdle = false) (m : OutMsg) :
    (s.makeMsg c m).IdleQuiet := by
  unfold State.makeMsg; split
  · exact h.queueTail busy _
  · exact setCtx h fun idle => absurd (busy.symm.trans idle) nofun

theorem enterIdle (h : s.IdleQuiet) (c : Ctx) (j : Job) : (s.enterIdle c j).IdleQuiet := by
  intro d hd
  rw [State.enterIdle_ctx] at hd ⊢
  split at hd
  · next hc => rw [if_pos hc]; exact ⟨rfl, rfl⟩
  · next hc => rw [if_neg hc]; exact h d hd

/-- A context in WAITING with a message is not IDLE. -/
theorem refillUpTo (n : Nat) : ∀ s : State, s.IdleQuiet → (s.refillUpTo n).IdleQuiet := by
  induction n with
  | zero => exact fun _ h => h
  | succ n ih =>
    intro s h
    unfold State.refillUpTo
    split
    · exact h
    · next c rest _ =>
      split
      · split
        · exact ih _ h
        · next m ms held =>
          have busy : (s.ctx c).isIdle = false := by
            rw [Bool.eq_false_iff]
            intro idle
            rw [(h c idle).1] at held
            cases held
          have taken : ((s.setWaiting rest).setCtx c { s.ctx c with held := ms }).IdleQuiet :=
            setCtx h fun idle => absurd (busy.symm.trans idle) nofun
          refine ih _ (taken.queueTail ?_ m)
          rw [State.setCtx_ctx_same]
          exact busy
      · exact h

end State.IdleQuiet

/-! ### The link's state through the operations on its queue -/

section
variable (s : State)

@[simp] theorem State.queueTail_linkState (c : Ctx) (m : HeldMsg) : (s.queueTail c m).sbl.state = s.sbl.state := by
  unfold State.queueTail; split <;> rfl

@[simp] theorem State.makeMsg_linkState (c : Ctx) (m : OutMsg) : (s.makeMsg c m).sbl.state = s.sbl.state := by
  unfold State.makeMsg; split
  · simp
  · rfl

theorem State.refillUpTo_linkState (n : Nat) : ∀ s : State, (s.refillUpTo n).sbl.state = s.sbl.state := by
  induction n with
  | zero => exact fun _ => rfl
  | succ n ih =>
    intro s
    unfold State.refillUpTo
    split
    · rfl
    · split
      · split <;> rw [ih]
        · rfl
        · rw [State.queueTail_linkState]; rfl
      · rfl

@[simp] theorem State.enterIdle_linkState (c : Ctx) (j : Job) : (s.enterIdle c j).sbl.state = s.sbl.state := rfl

@[simp] theorem State.purgeOutbound_linkState (keep : OutMsg → Bool) : (s.purgeOutbound keep).sbl.state = s.sbl.state :=
  State.refillUpTo_linkState _ _

theorem State.linkUp_linkState : s.linkUp.sbl.state = .up := State.purgeOutbound_linkState _ _

end

namespace State.LinkQuiet
variable {s t : State}

theorem idleQuiet (h : s.LinkQuiet) : s.IdleQuiet := h.1

theorem ofView (h : s.LinkQuiet) (hv : t.view = s.view) : t.LinkQuiet := by
  have ctx := State.ctx_eq_of_view hv
  have mode : t.mode = s.mode := congrArg (fun x : View => x.tables.mode) hv
  have link : t.sbl.state = s.sbl.state := congrArg View.link hv
  have waiting : t.sbl.waiting = s.sbl.waiting := congrArg View.waiting hv
  have outbound : t.sbl.outbound = s.sbl.outbound := congrArg View.outbound hv
  simpa only [State.LinkQuiet, ctx, mode, link, waiting, outbound] using h

/-- While a context is outside IDLE the part is ACTIVE and the link UP, so only what IDLE contexts hold matters. -/
theorem ofBusy (h : s.LinkQuiet) {c : Ctx} (busy : (s.ctx c).isIdle = false) (mode : t.mode = s.mode)
    (link : t.sbl.state = s.sbl.state) (quiet : t.IdleQuiet) : t.LinkQuiet := by
  obtain ⟨-, active, up⟩ := h
  refine ⟨quiet, fun hm => ?_, fun hl => ?_⟩
  · rw [mode] at hm
    exact absurd (busy.symm.trans (active hm c)) nofun
  · rw [link] at hl
    exact absurd (busy.symm.trans ((up hl).1 c)) nofun

/-- Every context IDLE and nothing but greetings to send: the link is quiet in every state and mode. -/
theorem ofSilence (idle : ∀ c, (t.ctx c).isIdle = true) (quiet : t.IdleQuiet) (waiting : t.sbl.waiting = [])
    (outbound : ∀ m ∈ t.sbl.outbound, m.IsGreeting) : t.LinkQuiet :=
  ⟨quiet, fun _ => idle, fun _ => ⟨idle, waiting, outbound⟩⟩

end State.LinkQuiet

end Sys2Proof.Machine
end

section
/-!
SUPPORT. The law that ties the tables (R29, R71), entry by entry: which slots an entry uses and as what, and which migration it
runs. A change of one entry then needs a look at that entry alone.
-/

namespace Sys2Proof.Machine

/-- Entry `e` at index `i` has slot `k` of a bank in state `x` (R29). -/
def Entry.Uses (e : Entry) (i : EntryIx) (r : Rank) (b : Bank) (k : SlotNo) (x : SlotState) : Prop :=
  match e with
  | .free => False
  | .forming o n _ => o.rank = r ∧ o.bank = b ∧ n = k ∧ x = .target i
  | .live o n _ _ => o.rank = r ∧ o.bank = b ∧ n = k ∧ x = .mapped i
  | .moving o old n _ _ => o.rank = r ∧ o.bank = b ∧ (old = k ∧ x = .mapped i ∨ n = k ∧ x = .target i)
  | .retiring o n _ => o.rank = r ∧ o.bank = b ∧ n = k ∧ x = .mapped i
  | .permanent o n _ _ => o.rank = r ∧ o.bank = b ∧ n = k ∧ x = .permanent i

/-- Entry `e` is FORMING or MOVING for the migration of context `c` to slot `n` (R71). -/
def Entry.Runs (e : Entry) (c : Ctx) (d : Direction) (o : Origin) (n : SlotNo) : Prop :=
  match e with
  | .forming o' n' c' => d = .first ∧ o' = o ∧ n' = n ∧ c' = c
  | .moving o' _ n' c' _ => d = .move ∧ o' = o ∧ n' = n ∧ c' = c
  | _ => False

/-- R18, R163: a stage in PROBATION or READY, and a burn, keep their LIVE entry marked with their record. -/
structure State.StageMarked (s : State) : Prop where
  probation : ∀ i r p x, s.rst.stage = .probation i r p x → ∃ o n m, s.entry i = .live o n m (some r)
  ready : ∀ i r x, s.rst.stage = .ready i r x → ∃ o n m, s.entry i = .live o n m (some r)
  burn : ∀ k i o n, s.rst.operation = some (.burn k i o n) →
    s.rst.stage = .committed i k ∧ ∃ m, s.entry i = .live o n m (some k)

/-- The law of the tables without the mode. -/
structure State.NamesAgree (s : State) : Prop where
  slots : ∀ i r b k x, (s.entry i).Uses i r b k x ↔ (s.slot r b k).state = x ∧ x.entry = some i
  runs : ∀ i c d o n, (s.entry i).Runs c d o n ↔ s.migrates c d i o n
  stage : s.StageMarked

/-- A slot that an entry has as its next one is used as TARGET. -/
theorem Entry.uses_target_of {e : Entry} {o : Origin} {k : SlotNo} (ho : e.origin = some o) (hk : e.nextSlot = some k)
    (i : EntryIx) : e.Uses i o.rank o.bank k (.target i) := by
  cases e with
  | forming => cases ho; cases hk; exact ⟨rfl, rfl, rfl, rfl⟩
  | moving => cases ho; cases hk; exact ⟨rfl, rfl, .inr ⟨rfl, rfl⟩⟩
  | _ => cases hk

/-- A slot that serves an entry which is not PERMANENT is used as MAPPED. -/
theorem Entry.uses_mapped_of {e : Entry} {o : Origin} {k : SlotNo} (ho : e.origin = some o) (hk : e.slot = some k)
    (burned : ∀ o' k' m r, e ≠ .permanent o' k' m r) (i : EntryIx) : e.Uses i o.rank o.bank k (.mapped i) := by
  cases e with
  | live => cases ho; cases hk; exact ⟨rfl, rfl, rfl, rfl⟩
  | moving => cases ho; cases hk; exact ⟨rfl, rfl, .inl ⟨rfl, rfl⟩⟩
  | retiring => cases ho; cases hk; exact ⟨rfl, rfl, rfl, rfl⟩
  | permanent => exact absurd rfl (burned _ _ _ _)
  | _ => cases hk

namespace Entry.Uses
variable {e : Entry} {i j : EntryIx} {r : Rank} {b : Bank} {k : SlotNo}

theorem target (h : e.Uses i r b k (.target j)) : ∃ o, e.origin = some o ∧ o.rank = r ∧ o.bank = b ∧ e.nextSlot = some k := by
  cases e with
  | free => exact h.elim
  | forming o => obtain ⟨hr, hb, rfl, -⟩ := h; exact ⟨o, rfl, hr, hb, rfl⟩
  | moving o =>
    obtain ⟨hr, hb, ⟨-, hx⟩ | ⟨rfl, -⟩⟩ := h
    · cases hx
    · exact ⟨o, rfl, hr, hb, rfl⟩
  | _ => obtain ⟨-, -, -, hx⟩ := h; cases hx

theorem mapped (h : e.Uses i r b k (.mapped j)) :
    ∃ o, e.origin = some o ∧ o.rank = r ∧ o.bank = b ∧ e.slot = some k ∧ ∀ o' k' m r', e ≠ .permanent o' k' m r' := by
  cases e with
  | free => exact h.elim
  | live o => obtain ⟨hr, hb, rfl, -⟩ := h; exact ⟨o, rfl, hr, hb, rfl, nofun⟩
  | moving o =>
    obtain ⟨hr, hb, ⟨rfl, -⟩ | ⟨-, hx⟩⟩ := h
    · exact ⟨o, rfl, hr, hb, rfl, nofun⟩
    · cases hx
  | retiring o => obtain ⟨hr, hb, rfl, -⟩ := h; exact ⟨o, rfl, hr, hb, rfl, nofun⟩
  | _ => obtain ⟨-, -, -, hx⟩ := h; cases hx

theorem permanent (h : e.Uses i r b k (.permanent j)) : ∃ o m r', e = .permanent o k m r' ∧ o.rank = r ∧ o.bank = b := by
  cases e with
  | free => exact h.elim
  | moving o => obtain ⟨-, -, ⟨-, hx⟩ | ⟨-, hx⟩⟩ := h <;> cases hx
  | permanent o n m r' => obtain ⟨hr, hb, rfl, -⟩ := h; exact ⟨o, m, r', rfl, hr, hb⟩
  | _ => obtain ⟨-, -, -, hx⟩ := h; cases hx

end Entry.Uses

namespace State.TablesTied
variable {s : State} (h : s.TablesTied) {i : EntryIx} {r : Rank} {b : Bank} {k : SlotNo} {x : SlotState}
include h

theorem slot_of_uses (hu : (s.entry i).Uses i r b k x) : (s.slot r b k).state = x ∧ x.entry = some i := by
  have hi := h.entries i
  generalize s.entry i = e at hi hu
  cases e with
  | free => exact hu.elim
  | forming => obtain ⟨rfl, rfl, rfl, rfl⟩ := hu; exact ⟨hi.1, rfl⟩
  | live => obtain ⟨rfl, rfl, rfl, rfl⟩ := hu; exact ⟨hi, rfl⟩
  | moving =>
    obtain ⟨rfl, rfl, ⟨rfl, rfl⟩ | ⟨rfl, rfl⟩⟩ := hu
    · exact ⟨hi.1, rfl⟩
    · exact ⟨hi.2.1, rfl⟩
  | retiring => obtain ⟨rfl, rfl, rfl, rfl⟩ := hu; exact ⟨hi, rfl⟩
  | permanent => obtain ⟨rfl, rfl, rfl, rfl⟩ := hu; exact ⟨hi, rfl⟩

theorem uses_of_slot (hs : (s.slot r b k).state = x) (hx : x.entry = some i) : (s.entry i).Uses i r b k x := by
  have hk := h.slots r b k
  rw [hs] at hk
  cases x with
  | target =>
    cases hx
    obtain ⟨o, ho, rfl, rfl, hn⟩ := hk
    exact Entry.uses_target_of ho hn i
  | mapped =>
    cases hx
    obtain ⟨o, ho, rfl, rfl, hn, burned⟩ := hk
    exact Entry.uses_mapped_of ho hn burned i
  | permanent =>
    cases hx
    obtain ⟨o, m, r', he, rfl, rfl⟩ := hk
    rw [he]
    exact ⟨rfl, rfl, rfl, rfl⟩
  | _ => cases hx

theorem runs_iff (c : Ctx) (d : Direction) (o : Origin) (n : SlotNo) : (s.entry i).Runs c d o n ↔ s.migrates c d i o n := by
  constructor
  · intro hr
    have hi := h.entries i
    generalize s.entry i = e at hi hr
    cases e with
    | forming => obtain ⟨rfl, rfl, rfl, rfl⟩ := hr; exact hi.2
    | moving => obtain ⟨rfl, rfl, rfl, rfl⟩ := hr; exact hi.2.2
    | _ => exact hr.elim
  · rintro ⟨j, active, rfl, rfl, rfl, rfl⟩
    rcases h.contexts c j active with ⟨hd, he⟩ | ⟨hd, k, m, he⟩
    · rw [he]; exact ⟨hd, rfl, rfl, rfl⟩
    · rw [he]; exact ⟨hd, rfl, rfl, rfl⟩

theorem namesAgree : s.NamesAgree where
  slots _ _ _ _ _ := ⟨h.slot_of_uses, fun ⟨hs, hx⟩ => h.uses_of_slot hs hx⟩
  runs _ := h.runs_iff
  stage := ⟨h.stage.1, h.stage.2.1, h.stage.2.2⟩

end State.TablesTied

namespace State.NamesAgree
variable {s : State} (h : s.NamesAgree) {i : EntryIx}
include h

theorem slot_state {r : Rank} {b : Bank} {k : SlotNo} {x : SlotState} (hu : (s.entry i).Uses i r b k x) :
    (s.slot r b k).state = x := ((h.slots ..).1 hu).1

theorem migrates {c : Ctx} {d : Direction} {o : Origin} {n : SlotNo} (hr : (s.entry i).Runs c d o n) : s.migrates c d i o n :=
  (h.runs ..).1 hr

theorem tablesTied (blank : (∀ g, s.mode ≠ .active g) → ∀ i, s.entry i = .free) : s.TablesTied where
  table := blank
  entries i := by
    have slot {r b k x} := h.slot_state (i := i) (r := r) (b := b) (k := k) (x := x)
    have run {c d o n} := h.migrates (i := i) (c := c) (d := d) (o := o) (n := n)
    generalize s.entry i = e at slot run
    cases e with
    | free => trivial
    | forming => exact ⟨slot ⟨rfl, rfl, rfl, rfl⟩, run ⟨rfl, rfl, rfl, rfl⟩⟩
    | live => exact slot ⟨rfl, rfl, rfl, rfl⟩
    | moving =>
      exact ⟨slot ⟨rfl, rfl, .inl ⟨rfl, rfl⟩⟩, slot ⟨rfl, rfl, .inr ⟨rfl, rfl⟩⟩, run ⟨rfl, rfl, rfl, rfl⟩⟩
    | retiring => exact slot ⟨rfl, rfl, rfl, rfl⟩
    | permanent => exact slot ⟨rfl, rfl, rfl, rfl⟩
  slots r b k := by
    cases hx : (s.slot r b k).state with
    | target i => exact ((h.slots i r b k _).2 ⟨hx, rfl⟩).target
    | mapped i => exact ((h.slots i r b k _).2 ⟨hx, rfl⟩).mapped
    | permanent i => exact ((h.slots i r b k _).2 ⟨hx, rfl⟩).permanent
    | _ => trivial
  contexts c j active := by
    have hr := (h.runs j.entry c j.direction j.origin j.destSlot).2 ⟨j, active, rfl, rfl, rfl, rfl⟩
    cases he : s.entry j.entry with
    | forming o n c' =>
      rw [he] at hr
      obtain ⟨hd, rfl, rfl, rfl⟩ := hr
      exact .inl ⟨hd, rfl⟩
    | moving o k n c' m =>
      rw [he] at hr
      obtain ⟨hd, rfl, rfl, rfl⟩ := hr
      exact .inr ⟨hd, k, m, rfl⟩
    | _ => rw [he] at hr; exact hr.elim
  stage := ⟨h.stage.probation, h.stage.ready, h.stage.burn⟩

end State.NamesAgree

end Sys2Proof.Machine
end

section
/-! SUPPORT. The law that ties the tables under changes: of nothing it reads, and of one entry with its slots and its migration. -/

namespace Sys2Proof.Machine

variable {s t : State}

/-! ## The migration that a context runs -/

theorem State.migrates_iff {c : Ctx} {d : Direction} {i : EntryIx} {o : Origin} {n : SlotNo} :
    s.migrates c d i o n ↔ ∃ st j, st ≠ .closing ∧ (s.ctx c).body = .busy st j ∧
      j.direction = d ∧ j.entry = i ∧ j.origin = o ∧ j.destSlot = n := by
  simp only [State.migrates, Context.activeJob_eq_some]
  constructor
  · rintro ⟨j, ⟨st, hst, hb⟩, hj⟩
    exact ⟨st, j, hst, hb, hj⟩
  · rintro ⟨st, j, hst, hb, hj⟩
    exact ⟨j, ⟨st, hst, hb⟩, hj⟩

theorem State.migrates_congr {c : Ctx} (h : (t.ctx c).body = (s.ctx c).body) {d : Direction} {i : EntryIx} {o : Origin}
    {n : SlotNo} : t.migrates c d i o n ↔ s.migrates c d i o n := by rw [migrates_iff, migrates_iff, h]

/-- A context runs one migration. -/
theorem State.migrates_iff_of_busy {c : Ctx} {st : BusyState} {j : Job} (hb : (s.ctx c).body = .busy st j) (hst : st ≠ .closing)
    {d : Direction} {i : EntryIx} {o : Origin} {n : SlotNo} :
    s.migrates c d i o n ↔ j.direction = d ∧ j.entry = i ∧ j.origin = o ∧ j.destSlot = n := by
  rw [migrates_iff, hb]
  constructor
  · rintro ⟨_, _, _, ⟨⟩, hj⟩; exact hj
  · exact fun hj => ⟨st, j, hst, rfl, hj⟩

/-- An IDLE or CLOSING context runs no migration. -/
theorem State.not_migrates {c : Ctx} (hb : ∀ st j, (s.ctx c).body = .busy st j → st = .closing) {d : Direction} {i : EntryIx}
    {o : Origin} {n : SlotNo} : ¬s.migrates c d i o n := by
  rw [migrates_iff]
  rintro ⟨st, j, hst, hj, -⟩
  exact hst (hb st j hj)

/-- An entry runs for one context. -/
theorem Entry.Runs.ctx_eq {e : Entry} {c c' : Ctx} {d d' : Direction} {o o' : Origin} {n n' : SlotNo} (h : e.Runs c d o n)
    (h' : e.Runs c' d' o' n') : c = c' := by
  cases e <;> simp_all [Entry.Runs]

theorem Entry.Runs.ne_free {e : Entry} {c : Ctx} {d : Direction} {o : Origin} {n : SlotNo} (h : e.Runs c d o n) : e ≠ .free := by
  rintro rfl; exact h

theorem Entry.Runs.ne_live {e : Entry} {c : Ctx} {d : Direction} {o : Origin} {n : SlotNo} (h : e.Runs c d o n)
    (o' k m st) : e ≠ .live o' k m st := by
  rintro rfl; exact h

/-- The destination of a migration is the one slot that its entry uses as TARGET. -/
theorem Entry.Runs.uses_target {e : Entry} {c : Ctx} {d : Direction} {o : Origin} {n : SlotNo} (h : e.Runs c d o n)
    {i : EntryIx} {r : Rank} {b : Bank} {k : SlotNo} : e.Uses i r b k (.target i) ↔ o.rank = r ∧ o.bank = b ∧ n = k := by
  cases e <;> simp_all [Entry.Runs, Entry.Uses]

/-! ## The stage -/

theorem State.StageMarked.ofEntries (h : s.StageMarked) (stage : t.rst.stage = s.rst.stage)
    (operation : t.rst.operation = s.rst.operation)
    (live : ∀ i o n m r, s.entry i = .live o n m (some r) → t.entry i = .live o n m (some r)) : t.StageMarked where
  probation i r p x hs := by
    obtain ⟨o, n, m, he⟩ := h.probation i r p x (stage ▸ hs)
    exact ⟨o, n, m, live i o n m r he⟩
  ready i r x hs := by
    obtain ⟨o, n, m, he⟩ := h.ready i r x (stage ▸ hs)
    exact ⟨o, n, m, live i o n m r he⟩
  burn k i o n ho := by
    obtain ⟨hs, m, he⟩ := h.burn k i o n (operation ▸ ho)
    exact ⟨stage ▸ hs, m, live i o n m k he⟩

/-- No stage that could be cancelled and no burn is for entry `i`. -/
structure State.Unstaged (s : State) (i : EntryIx) : Prop where
  stage : s.rst.stage.cancellable ≠ some i
  burn : ∀ k o n, s.rst.operation ≠ some (.burn k i o n)

/-- A change of an entry that is not staged. -/
theorem State.StageMarked.ofOther (h : s.StageMarked) (stage : t.rst.stage = s.rst.stage)
    (operation : t.rst.operation = s.rst.operation) {i : EntryIx} (entries : ∀ j, j ≠ i → t.entry j = s.entry j)
    (unstaged : s.Unstaged i) : t.StageMarked where
  probation j r p x hs := by
    rw [stage] at hs
    have hj : j ≠ i := by rintro rfl; exact unstaged.stage (by rw [hs]; rfl)
    rw [entries j hj]
    exact h.probation j r p x hs
  ready j r x hs := by
    rw [stage] at hs
    have hj : j ≠ i := by rintro rfl; exact unstaged.stage (by rw [hs]; rfl)
    rw [entries j hj]
    exact h.ready j r x hs
  burn k j o n ho := by
    rw [operation] at ho
    have hj : j ≠ i := by rintro rfl; exact unstaged.burn k o n ho
    rw [stage, entries j hj]
    exact h.burn k j o n ho

/-- A stage that could be cancelled is for a LIVE entry that is marked, and no burn is in flight. -/
theorem State.StageMarked.of_cancellable (h : s.StageMarked) {i : EntryIx} (hc : s.rst.stage.cancellable = some i) :
    (∃ o n m r, s.entry i = .live o n m (some r)) ∧ ∀ k j o n, s.rst.operation ≠ some (.burn k j o n) := by
  have idle : (∀ j k, s.rst.stage ≠ .committed j k) → ∀ k j o n, s.rst.operation ≠ some (.burn k j o n) :=
    fun hs k j o n ho => hs j k (h.burn k j o n ho).1
  cases hst : s.rst.stage with
  | probation e r p x =>
    rw [hst] at hc; cases hc
    obtain ⟨o, n, m, he⟩ := h.probation _ _ _ _ hst
    exact ⟨⟨o, n, m, r, he⟩, idle (by simp [hst])⟩
  | ready e r x =>
    rw [hst] at hc; cases hc
    obtain ⟨o, n, m, he⟩ := h.ready _ _ _ hst
    exact ⟨⟨o, n, m, r, he⟩, idle (by simp [hst])⟩
  | _ => rw [hst] at hc; cases hc

theorem State.StageMarked.unstaged (h : s.StageMarked) {i : EntryIx} (hi : ∀ o n m r, s.entry i ≠ .live o n m (some r)) :
    s.Unstaged i where
  stage hc := by
    obtain ⟨⟨o, n, m, r, he⟩, -⟩ := h.of_cancellable hc
    exact hi o n m r he
  burn k o n ho := by
    obtain ⟨-, m, he⟩ := h.burn k i o n ho
    exact hi o n m k he

/-! ## The whole law -/

theorem State.TablesTied.active (h : s.TablesTied) {i : EntryIx} (hi : s.entry i ≠ .free) : ∃ g, s.mode = .active g := by
  by_contra hm
  exact hi (h.table (fun g hg => hm ⟨g, hg⟩) i)

/-- Nothing that the law reads has changed, but for slots that name no entry and a stage still marked. -/
theorem State.TablesTied.congrStage (h : s.TablesTied) (mode : t.mode = s.mode) (entry : ∀ i, t.entry i = s.entry i)
    (slots : ∀ r b k x, x.entry ≠ none → ((t.slot r b k).state = x ↔ (s.slot r b k).state = x))
    (runs : ∀ c d i o n, t.migrates c d i o n ↔ s.migrates c d i o n) (stage : s.StageMarked → t.StageMarked) :
    t.TablesTied := by
  have n := h.namesAgree
  refine State.NamesAgree.tablesTied ⟨fun i r b k x => ?_, fun i c d o k => ?_, stage n.stage⟩ fun hm i => ?_
  · rw [entry, n.slots]
    refine and_congr_left fun hx => (slots r b k x ?_).symm
    rw [hx]; nofun
  · rw [entry, runs, n.runs]
  · rw [entry]; exact h.table (mode ▸ hm) i

/-- Nothing that the law reads has changed, but for slots that name no entry. -/
theorem State.TablesTied.congr (h : s.TablesTied) (mode : t.mode = s.mode) (entry : ∀ i, t.entry i = s.entry i)
    (slots : ∀ r b k x, x.entry ≠ none → ((t.slot r b k).state = x ↔ (s.slot r b k).state = x))
    (runs : ∀ c d i o n, t.migrates c d i o n ↔ s.migrates c d i o n) (stage : t.rst.stage = s.rst.stage)
    (operation : t.rst.operation = s.rst.operation) : t.TablesTied :=
  h.congrStage mode entry slots runs fun h => h.ofEntries stage operation fun i _ _ _ _ he => (entry i).trans he

theorem State.TablesTied.ofOnLink (h : s.TablesTied) (a : s.OnLink t) : t.TablesTied :=
  h.congr (State.mode_eq_of_tables a.tables) (State.entry_eq_of_tables a.tables)
    (fun r b k x _ => by rw [State.slot_eq_of_tables a.tables])
    (fun c _ _ _ _ => State.migrates_congr (a.bodies c)) (State.stage_eq_of_tables a.tables)
    (State.operation_eq_of_tables a.tables)

/-- One entry has changed, with its slots and its migration. -/
theorem State.NamesAgree.change (h : s.NamesAgree) (i : EntryIx) (entries : ∀ j, j ≠ i → t.entry j = s.entry j)
    (slots : ∀ j r b k x, j ≠ i → x.entry = some j → ((t.slot r b k).state = x ↔ (s.slot r b k).state = x))
    (runs : ∀ j c d o n, j ≠ i → (t.migrates c d j o n ↔ s.migrates c d j o n))
    (ownSlots : ∀ r b k x, (t.entry i).Uses i r b k x ↔ (t.slot r b k).state = x ∧ x.entry = some i)
    (ownRuns : ∀ c d o n, (t.entry i).Runs c d o n ↔ t.migrates c d i o n) (stage : t.StageMarked) : t.NamesAgree where
  slots j r b k x := by
    by_cases hj : j = i
    · subst hj; exact ownSlots r b k x
    · rw [entries j hj, h.slots]
      exact and_congr_left fun hx => (slots j r b k x hj hx).symm
  runs j c d o n := by
    by_cases hj : j = i
    · subst hj; exact ownRuns c d o n
    · rw [entries j hj, h.runs, runs j c d o n hj]
  stage := stage

theorem State.TablesTied.ofNames (h : s.TablesTied) (mode : t.mode = s.mode) {i : EntryIx} (hi : s.entry i ≠ .free)
    (n : t.NamesAgree) : t.TablesTied := by
  obtain ⟨g, hg⟩ := h.active hi
  exact n.tablesTied fun hm => absurd (mode.trans hg) (hm g)

/-- The state of a slot after a write. -/
theorem State.setSlot_state_iff (r r' : Rank) (b b' : Bank) (k k' : SlotNo) (x : SlotRecord) (y : SlotState) :
    ((s.setSlot r b k x).slot r' b' k').state = y ↔
      if r' = r ∧ b' = b ∧ k' = k then x.state = y else (s.slot r' b' k').state = y := by
  rw [State.setSlot_slot]; split <;> rfl

/-- A slot that names at most entry `i` takes a state that names at most entry `i`. -/
theorem State.setSlot_state_of_other {i j : EntryIx} (hj : j ≠ i) {r : Rank} {b : Bank} {k : SlotNo} {x : SlotRecord}
    (before : ∀ l, (s.slot r b k).state.entry = some l → l = i) (after : ∀ l, x.state.entry = some l → l = i)
    {r' : Rank} {b' : Bank} {k' : SlotNo} {y : SlotState} (hy : y.entry = some j) :
    ((s.setSlot r b k x).slot r' b' k').state = y ↔ (s.slot r' b' k').state = y := by
  rw [State.setSlot_state_iff]
  split
  · next hp =>
    obtain ⟨rfl, rfl, rfl⟩ := hp
    constructor
    · rintro rfl; exact absurd (after j hy) hj
    · rintro rfl; exact absurd (before j hy) hj
  · rfl

theorem State.setBody_migrates {c c' : Ctx} {b : ContextBody} (hc : c' ≠ c) {d : Direction} {i : EntryIx} {o : Origin}
    {n : SlotNo} : (s.setBody c b).migrates c' d i o n ↔ s.migrates c' d i o n :=
  State.migrates_congr (by rw [State.setBody_body, if_neg hc])

/-- The body of a context whose migration `j` has ended: IDLE, or CLOSING with the job. -/
def ContextBody.Ends (b : ContextBody) (j : Job) : Prop := ∀ st k, b = .busy st k → st = .closing ∧ k = j

theorem ContextBody.ends_idle (l : Option LastMigration) (j : Job) : (ContextBody.idle l).Ends j := nofun
theorem ContextBody.ends_closing (j : Job) : (ContextBody.busy .closing j).Ends j := by rintro _ _ ⟨⟩; exact ⟨rfl, rfl⟩

theorem State.setBody_migrates_of_ends {c c' : Ctx} {b : ContextBody} {j : Job} (hb : b.Ends j) {d : Direction} {i : EntryIx}
    {o : Origin} {n : SlotNo} : (s.setBody c b).migrates c' d i o n ↔ c' ≠ c ∧ s.migrates c' d i o n := by
  by_cases hc : c' = c
  · subst hc
    simp only [ne_eq, not_true_eq_false, false_and, iff_false]
    exact State.not_migrates fun st k hk => (hb st k (by rw [← hk, State.setBody_body, if_pos rfl])).1
  · rw [State.setBody_migrates hc]; simp [hc]

/-- The end of the migration `j` of context `c`, by an abort (R88) or a cutover (R85): the law holds again once its entry runs
no more and uses the slots that name it. -/
theorem State.TablesTied.endRun (h : s.TablesTied) {c : Ctx} {st : BusyState} {j : Job} (hb : (s.ctx c).body = .busy st j)
    (hst : st ≠ .closing) {b : ContextBody} (hbe : b.Ends j) {u : State} {e : Entry}
    (mode : u.mode = s.mode) (stage : u.rst.stage = s.rst.stage) (operation : u.rst.operation = s.rst.operation)
    (bodies : ∀ d, (u.ctx d).body = (s.ctx d).body)
    (written : ∀ i, u.entry i = if i = j.entry then e else s.entry i)
    (slots : ∀ i r b k x, i ≠ j.entry → x.entry = some i → ((u.slot r b k).state = x ↔ (s.slot r b k).state = x))
    (own : ∀ r b k x, e.Uses j.entry r b k x ↔ (u.slot r b k).state = x ∧ x.entry = some j.entry)
    (ended : ∀ c d o n, ¬e.Runs c d o n) : (u.setBody c b).TablesTied := by
  have n := h.namesAgree
  have running := (n.runs j.entry c _ _ _).2 ((State.migrates_iff_of_busy hb hst).2 ⟨rfl, rfl, rfl, rfl⟩)
  have others : ∀ i, i ≠ j.entry → (u.setBody c b).entry i = s.entry i := fun i hi => (written i).trans (if_neg hi)
  have same : (u.setBody c b).entry j.entry = e := (written _).trans (if_pos rfl)
  have migrations : ∀ c' d i o k, (u.setBody c b).migrates c' d i o k ↔ c' ≠ c ∧ s.migrates c' d i o k := fun c' d i o k => by
    rw [State.setBody_migrates_of_ends hbe, State.migrates_congr (bodies c')]
  refine h.ofNames mode running.ne_free (n.change j.entry others slots (fun i c' d o k hi => ?_) (fun r b k x => ?_)
    (fun c' d o k => ?_) (n.stage.ofOther stage operation others (n.stage.unstaged fun _ _ _ _ => running.ne_live _ _ _ _)))
  · rw [migrations, and_iff_right_of_imp]
    rintro hm rfl
    exact hi ((State.migrates_iff_of_busy hb hst).1 hm).2.1.symm
  · rw [same]; exact own r b k x
  · rw [same, migrations]
    refine iff_of_false (ended c' d o k) ?_
    rintro ⟨hc, hm⟩
    exact hc (((n.runs _ _ _ _ _).2 hm).ctx_eq running)

/-- One entry has changed, but not which slots it uses nor which migration it runs. -/
theorem State.TablesTied.rewrite (h : s.TablesTied) {i : EntryIx} {e : Entry} (mode : t.mode = s.mode) (hi : s.entry i ≠ .free)
    (written : ∀ j, t.entry j = if j = i then e else s.entry j) (slots : ∀ r b k, t.slot r b k = s.slot r b k)
    (bodies : ∀ c, (t.ctx c).body = (s.ctx c).body) (uses : ∀ r b k x, e.Uses i r b k x ↔ (s.entry i).Uses i r b k x)
    (runs : ∀ c d o n, e.Runs c d o n ↔ (s.entry i).Runs c d o n) (stage : t.StageMarked) : t.TablesTied := by
  have n := h.namesAgree
  have same : t.entry i = e := (written i).trans (if_pos rfl)
  refine h.ofNames mode hi (n.change i (fun j hj => (written j).trans (if_neg hj)) (fun j r b k x _ _ => by rw [slots])
    (fun j c d o k _ => State.migrates_congr (bodies c)) (fun r b k x => ?_) (fun c d o k => ?_) stage)
  · rw [same, uses, slots, n.slots]
  · rw [same, runs, n.runs, State.migrates_congr (bodies c)]

/-- An entry that runs no migration and has one slot changes with the state of that slot. -/
theorem State.TablesTied.settle (h : s.TablesTied) {i : EntryIx} {o : Origin} {k : SlotNo} {y : SlotState} {e : Entry}
    {z : SlotRecord} (uses : ∀ r b n x, (s.entry i).Uses i r b n x ↔ (o.rank = r ∧ o.bank = b ∧ k = n) ∧ x = y)
    (runs : ∀ c d o n, ¬(s.entry i).Runs c d o n) (unstaged : s.Unstaged i)
    (uses' : ∀ r b n x, e.Uses i r b n x ↔ (o.rank = r ∧ o.bank = b ∧ k = n) ∧ x = z.state ∧ x.entry = some i)
    (runs' : ∀ c d o n, ¬e.Runs c d o n) (names : ∀ l, z.state.entry = some l → l = i) :
    ((s.setEntry i e).setSlot o.rank o.bank k z).TablesTied := by
  have n := h.namesAgree
  have used := (uses o.rank o.bank k y).2 ⟨⟨rfl, rfl, rfl⟩, rfl⟩
  obtain ⟨slot, named⟩ := (n.slots ..).1 used
  have others : ∀ j, j ≠ i → (s.setEntry i e).entry j = s.entry j := fun j hj => (s.setEntry_entry i j e).trans (if_neg hj)
  have same : ((s.setEntry i e).setSlot o.rank o.bank k z).entry i = e := by rw [State.setSlot_entry, State.setEntry_entry_same]
  refine h.ofNames rfl (fun hf => by rw [hf] at used; exact used) (n.change i others (fun j r b k' x hj hx => ?_)
    (fun _ _ _ _ _ _ => Iff.rfl) (fun r b k' x => ?_) (fun c d o' k' => ?_) (n.stage.ofOther rfl rfl others unstaged))
  · refine State.setSlot_state_of_other (s := s) hj (fun l hl => ?_) names hx
    rw [slot, named] at hl
    exact (Option.some.inj hl).symm
  · rw [same, uses', State.setSlot_state_iff]
    split
    · next hp =>
      obtain ⟨rfl, rfl, rfl⟩ := hp
      simp [eq_comm]
    · next hp =>
      refine iff_of_false (fun ⟨⟨hr, hb, hk⟩, _⟩ => hp ⟨hr.symm, hb.symm, hk.symm⟩) fun hu => ?_
      obtain ⟨⟨rfl, rfl, rfl⟩, -⟩ := (uses ..).1 ((n.slots i r b k' x).2 hu)
      exact hp ⟨rfl, rfl, rfl⟩
  · rw [same]
    exact iff_of_false (runs' c d o' k') fun hm => runs c d o' k' ((n.runs ..).2 hm)

/-- A slot that names no entry changes to a state that names none. -/
theorem State.TablesTied.setSlot (h : s.TablesTied) {r : Rank} {b : Bank} {k : SlotNo} {x : SlotRecord}
    (before : (s.slot r b k).state.entry = none) (after : x.state.entry = none) : (s.setSlot r b k x).TablesTied := by
  refine h.congr rfl (fun _ => rfl) (fun r' b' k' y hy => ?_) (fun _ _ _ _ _ => Iff.rfl) rfl rfl
  rw [State.setSlot_state_iff]
  split
  · next hp =>
    obtain ⟨rfl, rfl, rfl⟩ := hp
    exact iff_of_false (fun hx => hy (hx ▸ after)) fun hx => hy (hx ▸ before)
  · rfl

end Sys2Proof.Machine
end

section
/-!
SUPPORT. The five laws through the operations of the Migration Engine. `TablesKept F s t` says that the laws of the sink, the
keys, the rounds and the tables carry over from `s` to `t`; `LawsKept F s t` says so of the quiet link too. `F` holds the contexts
that may be in FENCING with the fence held already (see `State.RoundsBut`).
-/

namespace Sys2Proof.Machine

/-- See the head of the section. -/
structure TablesKept (F : Ctx → Prop) (s t : State) : Prop where
  sink : s.SinkKept → t.SinkKept
  keys : s.KeysUnique → t.KeysUnique
  rounds : s.RoundsBut F → t.RoundsBut F
  tied : s.TablesTied → t.TablesTied

/-- See the head of the section. -/
structure LawsKept (F : Ctx → Prop) (s t : State) : Prop extends TablesKept F s t where
  quiet : s.LinkQuiet → t.LinkQuiet

variable {F : Ctx → Prop} {s t u : State}

namespace TablesKept

theorem trans (a : TablesKept F s t) (b : TablesKept F t u) : TablesKept F s u :=
  ⟨b.sink ∘ a.sink, b.keys ∘ a.keys, b.rounds ∘ a.rounds, b.tied ∘ a.tied⟩

theorem ofOnLink (a : s.OnLink t) : TablesKept F s t :=
  ⟨(·.ofOnLink a), (·.ofOnLink a), (·.ofOnLink a), (·.ofOnLink a)⟩

end TablesKept

namespace LawsKept

theorem refl (s : State) : LawsKept F s s := ⟨⟨id, id, id, id⟩, id⟩

theorem trans (a : LawsKept F s t) (b : LawsKept F t u) : LawsKept F s u :=
  ⟨a.toTablesKept.trans b.toTablesKept, b.quiet ∘ a.quiet⟩

theorem ofOnLink (a : s.OnLink t) (quiet : s.LinkQuiet → t.LinkQuiet) : LawsKept F s t := ⟨.ofOnLink a, quiet⟩

theorem ofView (h : t.view = s.view) : LawsKept F s t := ofOnLink (State.onLink_of_view h) (·.ofView h)

/-- What comes after a change of nothing that the laws read. -/
theorem after (b : LawsKept F t u) (h : t.view = s.view) : LawsKept F s u := (ofView h).trans b

theorem foldl {α : Type} (f : State → α → State) (h : ∀ s a, LawsKept F s (f s a)) (l : List α) (s : State) :
    LawsKept F s (l.foldl f s) := by
  induction l generalizing s with
  | nil => exact refl s
  | cons a l ih => exact (h s a).trans (ih _)

theorem makeMsg {c : Ctx} (busy : (s.ctx c).isIdle = false) (m : OutMsg) : LawsKept F s (s.makeMsg c m) :=
  ofOnLink (.makeMsg s c m) fun h => h.ofBusy busy (Kept.makeMsg s c m).mode (by simp) (h.idleQuiet.makeMsg busy m)

end LawsKept

/-! ## A migration that goes on -/

/-- From state `st` with job `j` a context goes on to `st'` with `j'`: in the same migration, by the law of the rounds. -/
structure Job.LeadsTo (exempt : Prop) (st : BusyState) (j : Job) (st' : BusyState) (j' : Job) : Prop where
  active : st ≠ .closing ∧ st' ≠ .closing
  same : j'.direction = j.direction ∧ j'.entry = j.entry ∧ j'.origin = j.origin ∧ j'.destSlot = j.destSlot
  rounds : j.RoundLaw exempt st → j'.RoundLaw exempt st'

namespace LawsKept
variable {c : Ctx} {st st' : BusyState} {j j' : Job}

theorem goesOn (hb : (s.ctx c).body = .busy st j) (l : j.LeadsTo (F c) st st' j') (timer : Option Nat) :
    LawsKept F s (s.setCtx c { s.ctx c with body := .busy st' j', timer := timer }) := by
  obtain ⟨⟨hst, hst'⟩, ⟨hd, he, ho, hn⟩, rounds⟩ := l
  have onLink : (s.setBody c (.busy st' j')).OnLink (s.setCtx c { s.ctx c with body := .busy st' j', timer := timer }) :=
    .ofBody s c { s.ctx c with body := .busy st' j', timer := timer }
  refine ⟨TablesKept.trans ⟨fun h => h.setBody c ?_, id, fun h => h.setBody ?_, fun h => h.congr rfl (fun _ => rfl)
    (fun _ _ _ _ _ => Iff.rfl) ?_ rfl rfl⟩ (.ofOnLink onLink), fun h => ?_⟩
  · rintro _ _ ⟨⟩
    exact hn ▸ h.dest hb
  · rintro _ _ ⟨⟩
    exact rounds (h.2 c st j hb)
  · intro c' d i o n
    by_cases hc : c' = c
    · subst hc
      have now : ((s.setBody c' (.busy st' j')).ctx c').body = .busy st' j' := by rw [State.setBody_body, if_pos rfl]
      rw [State.migrates_iff_of_busy now hst', State.migrates_iff_of_busy hb hst, hd, he, ho, hn]
    · exact State.setBody_migrates hc
  · exact h.ofBusy (Context.isIdle_of_busy hb) rfl rfl (h.idleQuiet.setCtx nofun)

theorem enterState (hb : (s.ctx c).body = .busy st j) (l : j.LeadsTo (F c) st st' j') : LawsKept F s (s.enterState c st' j') :=
  goesOn hb l none

theorem enterTimed (hb : (s.ctx c).body = .busy st j) (l : j.LeadsTo (F c) st st' j') (ms : Nat) :
    LawsKept F s (s.enterTimed c st' j' ms) := goesOn hb l (some ms)

theorem setJob (hb : (s.ctx c).body = .busy st j) (l : j.LeadsTo (F c) st st' j') : LawsKept F s (s.setJob c st' j') :=
  goesOn hb l (s.ctx c).timer

theorem enterState_isIdle (s : State) (c : Ctx) (st : BusyState) (j : Job) :
    ((s.enterState c st j).ctx c).isIdle = false := by
  simp [State.enterState, Context.isIdle]

theorem startRound (hb : (s.ctx c).body = .busy st j) (l : j.LeadsTo (F c) st .offering j'.nextRound) :
    LawsKept F s (s.startRound c j') := (enterState hb l).trans (makeMsg (enterState_isIdle ..) _)

theorem requestFence (hb : (s.ctx c).body = .busy st j) (l : j.LeadsTo (F c) st .fencing { j' with fenced := .requested }) :
    LawsKept F s (s.requestFence c j') := (enterState hb l).trans (makeMsg (enterState_isIdle ..) _)

end LawsKept

/-! ## A migration that ends -/

theorem State.OnLink.setBody (a : s.OnLink t) (c : Ctx) (b : ContextBody) : (s.setBody c b).OnLink (t.setBody c b) where
  tables := a.tables
  bodies d := by rw [State.setBody_body, State.setBody_body, a.bodies]

theorem State.SinkKept.ends (h : u.SinkKept) {c : Ctx} {b : ContextBody} {j : Job} (hj : j.destSlot ≠ 0) (hb : b.Ends j) :
    (u.setBody c b).SinkKept := h.setBody c fun st k hk => (hb st k hk).2 ▸ hj

theorem State.RoundsBut.ends (h : u.RoundsBut F) {c : Ctx} {b : ContextBody} {j : Job} (hj : j.RoundBounded) (hb : b.Ends j) :
    (u.setBody c b).RoundsBut F := h.setBody fun st k hk => by
  obtain ⟨rfl, rfl⟩ := hb st k hk
  exact ⟨hj, nofun⟩

/-- R69, R90: a context in CLOSING enters IDLE. -/
theorem LawsKept.enterIdle {c : Ctx} {j : Job} (hb : (s.ctx c).body = .busy .closing j) : LawsKept F s (s.enterIdle c j) := by
  have ends := ContextBody.ends_idle (some ⟨j.direction, j.origin, j.round⟩) j
  refine ⟨TablesKept.trans ⟨fun h => h.ends (h.dest hb) ends, id, fun h => h.ends (h.2 c _ j hb).1 ends, fun h =>
    h.congr rfl (fun _ => rfl) (fun _ _ _ _ _ => Iff.rfl) ?_ rfl rfl⟩ (.ofOnLink (.enterIdle s c j)), fun h =>
    h.ofBusy (Context.isIdle_of_busy hb) rfl rfl (h.idleQuiet.enterIdle c j)⟩
  intro c' d i o n
  rw [State.setBody_migrates_of_ends ends, and_iff_right_of_imp]
  rintro hm rfl
  exact State.not_migrates (fun st k hk => by rw [hb] at hk; cases hk; rfl) hm

/-! ### Abort (R88) -/

/-- What an abort does to the tables. -/
def State.abortTables (s : State) (j : Job) (reason : AbortReason) : State :=
  ((s.setEntry j.entry (s.entry j.entry).restored).abortSlot j reason).setInRepair (s.migrationKey j) none

theorem State.abortSlot_eq (s : State) (j : Job) (reason : AbortReason) :
    ∃ g, s.abortSlot j reason = s.setSlot j.origin.rank j.origin.bank j.destSlot ⟨.free, g⟩ := by
  unfold State.abortSlot; split
  · exact ⟨_, rfl⟩
  · exact ⟨_, rfl⟩

theorem State.abortChanges_onLink (s : State) (c : Ctx) (j : Job) (reason : AbortReason) :
    (s.abortTables j reason).OnLink (s.abortChanges c j reason) :=
  ((State.OnLink.setLastResult ..).trans (State.onLink_of_view (State.raiseIf_view ..))).trans (.dropHeld ..)

/-- R88, R89: an abort leaves the tables of `State.abortTables` and the context IDLE or CLOSING. -/
theorem State.abort_onLink {c : Ctx} {j : Job} (ha : (s.ctx c).activeJob = some j) (reason : AbortReason) :
    ∃ b : ContextBody, b.Ends j ∧ ((s.abortTables j reason).setBody c b).OnLink (s.abort c reason) := by
  have changed := s.abortChanges_onLink c j reason
  unfold State.abort
  rw [ha]
  dsimp only
  split
  · exact ⟨_, ContextBody.ends_idle _ j, (changed.setBody c _).trans (.enterIdle ..)⟩
  · unfold State.abortMessages
    split
    · exact ⟨_, ContextBody.ends_idle _ j, ((changed.trans (.makeMsg ..)).setBody c _).trans (.enterIdle ..)⟩
    · exact ⟨_, ContextBody.ends_closing j,
        (((changed.setBody c _).trans (.enterState ..)).trans (.makeMsg ..)).trans (.makeMsg ..)⟩

theorem State.SinkKept.abortTables (h : s.SinkKept) {j : Job} (hj : j.destSlot ≠ 0) (reason : AbortReason) :
    (s.abortTables j reason).SinkKept := by
  obtain ⟨g, hg⟩ := (s.setEntry j.entry (s.entry j.entry).restored).abortSlot_eq j reason
  have written := (h.setEntry j.entry (h.entry j.entry).restored).setSlot j.origin.rank j.origin.bank hj ⟨.free, g⟩
  rw [State.abortTables, hg]
  exact written

theorem State.KeysUnique.abortTables (h : s.KeysUnique) (j : Job) (reason : AbortReason) :
    (s.abortTables j reason).KeysUnique := by
  obtain ⟨g, hg⟩ := (s.setEntry j.entry (s.entry j.entry).restored).abortSlot_eq j reason
  rw [State.abortTables, hg]
  exact State.KeysUnique.change (s := s) h _ fun _ => rfl

theorem State.RoundsBut.abortTables (h : s.RoundsBut F) (j : Job) (reason : AbortReason) :
    (s.abortTables j reason).RoundsBut F := by
  obtain ⟨g, hg⟩ := (s.setEntry j.entry (s.entry j.entry).restored).abortSlot_eq j reason
  rw [State.abortTables, hg]
  exact h

/-- R12: the entry of an aborted migration uses the slots it used, but for its TARGET. -/
theorem Entry.Runs.uses_restored {e : Entry} {c : Ctx} {d : Direction} {o : Origin} {n : SlotNo} (h : e.Runs c d o n)
    {i : EntryIx} {r : Rank} {b : Bank} {k : SlotNo} {x : SlotState} :
    e.restored.Uses i r b k x ↔ e.Uses i r b k x ∧ x ≠ .target i := by
  cases e with
  | forming => simp +contextual [Entry.restored, Entry.Uses]
  | moving =>
    simp only [Entry.restored, Entry.Uses]
    grind
  | _ => exact h.elim

theorem Entry.Runs.not_runs_restored {e : Entry} {c : Ctx} {d : Direction} {o : Origin} {n : SlotNo} (h : e.Runs c d o n)
    (c' d' o' n') : ¬e.restored.Runs c' d' o' n' := by
  cases e with
  | forming => exact id
  | moving => exact id
  | _ => exact h.elim

theorem State.TablesTied.abortTables (h : s.TablesTied) {c : Ctx} {st : BusyState} {j : Job} (hb : (s.ctx c).body = .busy st j)
    (hst : st ≠ .closing) {b : ContextBody} (hbe : b.Ends j) (reason : AbortReason) :
    ((s.abortTables j reason).setBody c b).TablesTied := by
  obtain ⟨g, hg⟩ := (s.setEntry j.entry (s.entry j.entry).restored).abortSlot_eq j reason
  have n := h.namesAgree
  have running := (n.runs j.entry c _ _ _).2 ((State.migrates_iff_of_busy hb hst).2 ⟨rfl, rfl, rfl, rfl⟩)
  have dest := ((n.slots ..).1 (running.uses_target.2 ⟨rfl, rfl, rfl⟩)).1
  rw [State.abortTables, hg]
  refine h.endRun hb hst hbe rfl rfl rfl (fun _ => rfl) (s.setEntry_entry j.entry · _) (fun i r k m x hi hx => ?_)
    (fun r k m x => ?_) running.not_runs_restored
  · exact State.setSlot_state_of_other (s := s) hi (by rw [dest]; rintro _ ⟨⟩; rfl) (by rintro _ ⟨⟩) hx
  · rw [running.uses_restored, n.slots]
    refine Iff.trans ?_ (and_congr_left' (s.setSlot_state_iff ..).symm)
    split
    · next hp =>
      obtain ⟨rfl, rfl, rfl⟩ := hp
      rw [dest]
      constructor
      · rintro ⟨⟨hx, -⟩, hne⟩; exact absurd hx.symm hne
      · rintro ⟨rfl, hx⟩; cases hx
    · next hp =>
      refine and_iff_left_of_imp ?_
      rintro ⟨hx, -⟩ rfl
      obtain ⟨rfl, rfl, rfl⟩ := running.uses_target.1 ((n.slots ..).2 ⟨hx, rfl⟩)
      exact hp ⟨rfl, rfl, rfl⟩

theorem State.abortTables_mge (s : State) (j : Job) (reason : AbortReason) : (s.abortTables j reason).mge = s.mge := by
  simp [State.abortTables]

theorem State.IdleQuiet.ofMge (h : s.IdleQuiet) (hm : t.mge = s.mge) : t.IdleQuiet := by
  intro c
  have same : t.ctx c = s.ctx c := by rw [State.ctx, State.ctx, hm]
  rw [same]
  exact h c

theorem State.IdleQuiet.abortChanges (h : s.IdleQuiet) (c : Ctx) (j : Job) (reason : AbortReason) :
    (s.abortChanges c j reason).IdleQuiet := by
  have tables : (s.abortTables j reason).IdleQuiet := h.ofMge (s.abortTables_mge j reason)
  exact State.IdleQuiet.dropHeld ((tables.setLastResult c _).ofView (State.raiseIf_view ..)) c

theorem State.OnLink.isIdle (a : s.OnLink t) (c : Ctx) : (t.ctx c).isIdle = (s.ctx c).isIdle := Context.isIdle_congr (a.bodies c)

theorem State.abortTables_isIdle (s : State) (j : Job) (reason : AbortReason) (c : Ctx) :
    ((s.abortTables j reason).ctx c).isIdle = (s.ctx c).isIdle := by
  rw [State.ctx, State.ctx, State.abortTables_mge]

theorem State.IdleQuiet.abort (h : s.IdleQuiet) (c : Ctx) (reason : AbortReason) : (s.abort c reason).IdleQuiet := by
  unfold State.abort
  split
  · exact h
  · next j ha =>
    have changed := h.abortChanges c j reason
    have busy : ((s.abortChanges c j reason).ctx c).isIdle = false := by
      obtain ⟨st, -, hb⟩ := Context.activeJob_eq_some.1 ha
      rw [(s.abortChanges_onLink c j reason).isIdle, State.abortTables_isIdle]
      exact Context.isIdle_of_busy hb
    split
    · exact changed.enterIdle c j
    · unfold State.abortMessages
      split
      · exact (changed.makeMsg busy _).enterIdle c j
      · have closing : ((s.abortChanges c j reason).enterState c .closing j).IdleQuiet := changed.setCtx nofun
        have still := LawsKept.enterState_isIdle (s.abortChanges c j reason) c .closing j
        exact (closing.makeMsg still _).makeMsg (((State.OnLink.makeMsg ..).isIdle c).trans still) _

@[simp] theorem State.abortChanges_linkState (s : State) (c : Ctx) (j : Job) (reason : AbortReason) :
    (s.abortChanges c j reason).sbl.state = s.sbl.state := by
  unfold State.abortChanges State.abortSlot State.raiseIf
  split <;> split <;> rfl

@[simp] theorem State.abort_linkState (s : State) (c : Ctx) (reason : AbortReason) :
    (s.abort c reason).sbl.state = s.sbl.state := by
  unfold State.abort; split
  · rfl
  · split
    · simp
    · unfold State.abortMessages; split <;> simp [State.enterState]

/-- R87 to R89. -/
theorem LawsKept.abort (s : State) (c : Ctx) (reason : AbortReason) : LawsKept F s (s.abort c reason) := by
  cases ha : (s.ctx c).activeJob with
  | none =>
    have same : s.abort c reason = s := by simp [State.abort, ha]
    rw [same]
    exact refl s
  | some j =>
    obtain ⟨st, hst, hb⟩ := Context.activeJob_eq_some.1 ha
    obtain ⟨b, ends, onLink⟩ := State.abort_onLink ha reason
    refine ⟨TablesKept.trans ⟨fun h => (h.abortTables (h.dest hb) reason).ends (h.dest hb) ends,
      fun h => (h.abortTables j reason).setBody c b, fun h => (h.abortTables j reason).ends (h.2 c st j hb).1 ends,
      fun h => h.abortTables hb hst ends reason⟩ (.ofOnLink onLink), fun h => ?_⟩
    exact h.ofBusy (Context.isIdle_of_busy hb) (Kept.abort s c reason).mode (by simp) (h.idleQuiet.abort c reason)

/-! ### Cutover (R85, R86) -/

/-- What a cutover does to the tables. -/
def State.cutoverTables (s : State) (j : Job) : State :=
  (((s.cutoverSlots j).setEntry j.entry ((s.entry j.entry).cutOver j.destSlot)).bumpGeneration).removeItem (s.migrationKey j)

theorem State.cutoverChanges_eq (s : State) (c : Ctx) (j : Job) :
    s.cutoverChanges c j = ((s.cutoverTables j).setLastResult c .success).raise .migrationDone := rfl

/-- R34: the slots of a cutover, read off the entry that it serves. -/
theorem State.cutoverSlots_cases (s : State) (j : Job) :
    (∃ k, j.direction = .move ∧ (s.entry j.entry).slot = some k ∧ s.cutoverSlots j =
      (s.setSlotState j.origin.rank j.origin.bank j.destSlot (.mapped j.entry)).freeSlotBad j.origin.rank j.origin.bank k) ∨
    (∀ k, j.direction = .move → (s.entry j.entry).slot ≠ some k) ∧
      s.cutoverSlots j = s.setSlotState j.origin.rank j.origin.bank j.destSlot (.mapped j.entry) := by
  unfold State.cutoverSlots
  dsimp only
  split
  · next k hd hk => exact .inl ⟨k, hd, hk, rfl⟩
  · next hn => exact .inr ⟨hn, rfl⟩

theorem State.cutoverSlots_rst (s : State) (j : Job) : (s.cutoverSlots j).rst = s.rst := by
  rcases s.cutoverSlots_cases j with ⟨_, -, -, he⟩ | ⟨-, he⟩ <;> rw [he] <;> rfl

theorem State.cutoverTables_mode (s : State) (j : Job) : (s.cutoverTables j).mode = s.mode := (Kept.cutoverSlots s j).mode

theorem State.cutoverTables_rst (s : State) (j : Job) : (s.cutoverTables j).rst = s.rst := s.cutoverSlots_rst j

theorem State.cutoverTables_mge (s : State) (j : Job) : (s.cutoverTables j).mge = s.mge := s.cutoverSlots_mge j

theorem State.SinkKept.cutoverTables (h : s.SinkKept) {j : Job} (hj : j.destSlot ≠ 0) : (s.cutoverTables j).SinkKept := by
  have mapped : (s.setSlotState j.origin.rank j.origin.bank j.destSlot (.mapped j.entry)).SinkKept := h.setSlot _ _ hj _
  have slots : (s.cutoverSlots j).SinkKept := by
    rcases s.cutoverSlots_cases j with ⟨k, -, hk, he⟩ | ⟨-, he⟩
    · rw [he]
      refine mapped.setSlot _ _ ?_ _
      rintro rfl
      exact (h.entry j.entry).slot hk
    · rw [he]; exact mapped
  exact slots.setEntry j.entry ((h.entry j.entry).cutOver hj)

theorem State.KeysUnique.cutoverTables (h : s.KeysUnique) (j : Job) : (s.cutoverTables j).KeysUnique := by
  have slots : (s.cutoverSlots j).KeysUnique := by
    rcases s.cutoverSlots_cases j with ⟨_, -, -, he⟩ | ⟨-, he⟩ <;> rw [he] <;> exact h
  exact State.KeysUnique.filter (s := s.cutoverSlots j) slots _

theorem State.RoundsBut.cutoverTables (h : s.RoundsBut F) (j : Job) : (s.cutoverTables j).RoundsBut F := by
  have slots : (s.cutoverSlots j).RoundsBut F := by
    rcases s.cutoverSlots_cases j with ⟨_, -, -, he⟩ | ⟨-, he⟩ <;> rw [he] <;> exact h
  exact slots

namespace Entry.Runs
variable {e : Entry} {c : Ctx} {d : Direction} {o : Origin} {n : SlotNo}

/-- R10, R11: after its cutover an entry uses the destination alone. -/
theorem uses_cutOver (h : e.Runs c d o n) {i : EntryIx} {r : Rank} {b : Bank} {k : SlotNo} {x : SlotState} :
    (e.cutOver n).Uses i r b k x ↔ (o.rank = r ∧ o.bank = b ∧ n = k) ∧ x = .mapped i := by
  cases e with
  | forming => obtain ⟨-, rfl, -, -⟩ := h; simp [Entry.cutOver, Entry.Uses, and_assoc]
  | moving => obtain ⟨-, rfl, -, -⟩ := h; simp [Entry.cutOver, Entry.Uses, and_assoc]
  | _ => exact h.elim

theorem not_runs_cutOver (h : e.Runs c d o n) (dest c' d' o' n') : ¬(e.cutOver dest).Runs c' d' o' n' := by
  cases e with
  | forming => exact id
  | moving => exact id
  | _ => exact h.elim

theorem uses_cases (h : e.Runs c d o n) {i : EntryIx} {r : Rank} {b : Bank} {k : SlotNo} {x : SlotState}
    (hu : e.Uses i r b k x) : x = .target i ∨ x = .mapped i := by
  cases e with
  | forming => exact .inl hu.2.2.2
  | moving => exact hu.2.2.elim (fun h => .inr h.2) fun h => .inl h.2
  | _ => exact h.elim

/-- The old slot of a move is the one slot that its entry uses as MAPPED; a first repair has none. -/
theorem uses_mapped (h : e.Runs c d o n) {i : EntryIx} {r : Rank} {b : Bank} {k : SlotNo} :
    e.Uses i r b k (.mapped i) ↔ (o.rank = r ∧ o.bank = b) ∧ d = .move ∧ e.slot = some k := by
  cases e with
  | forming => simp_all [Entry.Runs, Entry.Uses, Entry.slot]
  | moving => obtain ⟨rfl, rfl, -, -⟩ := h; simp [Entry.Uses, Entry.slot, and_assoc]
  | _ => exact h.elim

end Entry.Runs

/-- R34: at a cutover the destination becomes MAPPED, and what the entry had MAPPED becomes FREE. -/
theorem State.NamesAgree.cutoverSlots_state (h : s.NamesAgree) {c : Ctx} {j : Job}
    (running : (s.entry j.entry).Runs c j.direction j.origin j.destSlot) (r : Rank) (b : Bank) (k : SlotNo) :
    ((s.cutoverSlots j).slot r b k).state =
      if j.origin.rank = r ∧ j.origin.bank = b ∧ j.destSlot = k then .mapped j.entry
      else if (s.slot r b k).state = .mapped j.entry then .free else (s.slot r b k).state := by
  have dest := ((h.slots ..).1 (running.uses_target.2 ⟨rfl, rfl, rfl⟩)).1
  have old : (s.slot r b k).state = .mapped j.entry ↔
      (j.origin.rank = r ∧ j.origin.bank = b) ∧ j.direction = .move ∧ (s.entry j.entry).slot = some k := by
    rw [← running.uses_mapped (i := j.entry), h.slots]
    exact (and_iff_left rfl).symm
  simp only [old]
  rcases s.cutoverSlots_cases j with ⟨k', hd, hk, he⟩ | ⟨hn, he⟩
  · have apart : (s.slot j.origin.rank j.origin.bank k').state = .mapped j.entry :=
      ((h.slots ..).1 (running.uses_mapped.2 ⟨⟨rfl, rfl⟩, hd, hk⟩)).1
    rw [he, State.freeSlotBad, State.setSlot_slot, State.setSlotState, State.setSlot_slot]
    grind
  · rw [he, State.setSlotState, State.setSlot_slot]
    grind

theorem State.TablesTied.cutoverTables (h : s.TablesTied) {c : Ctx} {st : BusyState} {j : Job} (hb : (s.ctx c).body = .busy st j)
    (hst : st ≠ .closing) {b : ContextBody} (hbe : b.Ends j) : ((s.cutoverTables j).setBody c b).TablesTied := by
  have n := h.namesAgree
  have running := (n.runs j.entry c _ _ _).2 ((State.migrates_iff_of_busy hb hst).2 ⟨rfl, rfl, rfl, rfl⟩)
  have dest := ((n.slots ..).1 (running.uses_target.2 ⟨rfl, rfl, rfl⟩)).1
  have state : ∀ r b k, ((s.cutoverTables j).slot r b k).state = _ := n.cutoverSlots_state running
  have entries : ∀ i, (s.cutoverSlots j).entry i = s.entry i := State.entry_eq_of_rmt_eq (s.cutoverSlots_rmt j)
  refine h.endRun (u := s.cutoverTables j) hb hst hbe (s.cutoverTables_mode j) (by rw [s.cutoverTables_rst])
    (by rw [s.cutoverTables_rst])
    (fun d => by rw [State.ctx, State.ctx, State.cutoverTables_mge]) (fun i => ?_) (fun i r k m x hi hx => ?_)
    (fun r k m x => ?_) (running.not_runs_cutOver j.destSlot)
  · exact ((s.cutoverSlots j).setEntry_entry j.entry i _).trans (by rw [entries])
  · rw [state]
    split
    · next hp =>
      obtain ⟨rfl, rfl, rfl⟩ := hp
      rw [dest]
      constructor <;> rintro rfl <;> exact absurd (Option.some.inj hx).symm hi
    · split
      · next hm =>
        rw [hm]
        constructor
        · rintro rfl; cases hx
        · rintro rfl; exact absurd (Option.some.inj hx).symm hi
      · rfl
  · rw [running.uses_cutOver, state]
    split
    · next hp =>
      rw [and_iff_right hp]
      exact ⟨fun hx => ⟨hx.symm, hx ▸ rfl⟩, fun hx => hx.1.symm⟩
    · next hp =>
      refine iff_of_false (fun hu => hp hu.1) ?_
      split
      · rintro ⟨rfl, hx⟩; cases hx
      · next hm =>
        rintro ⟨hx, hi⟩
        rcases running.uses_cases ((n.slots ..).2 ⟨hx, hi⟩) with rfl | rfl
        · exact hp (running.uses_target.1 ((n.slots ..).2 ⟨hx, hi⟩))
        · exact hm hx

/-- R85, R86: a cutover leaves the tables of `State.cutoverTables` and the context IDLE or CLOSING. -/
theorem State.cutover_onLink (s : State) (c : Ctx) (j : Job) :
    ∃ b : ContextBody, b.Ends j ∧ ((s.cutoverTables j).setBody c b).OnLink (s.cutover c j) := by
  have changed : (s.cutoverTables j).OnLink (s.cutoverChanges c j) := by
    rw [s.cutoverChanges_eq]
    exact (State.OnLink.setLastResult ..).trans (State.onLink_of_view (State.raise_view ..))
  unfold State.cutover
  split
  · exact ⟨_, ContextBody.ends_closing j, ((changed.setBody c _).trans (.enterState ..)).trans (.makeMsg ..)⟩
  · exact ⟨_, ContextBody.ends_idle _ j, (changed.setBody c _).trans (.enterIdle ..)⟩

theorem State.IdleQuiet.cutover (h : s.IdleQuiet) (c : Ctx) (j : Job) : (s.cutover c j).IdleQuiet := by
  have tables : (s.cutoverTables j).IdleQuiet := h.ofMge (s.cutoverTables_mge j)
  have changed : (s.cutoverChanges c j).IdleQuiet := by
    rw [s.cutoverChanges_eq]
    exact (tables.setLastResult c .success).ofView (State.raise_view ..)
  unfold State.cutover
  split
  · have closing : ((s.cutoverChanges c j).enterState c .closing j).IdleQuiet := changed.setCtx nofun
    exact closing.makeMsg (LawsKept.enterState_isIdle ..) _
  · exact changed.enterIdle c j

@[simp] theorem State.cutover_linkState (s : State) (c : Ctx) (j : Job) : (s.cutover c j).sbl.state = s.sbl.state := by
  have slots : (s.cutoverSlots j).sbl = s.sbl := by
    rcases s.cutoverSlots_cases j with ⟨_, -, -, he⟩ | ⟨-, he⟩ <;> rw [he] <;> rfl
  have changed : (s.cutoverChanges c j).sbl.state = s.sbl.state := by simp [s.cutoverChanges_eq, State.cutoverTables, slots]
  unfold State.cutover; split <;> simp [changed]

/-- R85, R86. -/
theorem LawsKept.cutover {c : Ctx} {st : BusyState} {j : Job} (hb : (s.ctx c).body = .busy st j) (hst : st ≠ .closing) :
    LawsKept F s (s.cutover c j) := by
  obtain ⟨b, ends, onLink⟩ := s.cutover_onLink c j
  refine ⟨TablesKept.trans ⟨fun h => (h.cutoverTables (h.dest hb)).ends (h.dest hb) ends, fun h => (h.cutoverTables j).setBody c b,
    fun h => (h.cutoverTables j).ends (h.2 c st j hb).1 ends, fun h => h.cutoverTables hb hst ends⟩ (.ofOnLink onLink),
    fun h => ?_⟩
  exact h.ofBusy (Context.isIdle_of_busy hb) (Kept.cutover s c j).mode (by simp) (h.idleQuiet.cutover c j)

end Sys2Proof.Machine
end

section
/-! SUPPORT. The five laws through the reports of the translator and the silent endings. -/

namespace Sys2Proof.Machine

variable {F : Ctx → Prop} {s t : State}

/-! ## How a job goes on -/

namespace Job.LeadsTo
variable {p : Prop} {st : BusyState} {j : Job}

/-- A step that changes neither the identity nor the round nor the fence. -/
theorem ofSame (hst : st ≠ .closing) {st' : BusyState} (hst' : st' ≠ .closing) (hf : st' = .fencing → st = .fencing) {j' : Job}
    (same : j'.direction = j.direction ∧ j'.entry = j.entry ∧ j'.origin = j.origin ∧ j'.destSlot = j.destSlot)
    (round : j'.round = j.round ∧ j'.fenced = j.fenced ∧ j'.captured = j.captured) : j.LeadsTo p st st' j' := by
  obtain ⟨hr, hfe, hc⟩ := round
  refine ⟨⟨hst, hst'⟩, same, fun ⟨⟨captured, bounds, last⟩, fencing⟩ => ⟨⟨?_, ?_, ?_⟩, fun h hp => hfe.trans (fencing (hf h) hp)⟩⟩
  · rw [hc]; exact captured
  · rw [hc, hr]; exact bounds
  · rw [hc, hr, hfe]; exact last

/-- R72: the next round, within MAX_ROUNDS. -/
theorem next (hst : st ≠ .closing) (hr : j.round < j.captured.maxRounds) (dirty : BlockSet) :
    j.LeadsTo p st .offering (Job.nextRound { j with dirty := dirty }) := by
  refine ⟨⟨hst, nofun⟩, ⟨rfl, rfl, rfl, rfl⟩, fun ⟨⟨captured, ⟨_, _⟩, _⟩, _⟩ => ⟨⟨captured, ⟨?_, ?_⟩, fun h => ?_⟩, nofun⟩⟩
  · exact Nat.succ_pos _
  · exact Nat.succ_le_succ hr.le
  · exact absurd (Nat.lt_of_lt_of_le h hr) (Nat.lt_irrefl _)

/-- R80, R84: the fence is asked for after the last round without it. -/
theorem fence (hst : st ≠ .closing) (hf : j.fenced = .no) (dirty : BlockSet) :
    j.LeadsTo p st .fencing { j with dirty := dirty, fenced := .requested } := by
  refine ⟨⟨hst, nofun⟩, ⟨rfl, rfl, rfl, rfl⟩, fun ⟨⟨captured, bounds, last⟩, _⟩ =>
    ⟨⟨captured, bounds, fun h => ?_⟩, fun _ _ => rfl⟩⟩
  have held := last h
  rw [hf] at held
  cases held

end Job.LeadsTo

namespace LawsKept
variable {c : Ctx} {st : BusyState} {j : Job}

theorem armOrCutover (hb : (s.ctx c).body = .busy st j) (hst : st ≠ .closing) : LawsKept F s (s.armOrCutover c j) := by
  unfold State.armOrCutover; split
  · have armed : j.LeadsTo (F c) st .armed j :=
      .ofSame (st' := .armed) hst nofun nofun ⟨rfl, rfl, rfl, rfl⟩ ⟨rfl, rfl, rfl⟩
    exact enterTimed hb armed _
  · exact cutover hb hst

theorem afterUncleanRound (hb : (s.ctx c).body = .busy st j) (hst : st ≠ .closing) : LawsKept F s (s.afterUncleanRound c j) := by
  unfold State.afterUncleanRound; split
  · next hr => exact startRound hb (.next hst hr j.dirty)
  · split
    · next hf => exact requestFence hb (.fence hst hf j.dirty)
    · exact abort ..

theorem dirtyBlock (hb : (s.ctx c).body = .busy st j) (hst : st ≠ .closing) (b : Fin 32) :
    LawsKept F s (s.dirtyBlock c st j b) := by
  unfold State.dirtyBlock; dsimp only; split
  · next armed =>
    split
    · next hr => exact startRound hb (.next hst hr _)
    · exact requestFence hb (.fence hst armed.2 _)
  · exact setJob hb (.ofSame hst hst id ⟨rfl, rfl, rfl, rfl⟩ ⟨rfl, rfl, rfl⟩)

theorem takeSourceWrite (s : State) (c o b) : LawsKept F s (s.takeSourceWrite c o b) := by
  unfold State.takeSourceWrite; split
  · exact refl s
  · exact refl s
  · next st j closing hb =>
    split
    · split
      · exact abort ..
      · exact dirtyBlock hb closing b
    · exact refl s

theorem takeDestWrite (s : State) (c r k n b) : LawsKept F s (s.takeDestWrite c r k n b) := by
  unfold State.takeDestWrite; split
  · exact refl s
  · exact refl s
  · next st j closing hb =>
    split
    · exact setJob hb (.ofSame closing closing id ⟨rfl, rfl, rfl, rfl⟩ ⟨rfl, rfl, rfl⟩)
    · exact refl s

theorem decideClose (s : State) (c) : LawsKept F s (s.decideClose c) := by
  unfold State.decideClose; split
  · next hb =>
    split
    · exact refl s
    · exact cutover hb nofun
  · exact refl s

theorem takeReports (l : List Report) : ∀ s : State, LawsKept F s (State.takeReports l s) := by
  induction l with
  | nil => exact refl
  | cons x l ih =>
    intro s
    cases x with
    | sourceWrite => exact (takeSourceWrite ..).trans (ih _)
    | destWrite => exact (takeDestWrite ..).trans (ih _)
    | close =>
      unfold State.takeReports; split
      · exact (ih s).trans (decideClose ..)
      · exact ih s

theorem takeAllReports (s : State) : LawsKept F s s.takeAllReports := (takeReports ..).after rfl

theorem takeHeadReport (s : State) : LawsKept F s s.takeHeadReport := by
  unfold State.takeHeadReport; split
  · exact refl s
  · split
    · exact takeAllReports s
    · exact (takeReports ..).after rfl

theorem takeHeadIf (s : State) (k) : LawsKept F s (s.takeHeadIf k) := by
  unfold State.takeHeadIf; split
  · split
    · exact takeHeadReport s
    · exact refl s
  · exact refl s

theorem makeReport (s : State) (x) : LawsKept F s (s.makeReport x) := by
  unfold State.makeReport; dsimp only; split
  · exact ofView rfl
  · exact (takeHeadReport s).trans (ofView rfl)

/-! ## The silent endings -/

theorem endSilently (s : State) (r c) : LawsKept F s (s.endSilently r c) := by
  unfold State.endSilently; split
  · exact refl s
  · exact enterIdle ‹_›
  · exact abort ..

theorem endAllSilently (s : State) (r) : LawsKept F s (s.endAllSilently r) := foldl _ (fun s c => endSilently s r c) _ _

end LawsKept

/-- R89: a silent abort enters IDLE and makes no message. -/
theorem State.abort_of_silent {c : Ctx} {j : Job} (ha : (s.ctx c).activeJob = some j) {r : AbortReason} (hr : r.silent = true) :
    s.abort c r = (s.abortChanges c j r).enterIdle c j := by
  simp [State.abort, ha, hr]

/-- R95: a silent ending leaves its context IDLE and every other one as it was. -/
theorem State.endSilently_isIdle (s : State) {r : AbortReason} (hr : r.silent = true) (c d : Ctx) :
    ((s.endSilently r c).ctx d).isIdle = true ↔ d = c ∨ (s.ctx d).isIdle = true := by
  have entered (u : State) (j : Job) : ((u.enterIdle c j).ctx d).isIdle = true ↔ d = c ∨ (u.ctx d).isIdle = true := by
    rw [State.enterIdle_ctx]
    split
    · next hd => simp [hd, Context.isIdle]
    · next hd => simp [hd]
  unfold State.endSilently
  split
  · next hb =>
    refine (or_iff_right_of_imp ?_).symm
    rintro rfl
    rw [Context.isIdle, hb]
  · exact entered s _
  · next st j closing hb =>
    rw [State.abort_of_silent (Context.activeJob_eq_some.2 ⟨st, closing, hb⟩) hr, entered, (s.abortChanges_onLink c j r).isIdle,
      State.abortTables_isIdle]

theorem State.endAllSilently_isIdle (s : State) {r : AbortReason} (hr : r.silent = true) (d : Ctx) :
    ((s.endAllSilently r).ctx d).isIdle = true := by
  have ended (l : List Ctx) : ∀ s : State, ((l.foldl (fun s c => s.endSilently r c) s).ctx d).isIdle = true ↔
      d ∈ l ∨ (s.ctx d).isIdle = true := by
    induction l with
    | nil => simp
    | cons c l ih =>
      intro s
      rw [List.foldl_cons, ih, State.endSilently_isIdle s hr, List.mem_cons, or_left_comm, or_assoc]
  exact (ended _ s).2 (.inl (List.mem_finRange d))

/-! ## The link's state through the reports -/

section
variable (s : State)

@[simp] theorem State.startRound_linkState (c : Ctx) (j : Job) : (s.startRound c j).sbl.state = s.sbl.state := by
  simp [State.startRound]

@[simp] theorem State.requestFence_linkState (c : Ctx) (j : Job) : (s.requestFence c j).sbl.state = s.sbl.state := by
  simp [State.requestFence]

@[simp] theorem State.takeSourceWrite_linkState (c : Ctx) (o : Origin) (b : Fin 32) :
    (s.takeSourceWrite c o b).sbl.state = s.sbl.state := by
  unfold State.takeSourceWrite; split
  · rfl
  · rfl
  · split
    · split
      · simp
      · unfold State.dirtyBlock; dsimp only; split
        · split <;> simp
        · rfl
    · rfl

@[simp] theorem State.takeDestWrite_linkState (c : Ctx) (r : Rank) (k : Bank) (n : Nat) (b : Fin 32) :
    (s.takeDestWrite c r k n b).sbl.state = s.sbl.state := by
  unfold State.takeDestWrite; split
  · rfl
  · rfl
  · split <;> rfl

@[simp] theorem State.decideClose_linkState (c : Ctx) : (s.decideClose c).sbl.state = s.sbl.state := by
  unfold State.decideClose; split
  · split <;> simp
  · rfl

theorem State.takeReports_linkState (l : List Report) : ∀ s : State, (State.takeReports l s).sbl.state = s.sbl.state := by
  induction l with
  | nil => exact fun _ => rfl
  | cons x l ih =>
    intro s
    cases x with
    | sourceWrite => simp [State.takeReports, ih]
    | destWrite => simp [State.takeReports, ih]
    | close => unfold State.takeReports; split <;> simp [ih]

@[simp] theorem State.takeAllReports_linkState : s.takeAllReports.sbl.state = s.sbl.state := State.takeReports_linkState ..

end

end Sys2Proof.Machine
end

section
/-! SUPPORT. The five laws through the operations of the Remap Table, the Slot Directory and the stage register. -/

namespace Sys2Proof.Machine

variable {F : Ctx → Prop} {s t : State}

theorem Entry.slot_of_image {e : Entry} {o : Origin} {k : SlotNo} (h : e.image = some (o, k)) : e.slot = some k := by
  unfold Entry.image at h
  split at h
  · next hk => cases h; exact hk
  · cases h

/-! ## One slot, the items, the stage -/

/-- A law that reads the contexts and the link alone. -/
theorem State.LinkQuiet.ofSame (h : s.LinkQuiet) (mode : t.mode = s.mode) (mge : t.mge = s.mge) (sbl : t.sbl = s.sbl) :
    t.LinkQuiet := by
  have ctx (c : Ctx) : t.ctx c = s.ctx c := by rw [State.ctx, State.ctx, mge]
  simpa only [State.LinkQuiet, ctx, mode, sbl] using h

namespace LawsKept

/-- A change of the entries, the slots and the stage alone. -/
theorem ofRepairs (mge : t.mge = s.mge) (sbl : t.sbl = s.sbl) (wls : t.wls = s.wls) (pol : t.pol = s.pol) (mode : t.mode = s.mode)
    (sink : s.SinkKept → t.SinkKept) (tied : s.TablesTied → t.TablesTied) : LawsKept F s t where
  sink := sink
  keys h := by rw [State.KeysUnique, wls]; exact h
  rounds h := by
    have ctx (c : Ctx) : t.ctx c = s.ctx c := by rw [State.ctx, State.ctx, mge]
    simpa only [State.RoundsBut, State.ProfilesBounded, ctx, pol] using h
  tied := tied
  quiet h := h.ofSame mode mge sbl

/-- A slot that names no entry changes to a state that names none. -/
theorem setSlot {r : Rank} {b : Bank} {k : SlotNo} {x : SlotRecord} (used : (s.slot r b k).state ≠ .sink)
    (before : (s.slot r b k).state.entry = none) (after : x.state.entry = none) : LawsKept F s (s.setSlot r b k x) :=
  ofRepairs rfl rfl rfl rfl rfl (fun h => h.setSlot r b (h.ne_zero used) x) fun h => h.setSlot before after

theorem setItems {l : List WatchItem} (h : s.KeysUnique → (s.setItems l).KeysUnique) : LawsKept F s (s.setItems l) where
  sink := id
  keys := h
  rounds := id
  tied h := h.congr rfl (fun _ => rfl) (fun _ _ _ _ _ => Iff.rfl) (fun _ _ _ _ _ => Iff.rfl) rfl rfl
  quiet h := h.ofSame rfl rfl rfl

theorem removeItem (s : State) (k) : LawsKept F s (s.removeItem k) := setItems (·.filter _)
theorem removeSlotItems (s : State) (o) : LawsKept F s (s.removeSlotItems o) := setItems (·.filter _)
theorem changeItem {k f} (hf : ∀ i : WatchItem, (f i).key = i.key) : LawsKept F s (s.changeItem k f) := setItems (·.change k hf)
theorem setInRepair (s : State) (k c) : LawsKept F s (s.setInRepair k c) := changeItem fun _ => rfl
theorem setLastFailure (s : State) (k f) : LawsKept F s (s.setLastFailure k f) := changeItem fun _ => rfl

/-- The stage changes, and the operation with it, but no entry. -/
theorem ofStage {x : RepairStore} (stage : s.StageMarked → { s with rst := x : State }.StageMarked)
    (sink : s.SinkKept → ∀ k i o n, x.operation = some (.burn k i o n) → n ≠ 0) : LawsKept F s { s with rst := x } :=
  ofRepairs rfl rfl rfl rfl rfl (fun h => h.setStore (sink h)) fun h =>
    h.congrStage rfl (fun _ => rfl) (fun _ _ _ _ _ => Iff.rfl) (fun _ _ _ _ _ => Iff.rfl) stage

end LawsKept

/-! ## Freeing an entry (R16) -/

/-- A LIVE or RETIRING entry: it has one slot, as MAPPED, and runs no migration. -/
inductive Entry.Serves (o : Origin) (k : SlotNo) : Entry → Prop
  | live (m : Nat) (st : Option RecIx) : Serves o k (.live o k m st)
  | retiring (m : Nat) : Serves o k (.retiring o k m)

namespace Entry.Serves
variable {e : Entry} {o : Origin} {k : SlotNo} (h : e.Serves o k)
include h

theorem slot : e.slot = some k := by cases h <;> rfl

theorem uses (i : EntryIx) (r : Rank) (b : Bank) (n : SlotNo) (x : SlotState) :
    e.Uses i r b n x ↔ (o.rank = r ∧ o.bank = b ∧ k = n) ∧ x = .mapped i := by
  cases h <;> simp [Entry.Uses, and_assoc]

theorem not_runs (c : Ctx) (d : Direction) (o' : Origin) (n : SlotNo) : ¬e.Runs c d o' n := by
  cases h <;> exact id

end Entry.Serves

/-- An entry that is not staged is freed with its slot. -/
theorem LawsKept.freeEntry {i : EntryIx} {o : Origin} {k : SlotNo} (serves : (s.entry i).Serves o k)
    (unstaged : s.StageMarked → s.Unstaged i) : LawsKept F s (s.freeEntry i o k) := by
  have freed : LawsKept F s ((s.setEntry i .free).setSlot o.rank o.bank k ⟨.free, (s.slot o.rank o.bank k).grade⟩) :=
    .ofRepairs rfl rfl rfl rfl rfl (fun h => (h.setEntry i .free).setSlot _ _ (h.entrySlot serves.slot) _) fun h =>
      h.settle (serves.uses i) serves.not_runs (unstaged h.namesAgree.stage)
        (by simp +contextual [Entry.Uses, SlotState.entry]) (fun _ _ _ _ => id) nofun
  have bumped : LawsKept F s (((s.setEntry i .free).bumpGeneration).freeSlot o.rank o.bank k) := freed.trans (ofView rfl)
  exact bumped.trans (removeSlotItems ..)

namespace LawsKept

theorem freeIfRetiring (s : State) (i) : LawsKept F s (s.freeIfRetiring i) := by
  unfold State.freeIfRetiring; split
  · next o k m he => exact freeEntry (he ▸ .retiring m) fun h => h.unstaged (by simp [he])
  · exact refl s

theorem tableClose (s : State) (x) : LawsKept F s (s.tableClose x) := by
  unfold State.tableClose; split
  · split
    · exact freeIfRetiring ..
    · exact refl s
  · exact refl s

theorem tableTakesCloses (s : State) : LawsKept F s s.tableTakesCloses := (foldl _ tableClose _ _).after rfl

theorem freeAllRetiring (s : State) : LawsKept F s s.freeAllRetiring := foldl _ freeIfRetiring _ _

/-! ## The stage register -/

/-- R161: the stage of a LIVE entry is cancelled. -/
theorem dropStage {i : EntryIx} (hc : s.rst.stage.cancellable = some i) : LawsKept F s (s.dropStage i) := by
  refine ofRepairs rfl rfl rfl rfl rfl (fun h => ?_) fun h => ?_
  · exact State.SinkKept.setEntry (s := s.setStage .empty) h i (h.entry i).unstaged
  · obtain ⟨⟨o, n, m, r, he⟩, noBurn⟩ := h.namesAgree.stage.of_cancellable hc
    have written := fun j => (s.setStage .empty).setEntry_entry i j (s.entry i).unstaged
    refine h.rewrite (i := i) rfl (by simp [he]) written (fun _ _ _ => rfl) (fun _ => rfl) ?_ ?_
      ⟨nofun, nofun, fun k j o' n' ho => absurd ho (noBurn k j o' n')⟩
    · simp [he, Entry.unstaged, Entry.Uses]
    · simp [he, Entry.unstaged, Entry.Runs]

theorem cancelStage (s : State) : LawsKept F s s.cancelStage := by
  unfold State.cancelStage; split
  · exact dropStage ‹_›
  · exact refl s

theorem cancelStageFor (s : State) (i) : LawsKept F s (s.cancelStageFor i) := by
  unfold State.cancelStageFor; split
  · next h => exact dropStage ((Stage.heldFor_iff ..).1 h)
  · exact refl s

theorem stageExpiry (s : State) : LawsKept F s s.stageExpiry := by
  unfold State.stageExpiry; split
  · next h => exact (dropStage (by rw [h]; rfl)).trans (ofView rfl)
  · exact refl s

/-- R158, R160: the timers of a stage run, and PROBATION becomes READY. -/
theorem setStage {x : Stage} (hp : ∀ i r p y, x = .probation i r p y → ∃ p' y', s.rst.stage = .probation i r p' y')
    (hr : ∀ i r y, x = .ready i r y → (∃ p' y', s.rst.stage = .probation i r p' y') ∨ ∃ y', s.rst.stage = .ready i r y')
    (hc : ∀ i r, s.rst.stage = .committed i r → x = .committed i r) : LawsKept F s (s.setStage x) :=
  ofStage (x := { s.rst with stage := x })
    (fun h =>
      { probation := fun i r p y hx => by
          obtain ⟨p', y', hs⟩ := hp i r p y hx
          exact h.probation i r p' y' hs
        ready := fun i r y hx => by
          rcases hr i r y hx with ⟨p', y', hs⟩ | ⟨y', hs⟩
          · exact h.probation i r p' y' hs
          · exact h.ready i r y' hs
        burn := fun k i o n ho => ⟨hc i k (h.burn k i o n ho).1, (h.burn k i o n ho).2⟩ })
    fun h _ _ _ _ => h.burnSlot

theorem probationExpiry (s : State) : LawsKept F s (s.setStage s.rst.stage.proven) := by
  cases hs : s.rst.stage with
  | probation e r p x => exact setStage nofun (by rintro _ _ _ ⟨⟩; exact .inl ⟨p, x, hs⟩) (by simp [hs])
  | _ => exact setStage (by simp [Stage.proven, hs]) (by simp [Stage.proven, hs]) (by simp [Stage.proven, hs])

/-- R159: a LIVE entry is staged, with no stage held and no operation in flight. -/
theorem takeStage {i : EntryIx} {o : Origin} {k : SlotNo} {m : Nat} {st : Option RecIx} (he : s.entry i = .live o k m st)
    (free : s.rst.operation = none) (r : RecIx) : LawsKept F s (s.takeStage i o k m r) := by
  refine LawsKept.trans ?_ (ofView (State.answer_view ..))
  refine ofRepairs rfl rfl rfl rfl rfl (fun h => ?_) fun h => ?_
  · have entry := h.entry i
    rw [he] at entry
    have staged : Entry.SinkFree (.live o k m (some r)) := ⟨entry.slot, nofun⟩
    exact State.SinkKept.setEntry (s := s.setStage _) h i staged
  · have written := fun j => (s.setStage (.probation i r Config.probationLength Config.expiryLength)).setEntry_entry i j
      (.live o k m (some r))
    refine h.rewrite (i := i) rfl (by simp [he]) written (fun _ _ _ => rfl) (fun _ => rfl) (by simp [he, Entry.Uses])
      (by simp [he, Entry.Runs]) ⟨?_, nofun, fun _ _ _ _ ho => absurd (free.symm.trans ho) nofun⟩
    rintro _ _ _ _ ⟨⟩
    exact ⟨o, k, m, (written i).trans (if_pos rfl)⟩

/-- R163: the burn of a stage in READY latches the entry's origin and slot. -/
theorem beginBurn {i : EntryIx} {r : RecIx} {x : Nat} (hs : s.rst.stage = .ready i r x) {o : Origin} {k : SlotNo}
    (image : (s.entry i).image = some (o, k)) : LawsKept F s ((s.setStage (.committed i r)).beginOperation (.burn r i o k)) := by
  refine LawsKept.trans (ofStage (x := { s.rst with stage := .committed i r, operation := some (.burn r i o k) })
    (fun h => ⟨nofun, nofun, ?_⟩) fun h => ?_) (ofView (State.answer_view ..))
  · rintro _ _ _ _ ⟨⟩
    obtain ⟨o', n, m, he⟩ := h.ready i r x hs
    rw [he] at image
    cases image
    exact ⟨rfl, m, he⟩
  · rintro _ _ _ _ ⟨⟩
    exact h.entrySlot (Entry.slot_of_image image)

/-- R165, R166: an operation that is no burn begins. -/
theorem beginOperation {x : Operation} (hx : ∀ k i o n, x ≠ .burn k i o n) :
    LawsKept F s (s.beginOperation x) := by
  have noBurn : ∀ k i o n, some x ≠ some (.burn k i o n) := fun k i o n h => hx k i o n (Option.some.inj h)
  refine LawsKept.trans (ofStage (x := { s.rst with operation := some x }) (fun h => ⟨h.probation, h.ready, ?_⟩) fun _ => ?_)
    (ofView (State.answer_view ..))
  · exact fun k i o n h => absurd h (noBurn k i o n)
  · exact fun k i o n h => absurd h (noBurn k i o n)

/-! ## Completions of the burn engine -/

/-- R165, R166: an operation that is no burn ends. -/
theorem engineDone (s : State) (kind done) : LawsKept F s (s.engineDone kind done) :=
  LawsKept.trans (ofStage (x := { s.rst with operation := none, lastOperation := some ⟨kind, done⟩ })
    (fun h => ⟨h.probation, h.ready, nofun⟩) fun _ => nofun) (ofView (State.raise_view ..))

theorem revokeCompletes (s : State) (v) : LawsKept F s (s.revokeCompletes v) := by
  unfold State.revokeCompletes; split
  · unfold State.finishRevoke; split
    · exact (engineDone ..).after rfl
    · exact (engineDone ..).after rfl
  · exact refl s

theorem geometryCompletes (s : State) (v) : LawsKept F s (s.geometryCompletes v) := by
  unfold State.geometryCompletes; split
  · unfold State.finishGeometry; split
    · exact (engineDone ..).after rfl
    · exact (engineDone ..).after rfl
  · exact refl s

end LawsKept

/-- The state with no stage and no operation. -/
def State.unstage (s : State) : State := { s with rst := { s.rst with stage := .empty, operation := none } }

section
variable {k : RecIx} {i : EntryIx} {o : Origin} {n : SlotNo}

/-- R19, R36: what a verified burn does to the entry and its slot. -/
def State.burnRepair (s : State) (k : RecIx) (i : EntryIx) (o : Origin) (n : SlotNo) : State :=
  (s.setEntry i ((s.entry i).burned k)).burnSlot i o n

theorem State.burnRepair_eq (s : State) (k : RecIx) (i : EntryIx) (o : Origin) (n : SlotNo) :
    ∃ rmt sld, s.burnRepair k i o n = { s with rmt := rmt, sld := sld } := by
  unfold State.burnRepair State.burnSlot
  split
  · exact ⟨_, _, rfl⟩
  · exact ⟨_, _, rfl⟩

theorem State.burnRepair_unstage (s : State) (k : RecIx) (i : EntryIx) (o : Origin) (n : SlotNo) :
    s.unstage.burnRepair k i o n = (s.burnRepair k i o n).unstage := by
  have slot : (s.unstage.setEntry i ((s.unstage.entry i).burned k)).slot o.rank o.bank n =
    (s.setEntry i ((s.entry i).burned k)).slot o.rank o.bank n := rfl
  unfold State.burnRepair State.burnSlot
  rw [slot]
  split <;> rfl

theorem State.SinkKept.burnRepair (h : s.SinkKept) (hn : n ≠ 0) : (s.burnRepair k i o n).SinkKept := by
  have entries := h.setEntry i ((h.entry i).burned k)
  unfold State.burnRepair State.burnSlot
  split
  · exact entries.setSlot o.rank o.bank hn _
  · exact entries

theorem State.TablesTied.burnRepair (h : s.TablesTied) {m : Nat} {st : Option RecIx} (he : s.entry i = .live o n m st)
    (unstaged : s.Unstaged i) : (s.burnRepair k i o n).TablesTied := by
  have slot : ((s.setEntry i ((s.entry i).burned k)).slot o.rank o.bank n).state = .mapped i := by
    have used : (s.entry i).Uses i o.rank o.bank n (.mapped i) := by rw [he]; exact ⟨rfl, rfl, rfl, rfl⟩
    exact ((h.namesAgree.slots ..).1 used).1
  rw [State.burnRepair, State.burnSlot, slot]
  exact h.settle (y := .mapped i) (by simp [he, Entry.Uses, and_assoc]) (by simp [he, Entry.Runs]) unstaged
    (by simp +contextual [he, Entry.burned, Entry.Uses, SlotState.entry, and_assoc]) (by simp [he, Entry.burned, Entry.Runs])
    (by simp [SlotState.entry, eq_comm])

end

theorem State.TablesTied.unstage (h : s.TablesTied) : s.unstage.TablesTied :=
  h.congrStage rfl (fun _ => rfl) (fun _ _ _ _ _ => Iff.rfl) (fun _ _ _ _ _ => Iff.rfl) fun _ => ⟨nofun, nofun, nofun⟩

theorem State.SinkKept.unstage (h : s.SinkKept) : s.unstage.SinkKept := h.setStore nofun

namespace LawsKept

section
variable {k : RecIx} {i : EntryIx} {o : Origin} {n : SlotNo}

/-- The last step of every burn. -/
theorem setStage_engineDone (s : State) (kind done) : LawsKept F s.unstage ((s.setStage .empty).engineDone kind done) := ofView rfl

theorem burnRepair (ho : s.rst.operation = some (.burn k i o n)) : LawsKept F s (s.burnRepair k i o n).unstage := by
  obtain ⟨rmt, sld, tables⟩ := s.unstage.burnRepair_eq k i o n
  rw [← State.burnRepair_unstage, tables]
  refine ofRepairs rfl rfl rfl rfl rfl (fun h => ?_) fun h => ?_
  · exact tables ▸ h.unstage.burnRepair (h.burnSlot ho)
  · obtain ⟨-, m, he⟩ := h.namesAgree.stage.burn k i o n ho
    exact tables ▸ h.unstage.burnRepair (s := s.unstage) he ⟨nofun, nofun⟩

/-- R164: after a failed burn the entry is as before the stage. -/
theorem burnUnstages (ho : s.rst.operation = some (.burn k i o n)) : LawsKept F s (s.setEntry i (s.entry i).unstaged).unstage := by
  refine ofRepairs rfl rfl rfl rfl rfl (fun h => (h.setEntry i (h.entry i).unstaged).unstage) fun h => ?_
  obtain ⟨-, m, he⟩ := h.namesAgree.stage.burn k i o n ho
  exact h.rewrite rfl (by simp [he]) (s.setEntry_entry i · _) (fun _ _ _ => rfl) (fun _ => rfl)
    (by simp [he, Entry.unstaged, Entry.Uses]) (by simp [he, Entry.unstaged, Entry.Runs]) ⟨nofun, nofun, nofun⟩

/-- R164, R19, R36: a verified burn makes its entry and its slot PERMANENT. -/
theorem finishBurn (ho : s.rst.operation = some (.burn k i o n)) (v : Bool) : LawsKept F s (s.finishBurn k i o n v) := by
  unfold State.finishBurn
  split
  · have cells : LawsKept F s ((s.setCells k (recordImage o n)).setLoadResult k (some (.loaded i))) := ofView rfl
    exact (cells.trans (burnRepair ho)).trans (setStage_engineDone ..)
  · have cells : LawsKept F s (s.drawFree.setCells k (failedRecord (recordCellsOf (Config.failedBurnCells s.freeCount)))) :=
      ofView rfl
    exact (cells.trans (burnUnstages ho)).trans (setStage_engineDone ..)

end

theorem burnCompletes (s : State) (v) : LawsKept F s (s.burnCompletes v) := by
  unfold State.burnCompletes; split
  · exact finishBurn ‹_› v
  · exact refl s

end LawsKept

end Sys2Proof.Machine
end

section
/-! SUPPORT. The five laws through the launches of a migration (R8, R9, R70, R71). -/

namespace Sys2Proof.Machine

variable {F : Ctx → Prop} {s t : State} {c : Ctx} {d : Direction} {i : EntryIx} {o : Origin} {k : SlotNo} {e : Entry}

/-- R8, R9: how a launch changes its entry, from the first to the second. -/
inductive Entry.LaunchedAs (c : Ctx) (o : Origin) (k : SlotNo) : Direction → Entry → Entry → Prop
  | first : LaunchedAs c o k .first .free (.forming o k c)
  | move (n : SlotNo) (m : Nat) : LaunchedAs c o k .move (.live o n m none) (.moving o n k c m)

namespace Entry.LaunchedAs
variable {a : Entry} (l : LaunchedAs c o k d a e)
include l

theorem uses (i : EntryIx) (r : Rank) (b : Bank) (n : SlotNo) (x : SlotState) :
    e.Uses i r b n x ↔ a.Uses i r b n x ∨ (o.rank = r ∧ o.bank = b ∧ k = n) ∧ x = .target i := by
  cases l with
  | first => simp [Entry.Uses, and_assoc]
  | move old m =>
    simp only [Entry.Uses]
    constructor
    · rintro ⟨hr, hb, ⟨hn, hx⟩ | ⟨hn, hx⟩⟩
      · exact .inl ⟨hr, hb, hn, hx⟩
      · exact .inr ⟨⟨hr, hb, hn⟩, hx⟩
    · rintro (⟨hr, hb, hn, hx⟩ | ⟨⟨hr, hb, hn⟩, hx⟩)
      · exact ⟨hr, hb, .inl ⟨hn, hx⟩⟩
      · exact ⟨hr, hb, .inr ⟨hn, hx⟩⟩

theorem runs (c' d' o' n) : e.Runs c' d' o' n ↔ c = c' ∧ d = d' ∧ o = o' ∧ k = n := by
  cases l <;> simp only [Entry.Runs] <;> tauto

theorem not_runs (c' d' o' n) : ¬a.Runs c' d' o' n := by
  cases l <;> exact id

theorem not_staged (o' n m r) : a ≠ .live o' n m (some r) := by
  cases l <;> nofun

theorem sinkFree (ha : a.SinkFree) (hk : k ≠ 0) : e.SinkFree := by
  have next : some k ≠ some 0 := fun h => hk (Option.some.inj h)
  cases l with
  | first => exact ⟨nofun, next⟩
  | move => exact ⟨ha.slot, next⟩

end Entry.LaunchedAs

/-! ## What a launch does to the tables -/

/-- The entry, the slot and the context of a launch. -/
def State.launchTables (s : State) (c : Ctx) (i : EntryIx) (e : Entry) (j : Job) : State :=
  ((s.setEntry i e).setSlotState j.origin.rank j.origin.bank j.destSlot (.target i)).setBody c (.busy .offering j)

theorem State.SinkKept.launchTables (h : s.SinkKept) {j : Job} (l : Entry.LaunchedAs c j.origin j.destSlot d (s.entry i) e)
    (free : (s.slot j.origin.rank j.origin.bank j.destSlot).state = .free) : (s.launchTables c i e j).SinkKept := by
  have dest : j.destSlot ≠ 0 := h.ne_zero (by rw [free]; nofun)
  refine ((h.setEntry i (l.sinkFree (h.entry i) dest)).setSlot _ _ dest _).setBody c ?_
  rintro _ _ ⟨⟩
  exact dest

theorem State.NamesAgree.launchTables (h : s.NamesAgree) {j : Job} (entry : j.entry = i) (idle : (s.ctx c).isIdle = true)
    (l : Entry.LaunchedAs c j.origin j.destSlot j.direction (s.entry i) e)
    (free : (s.slot j.origin.rank j.origin.bank j.destSlot).state = .free) : (s.launchTables c i e j).NamesAgree := by
  have others : ∀ i', i' ≠ i → (s.launchTables c i e j).entry i' = s.entry i' := fun i' hi =>
    (s.setEntry_entry i i' e).trans (if_neg hi)
  have same : (s.launchTables c i e j).entry i = e := s.setEntry_entry_same i e
  have still (d i o n) : ¬s.migrates c d i o n :=
    State.not_migrates fun st j hb => absurd (idle.symm.trans (Context.isIdle_of_busy hb)) nofun
  have now : ((s.launchTables c i e j).ctx c).body = .busy .offering j := by rw [State.launchTables, State.setBody_body, if_pos rfl]
  refine h.change i others (fun i' r b n x hi hx => ?_) (fun i' c' d o n hi => ?_) (fun r b n x => ?_) (fun c' d o n => ?_)
    (h.stage.ofOther rfl rfl others (h.stage.unstaged l.not_staged))
  · exact State.setSlot_state_of_other (s := s) hi (by rw [free]; nofun) (by rintro _ ⟨⟩; rfl) hx
  · by_cases hc : c' = c
    · subst hc
      rw [State.migrates_iff_of_busy now nofun]
      exact iff_of_false (fun hj => hi (hj.2.1.symm.trans entry)) (still _ _ _ _)
    · exact State.setBody_migrates hc
  · rw [same, l.uses, h.slots]
    refine Iff.trans ?_ (and_congr_left' (s.setSlot_state_iff ..).symm)
    split
    · next hp =>
      obtain ⟨rfl, rfl, rfl⟩ := hp
      rw [free]
      constructor
      · rintro (⟨rfl, hx⟩ | ⟨-, rfl⟩)
        · cases hx
        · exact ⟨rfl, rfl⟩
      · rintro ⟨rfl, -⟩
        exact .inr ⟨⟨rfl, rfl, rfl⟩, rfl⟩
    · next hp => exact or_iff_left fun ⟨⟨hr, hb, hk⟩, _⟩ => hp ⟨hr.symm, hb.symm, hk.symm⟩
  · rw [same, l.runs]
    by_cases hc : c' = c
    · subst hc
      rw [State.migrates_iff_of_busy now nofun]
      simp [entry]
    · rw [State.launchTables, State.setBody_migrates hc]
      exact iff_of_false (fun hr => hc hr.1.symm) fun hm => l.not_runs _ _ _ _ ((h.runs ..).2 hm)

theorem State.LinkQuiet.ofUp {g : Geometry} (mode : t.mode = .active g) (link : t.sbl.state = .up) (quiet : t.IdleQuiet) :
    t.LinkQuiet :=
  ⟨quiet, fun hm => absurd mode (hm g), fun hl => absurd link hl⟩

/-- R71: round 1 orders the whole row, within the run profile's MAX_ROUNDS. -/
theorem State.ProfilesBounded.firstJob (h : s.ProfilesBounded) (p : Prop) (d i o k) :
    (firstJob s.runProfile d i o k).RoundLaw p .offering :=
  ⟨⟨h _, ⟨Nat.le_refl 1, Nat.le_add_left ..⟩, fun hr => absurd (h _).1 (Nat.not_le.2 hr)⟩, nofun⟩

/-- A launch up to the state of its context. -/
def State.launchEntered (s : State) (c : Ctx) (i : EntryIx) (e : Entry) (j : Job) : State :=
  (((s.setEntry i e).setSlotState j.origin.rank j.origin.bank j.destSlot (.target i)).launchNotice c j.origin).enterState c
    .offering j

/-- R71: a granted launch. -/
theorem LawsKept.launch {g : Geometry} {key : Key} (mode : s.mode = .active g) (link : s.sbl.state = .up)
    (idle : (s.ctx c).isIdle = true) (l : Entry.LaunchedAs c o k d (s.entry i) e) (free : (s.slot o.rank o.bank k).state = .free) :
    LawsKept F s (s.launch c d i e o k key) := by
  let j := firstJob s.runProfile d i o k
  have tables : TablesKept F s (s.launchTables c i e j) :=
    ⟨fun h => h.launchTables (j := j) l free, id,
      fun h => State.RoundsBut.setBody (s := s) h (by rintro _ _ ⟨⟩; exact h.1.firstJob ..),
      fun h => (h.namesAgree.launchTables (j := j) rfl idle l free).tablesTied fun hm => absurd mode (hm g)⟩
  have notice : (s.launchTables c i e j).OnLink (s.launchEntered c i e j) :=
    ((State.onLink_of_view (State.launchNotice_view ..)).setBody c _).trans (.enterState ..)
  have entered : TablesKept F s (s.launchEntered c i e j) := tables.trans (.ofOnLink notice)
  have busy : ((s.launchEntered c i e j).ctx c).isIdle = false := enterState_isIdle ..
  have marked : TablesKept F s ((s.launchEntered c i e j).setInRepair key (some c)) :=
    entered.trans (setInRepair ..).toTablesKept
  have last : s.launch c d i e o k key =
    ((s.launchEntered c i e j).setInRepair key (some c)).makeMsg c (.copyOrder c 1 o k BlockSet.full) := rfl
  rw [last]
  refine ⟨marked.trans (.ofOnLink (.makeMsg ..)), fun h => .ofUp ((Kept.launch s c d i e o k key).mode.trans mode) ?_ ?_⟩
  · rw [State.makeMsg_linkState]
    exact (congrArg View.link (State.launchNotice_view ..)).trans link
  · have claimed : ((s.setEntry i e).setSlotState o.rank o.bank k (.target i)).IdleQuiet := h.idleQuiet.ofMge rfl
    have noticed := claimed.ofView (State.launchNotice_view _ c o)
    have quiet : ((s.launchEntered c i e j).setInRepair key (some c)).IdleQuiet := (noticed.enterState c .offering j).ofMge rfl
    exact quiet.makeMsg busy _

/-! ## The checks of a launch -/

theorem State.geometry_eq_some {g : Geometry} : s.geometry = some g ↔ s.mode = .active g := by
  unfold State.geometry Mode.geometry
  split
  · next h => simp [h]
  · next h => exact iff_of_false nofun (h g)

theorem State.launchContext_eq_ok (h : s.launchContext = .ok c) :
    (∃ g, s.mode = .active g) ∧ s.sbl.state = .up ∧ (s.ctx c).isIdle = true := by
  unfold State.launchContext at h
  split at h
  · cases h
  · next g hg =>
    split at h
    · next up =>
      split at h
      · next c' lowest =>
        cases h
        exact ⟨⟨g, State.geometry_eq_some.1 hg⟩, up, ((s.lowestIdleCtx_eq_some c).1 lowest).1⟩
      · cases h
    · cases h

/-- R32: a granted slot is FREE. -/
theorem State.grants.free {r : Rank} {b : Bank} (h : s.grants r b k) : (s.slot r b k).state = .free := by
  rcases h with ⟨h, -⟩ | ⟨-, -, h, -⟩ <;> rw [h]

namespace LawsKept

theorem launchFirst {c : Ctx} {t : State} (h : s.launchFirst o = .launched c t) : LawsKept F s t := by
  unfold State.launchFirst at h
  split at h
  · cases h
  · next hc =>
    obtain ⟨⟨g, mode⟩, link, idle⟩ := State.launchContext_eq_ok hc
    repeat' split at h
    all_goals cases h
    next i hi _ k hk =>
    rw [State.lowestFreeEntry_eq_some] at hi
    exact launch mode link idle (hi.1 ▸ .first) ((s.allocate_eq_some ..).1 hk).free

theorem launchMove {c : Ctx} {t : State} (h : s.launchMove i = .launched c t) : LawsKept F s t := by
  unfold State.launchMove at h
  split at h
  · cases h
  · next hc =>
    obtain ⟨⟨g, mode⟩, link, idle⟩ := State.launchContext_eq_ok hc
    split at h
    · cases h
    · next o old m he =>
      repeat' split at h
      all_goals cases h
      next k hk => exact launch mode link idle (he ▸ .move old m) ((s.allocate_eq_some ..).1 hk).free
    · cases h

/-! ## The Policy Unit -/

theorem launchFailed (s : State) (k l f x) : LawsKept F s (s.launchFailed k l f x) := by
  unfold State.launchFailed; split
  · exact refl s
  · exact (setLastFailure ..).after rfl

theorem afterLaunch (k l x) (h : ∀ c t, x = Launch.launched c t → LawsKept F s t) : LawsKept F s (s.afterLaunch k l x) := by
  unfold State.afterLaunch; split
  · exact (h _ _ rfl).trans (setLastFailure ..)
  · exact launchFailed ..
  · exact launchFailed ..
  · exact refl s

theorem actOn (s : State) (k l d) : LawsKept F s (s.actOn k l d) := by
  unfold State.actOn; split
  · exact afterLaunch _ _ _ fun _ _ h => launchFirst h
  · exact afterLaunch _ _ _ fun _ _ h => launchMove h
  · exact launchFailed ..
  · exact refl s

theorem consider (s : State) (k) : LawsKept F s (s.consider k) := by
  unfold State.consider; split
  · split
    · exact actOn ..
    · exact refl s
  · exact refl s

end LawsKept

end Sys2Proof.Machine
end

section
/-! SUPPORT. The five laws through the command path, the error notes and the Policy Unit's own events. -/

namespace Sys2Proof.Machine

variable {F : Ctx → Prop} {s t : State}

/-- A key that no item has before one is created for it. -/
theorem State.KeysUnique.createFresh (h : s.KeysUnique) {k : Key} (fresh : s.findItem k = none) (cls w run) :
    (s.createItem k cls w run).KeysUnique := h.createItem (State.findItem_eq_none.1 fresh) cls w run

namespace LawsKept

/-! ## The command path (R50 to R58) -/

theorem closeBank (s : State) (r b) : LawsKept F s (s.closeBank r b) := by
  unfold State.closeBank; split
  · exact ((makeReport ..).trans (ofView (State.reportCloseToTable_view ..))).trans (ofView (State.setRecord_view ..))
  · exact refl s

theorem closeRank (s : State) (r) : LawsKept F s (s.closeRank r) := foldl _ (fun s b => closeBank s r b) _ _

theorem reportWrite (s : State) (g r b col) : LawsKept F s (s.reportWrite g r b col) := by
  unfold State.reportWrite; split
  · exact makeReport ..
  · exact makeReport ..
  · exact refl s

theorem closeBeforeLookup (s : State) (r b) : LawsKept F s (s.closeBeforeLookup r b) := by
  unfold State.closeBeforeLookup; split
  · exact (closeBank ..).trans (tableTakesCloses _)
  · exact refl s

theorem activateData (s : State) (g o) : LawsKept F s (s.activateData g o) :=
  (closeBeforeLookup s _ _).trans (ofView (State.openBank_view ..))

theorem activateAlias (s : State) (g r b n) : LawsKept F s (s.activateAlias g r b n) := by
  unfold State.activateAlias; dsimp only; split
  · exact ((closeBank ..).trans (ofView (State.openBank_view ..))).trans (ofView (State.violation_view _))
  · exact (closeBank ..).trans (ofView (State.openBank_view ..))

theorem ofNext {u : State} (h : (.next u : Host.Outcome State Fault Refusal) = .next t) (a : LawsKept F s u) : LawsKept F s t :=
  Host.Outcome.next.inj h ▸ a

/-- A command of the channel passes through, or is handled under the geometry. -/
theorem translated {r : Rank} {x : ChannelCommand} {f : Geometry → State} (h : ∀ g, LawsKept F s (f g)) :
    LawsKept F s (match s.translating r with | none => s.passThrough x | some g => f g) := by
  split
  · exact ofView (State.passThrough_view ..)
  · exact h _

/-! ## The error notes (R123 to R131) -/

/-- R37. -/
theorem slotNote (s : State) (r b k) : LawsKept F s (s.slotNote r b k) := by
  unfold State.slotNote; split
  · next h => exact setSlot (by simp [h]) (by simp [h, SlotState.entry]) rfl
  · next h => exact setSlot (by simp [h]) (by simp [h, SlotState.entry]) rfl
  · split
    · exact abort ..
    · exact refl s
  all_goals exact ofView rfl

theorem nominate (s : State) (k) : LawsKept F s (s.changeItem k fun x => { x with nominated := true }) := changeItem fun _ => rfl
theorem score (s : State) (k cls w) : LawsKept F s (s.changeItem k fun i => i.scored cls w) := changeItem fun _ => rfl

theorem testNomination (s : State) (k) : LawsKept F s (s.testNomination k) := by
  unfold State.testNomination; split
  · split
    · exact ((nominate ..).trans (ofView (State.raise_view ..))).trans (ofView (State.handNomination_view ..))
    · exact refl s
  · exact refl s

theorem createItem {k : Key} (fresh : s.findItem k = none) (cls w run) : LawsKept F s (s.createItem k cls w run) :=
  (setItems (l := (s.createItem k cls w run).wls.items) fun h => h.createFresh fresh cls w run).trans (ofView rfl)

/-- R127 to R131. -/
theorem scoreNote (s : State) (k cls w run) : LawsKept F s (s.scoreNote k cls w run) := by
  unfold State.scoreNote; split
  · exact (score ..).trans (testNomination ..)
  · next fresh =>
    split
    · exact refl s
    · split
      · exact (createItem fresh ..).trans (testNomination ..)
      · split
        · next v _ =>
          split
          · have fresh' : (s.removeItem v.key).findItem k = none := by
              rw [State.findItem_eq_none] at fresh ⊢
              exact fun h => fresh ((List.filter_sublist.map _).mem h)
            exact ((removeItem ..).trans (createItem fresh' ..)).trans (testNomination ..)
          · exact ofView rfl
        · exact ofView rfl

theorem noteOnStage (s : State) (i) : LawsKept F s (s.noteOnStage i) := by
  unfold State.noteOnStage; split
  · next h => exact (dropStage ((Stage.heldFor_iff ..).1 h.1)).trans (ofView rfl)
  · exact refl s

theorem dataNote (s : State) (o cls rep) : LawsKept F s (s.dataNote o cls rep) := by
  unfold State.dataNote; dsimp only; split
  · exact scoreNote ..
  · exact (noteOnStage ..).trans (scoreNote ..)

theorem takeNote (s : State) (n) : LawsKept F s (s.takeNote n) := by
  unfold State.takeNote; split
  · exact refl s
  · split
    · split
      · split
        · exact dataNote ..
        · exact slotNote ..
      · exact ofView rfl
    · exact ofView rfl

/-! ## Decay and the Policy Unit (R134, R148, R149) -/

theorem decayItems (s : State) : LawsKept F s s.decayItems :=
  setItems fun h => State.KeysUnique.filter (h.map fun i => by unfold WatchItem.decayed; split <;> rfl) WatchItem.stays

theorem decayBoundary (s : State) : LawsKept F s s.decayBoundary :=
  ((decayItems s).trans (ofView (State.applyPendingRun_view _))).trans (ofView rfl)

theorem passStep (s : State) : LawsKept F s s.passStep := by
  unfold State.passStep; split
  · exact (consider ..).after rfl
  · exact refl s

theorem takeNomination (s : State) : LawsKept F s s.takeNomination := by
  unfold State.takeNomination; split
  · dsimp only; split
    · exact (consider ..).after rfl
    · exact ofView rfl
  · exact refl s

end LawsKept

end Sys2Proof.Machine
end

section
/-! SUPPORT. The five laws through the requests. -/

namespace Sys2Proof.Machine

variable {F : Ctx → Prop} {s t : State} {i : EntryIx} {o : Origin} {k : SlotNo} {m : Nat} {st : Option RecIx}

/-! ## RELEASE (R13, R14) -/

/-- R14: once its stage is cancelled, a LIVE entry whose record is not under a burn is not staged. -/
theorem State.cancelStageFor_unstaged (idle : ¬s.burningRecord st = true) (he : s.entry i = .live o k m st) :
    (∃ st', (s.cancelStageFor i).entry i = .live o k m st') ∧
      ((s.cancelStageFor i).StageMarked → (s.cancelStageFor i).Unstaged i) := by
  unfold State.cancelStageFor
  split
  · have dropped : (s.dropStage i).entry i = .live o k m none := by
      rw [State.dropStage, State.setEntry_entry_same, he, Entry.unstaged]
    exact ⟨⟨none, dropped⟩, fun h => h.unstaged (by simp [dropped])⟩
  · next held =>
    refine ⟨⟨st, he⟩, fun h => ⟨fun hc => held ((Stage.heldFor_iff ..).2 hc), fun r o' n ho => idle ?_⟩⟩
    obtain ⟨-, m', he'⟩ := h.burn r i o' n ho
    rw [he] at he'
    cases he'
    exact (s.burningRecord_iff _).2 ⟨r, rfl, .inl ⟨i, o, k, ho⟩⟩

/-- R44: the warm reset keeps every slot that names an entry. -/
theorem SlotRecord.warm_state_iff {x : SlotRecord} {y : SlotState} (hy : y.entry ≠ none) : x.warm.state = y ↔ x.state = y := by
  unfold SlotRecord.warm
  split
  · next h =>
    rw [h]
    refine iff_of_false ?_ ?_
    · rintro rfl; exact hy rfl
    · rintro rfl; exact hy rfl
  · rfl

theorem State.endTests_slot (r : Rank) (b : Bank) (k : SlotNo) : s.endTests.slot r b k = (s.slot r b k).warm := by
  simp [State.slot, State.endTests]

namespace LawsKept

/-- R14: a LIVE entry that is not staged becomes RETIRING. -/
theorem retire (he : s.entry i = .live o k m st) (unstaged : s.StageMarked → s.Unstaged i) :
    LawsKept F s (s.setEntry i (.retiring o k m)) := by
  refine ofRepairs rfl rfl rfl rfl rfl (fun h => h.setEntry i ?_) fun h => ?_
  · have entry := h.entry i
    rw [he] at entry
    exact ⟨entry.slot, nofun⟩
  · have marked := h.namesAgree.stage
    exact h.rewrite rfl (by simp [he]) (s.setEntry_entry i · _) (fun _ _ _ => rfl) (fun _ => rfl) (by simp [he, Entry.Uses])
      (by simp [he, Entry.Runs])
      (marked.ofOther rfl rfl (fun j hj => (s.setEntry_entry i j _).trans (if_neg hj)) (unstaged marked))

theorem answer (s : State) (x p) : LawsKept F s (s.answer x p) := ofView (State.answer_view ..)
theorem refuse (s : State) (x) : LawsKept F s (s.refuse x) := ofView (State.refuse_view ..)

theorem release (idle : ¬s.burningRecord st = true) (he : s.entry i = .live o k m st) (g) : LawsKept F s (s.release g i o k m) := by
  obtain ⟨⟨st', live⟩, unstaged⟩ := State.cancelStageFor_unstaged idle he
  unfold State.release; dsimp only; split
  · exact (((cancelStageFor s i).trans (retire live unstaged)).trans (removeSlotItems ..)).trans (answer ..)
  · exact ((cancelStageFor s i).trans (freeEntry (live ▸ .live m st') unstaged)).trans (answer ..)

/-! ## The wrappers of the requests -/

theorem whenLoaded {u : State} (h : LawsKept F s u) : LawsKept F s (s.whenLoaded u) := by
  unfold State.whenLoaded; split
  · exact refuse ..
  · exact h

theorem whenActive {f : Geometry → State} (h : ∀ g, LawsKept F s (f g)) : LawsKept F s (s.whenActive f) := by
  unfold State.whenActive; split
  · exact h _
  · exact refuse ..

theorem whenSome {α : Type} {x : Option α} {f : α → State} (h : ∀ a, x = some a → LawsKept F s (f a)) :
    LawsKept F s (s.whenSome x f) := by
  unfold State.whenSome; split
  · exact h _ rfl
  · exact refuse ..

theorem whenEngineFree {u : State} (h : s.rst.operation = none → LawsKept F s u) : LawsKept F s (s.whenEngineFree u) := by
  unfold State.whenEngineFree; split
  · exact refuse ..
  · split
    · exact refuse ..
    · next free => exact h (by simpa using free)

/-! ## The table and the directory -/

theorem decideTableRead (s : State) (x) : LawsKept F s (s.decideTableRead x) := whenLoaded (whenSome fun _ _ => answer ..)

theorem decideTableFind (s : State) (r b w) : LawsKept F s (s.decideTableFind r b w) :=
  whenActive fun _ => whenSome fun _ _ => by split <;> exact answer ..

theorem decideRelease (s : State) (x) : LawsKept F s (s.decideRelease x) :=
  whenActive fun g => whenSome fun i _ => by
    split
    · exact refuse ..
    · next he =>
      split
      · exact refuse ..
      · next idle => exact release idle he g
    · exact refuse ..

theorem decideSlotRead (s : State) (r b k) : LawsKept F s (s.decideSlotRead r b k) :=
  whenActive fun _ => whenSome fun _ _ => answer ..

/-- R38, R40: a FREE slot goes to TESTING, or takes a grade. -/
theorem setFree {r : Rank} {b : Bank} {k : SlotNo} (free : (s.slot r b k).state = .free) {x : SlotRecord}
    (hx : x.state.entry = none) : LawsKept F s (s.setSlot r b k x) := setSlot (by rw [free]; nofun) (by rw [free]; rfl) hx

theorem decideTestBegin (s : State) (r b k) : LawsKept F s (s.decideTestBegin r b k) :=
  whenActive fun _ => whenSome fun _ _ => by
    split
    · next free => exact (setFree free rfl).trans (answer ..)
    · exact refuse ..

theorem decideTestEnd (s : State) (r b k v) : LawsKept F s (s.decideTestEnd r b k v) :=
  whenActive fun _ => whenSome fun _ _ => by
    split
    · next testing => exact (setSlot (by rw [testing]; nofun) (by rw [testing]; rfl) rfl).trans (answer ..)
    · exact refuse ..

theorem decideSlotGrade (s : State) (r b k v) : LawsKept F s (s.decideSlotGrade r b k v) :=
  whenActive fun _ => whenSome fun _ _ => by
    split
    · next free => exact (setFree free rfl).trans (answer ..)
    · exact refuse ..

/-! ## The contexts and the watch items -/

theorem decideContextRead (s : State) (x) : LawsKept F s (s.decideContextRead x) := whenLoaded (whenSome fun _ _ => answer ..)

theorem answerLaunch {l : Launch} (h : ∀ c t, l = .launched c t → LawsKept F s t) : LawsKept F s (s.answerLaunch l) := by
  unfold State.answerLaunch; split
  · exact (h _ _ rfl).trans (answer ..)
  · exact refuse ..

theorem decideRepair (s : State) (r b w) : LawsKept F s (s.decideRepair r b w) :=
  whenActive fun _ => whenSome fun _ _ => answerLaunch fun _ _ h => launchFirst h

theorem decideMove (s : State) (x) : LawsKept F s (s.decideMove x) :=
  whenActive fun _ => whenSome fun _ _ => answerLaunch fun _ _ h => launchMove h

theorem decideCancel (s : State) (x) : LawsKept F s (s.decideCancel x) :=
  whenActive fun _ => whenSome fun _ _ => by
    split
    · exact (abort ..).trans (answer ..)
    · exact refuse ..

theorem decideWatchRead (s : State) (x) : LawsKept F s (s.decideWatchRead x) :=
  whenLoaded (whenSome fun _ _ => by split <;> exact answer ..)

theorem decideWatchClear (s : State) (r b w x) : LawsKept F s (s.decideWatchClear r b w x) :=
  whenActive fun _ => whenSome fun _ _ => by
    split
    · exact refuse ..
    · split
      · exact refuse ..
      · exact (removeItem ..).trans (answer ..)

/-! ## The profiles -/

theorem decideProfileRead (s : State) (x) : LawsKept F s (s.decideProfileRead x) := whenLoaded (whenSome fun _ _ => answer ..)
theorem decideEditSelect (s : State) (x) : LawsKept F s (s.decideEditSelect x) :=
  whenLoaded (whenSome fun _ _ => (answer ..).after rfl)
theorem decideRunSelect (s : State) (x) : LawsKept F s (s.decideRunSelect x) :=
  whenLoaded (whenSome fun _ _ => (answer ..).after rfl)

end LawsKept

/-- R139: a field written within its range leaves MAX_ROUNDS within its own. -/
theorem Profile.write_maxRounds {p x : Profile} {f : Byte} {v : BitVec 16} (h : p.write f v = some x) :
    x.maxRounds = p.maxRounds ∨ 1 ≤ x.maxRounds ∧ x.maxRounds ≤ 6 := by
  unfold Profile.write at h
  dsimp only at h
  split at h
  case h_8 =>
    obtain ⟨y, hy, rfl⟩ := Option.map_eq_some_iff.1 h
    unfold rangeOf at hy
    split at hy
    · next bounds => cases hy; exact .inr bounds
    · cases hy
  case h_12 => cases h
  all_goals
    obtain ⟨_, -, rfl⟩ := Option.map_eq_some_iff.1 h
    exact .inl rfl

theorem State.ProfilesBounded.setEditProfile (h : s.ProfilesBounded) {x : Profile} (hx : 1 ≤ x.maxRounds ∧ x.maxRounds ≤ 6) :
    (s.setEditProfile x).ProfilesBounded := by
  intro p
  simp only [State.setEditProfile, Fin.getElem_fin, Vector.getElem_set]
  split
  · exact hx
  · exact h p

namespace LawsKept

theorem setEditProfile {x : Profile} (hx : s.ProfilesBounded → 1 ≤ x.maxRounds ∧ x.maxRounds ≤ 6) :
    LawsKept F s (s.setEditProfile x) where
  sink := id
  keys := id
  rounds h := ⟨h.1.setEditProfile (hx h.1), h.2⟩
  tied h := h.congr rfl (fun _ => rfl) (fun _ _ _ _ _ => Iff.rfl) (fun _ _ _ _ _ => Iff.rfl) rfl rfl
  quiet h := h.ofSame rfl rfl rfl

theorem decideProfileWrite (s : State) (f v) : LawsKept F s (s.decideProfileWrite f v) :=
  whenLoaded (whenSome fun x hx => by
    split
    · exact refuse ..
    · refine (setEditProfile fun bounded => ?_).trans (answer ..)
      rcases Profile.write_maxRounds hx with same | within
      · rw [same]; exact bounded _
      · exact within)

/-! ## The Repair Store (R159, R163, R165 to R167) -/

theorem stageEntry (free : s.rst.operation = none) (i) : LawsKept F s (s.stageEntry i) := by
  unfold State.stageEntry; split
  · exact refuse ..
  · next he =>
    split
    · exact refuse ..
    · split
      · exact takeStage he free _
      · exact refuse ..
  · exact refuse ..

theorem decideStage (s : State) (x) : LawsKept F s (s.decideStage x) :=
  whenActive fun _ => whenSome fun _ _ => whenEngineFree fun free => by
    split
    · exact stageEntry free _
    · exact refuse ..

theorem decideBurn (s : State) : LawsKept F s s.decideBurn :=
  whenActive fun _ => whenEngineFree fun _ => by
    split
    · next ready =>
      split
      · next image => exact beginBurn ready image
      · exact refuse ..
    all_goals exact refuse ..

theorem decideRevoke (s : State) (x) : LawsKept F s (s.decideRevoke x) :=
  whenActive fun _ => whenSome fun _ _ => whenEngineFree fun _ => by
    split
    · exact beginOperation nofun
    · exact refuse ..

theorem decideBurnGeometry (s : State) : LawsKept F s s.decideBurnGeometry :=
  whenLoaded (whenEngineFree fun _ => by
    split
    · split
      · exact beginOperation nofun
      · exact refuse ..
    · exact refuse ..)

theorem decideLockStore (s : State) : LawsKept F s s.decideLockStore :=
  whenLoaded (((ofView (State.setLock_view s)).trans (cancelStage _)).trans (answer ..))
theorem decideStoreRead (s : State) (x) : LawsKept F s (s.decideStoreRead x) := whenLoaded (whenSome fun _ _ => answer ..)
theorem decideStoreStatus (s : State) : LawsKept F s s.decideStoreStatus := whenLoaded (answer ..)
theorem decideConditionRead (s : State) : LawsKept F s s.decideConditionRead := whenLoaded (answer ..)
theorem decideConditionClear (s : State) (x) : LawsKept F s (s.decideConditionClear x) :=
  whenLoaded (whenSome fun _ _ => (answer ..).after rfl)
theorem decideAlertMask (s : State) (x) : LawsKept F s (s.decideAlertMask x) :=
  whenLoaded (whenSome fun _ _ => (answer ..).after rfl)

/-! ## WARM_RESET and its parts (R44, R138, R170, R191, R192) -/

theorem beginWarmReset (s : State) : LawsKept F s s.beginWarmReset := (ofView (State.compose_view ..)).trans (ofView rfl)
theorem decideWarmReset (s : State) : LawsKept F s s.decideWarmReset := whenLoaded (beginWarmReset s)

theorem takeWarmPart {p : WarmPart} {f : State → State} (h : LawsKept F s (f s)) : LawsKept F s (s.takeWarmPart p f) := by
  unfold State.takeWarmPart; split
  · exact h.trans (ofView rfl)
  · exact refl s

theorem noItems (s : State) : LawsKept F s (s.setItems []) := setItems fun _ => List.nodup_nil

theorem endTests (s : State) : LawsKept F s s.endTests := by
  refine ofRepairs rfl rfl rfl rfl rfl (fun h => ⟨fun r b => ?_, h.2⟩) fun h => ?_
  · rw [State.endTests_slot, h.1]; rfl
  · refine h.congr rfl (fun _ => rfl) (fun r b k x hx => ?_) (fun _ _ _ _ _ => Iff.rfl) rfl rfl
    rw [State.endTests_slot, SlotRecord.warm_state_iff hx]

end LawsKept

end Sys2Proof.Machine
end

section
/-! SUPPORT. The five laws through the Sideband Link's operations. -/

namespace Sys2Proof.Machine

variable {F : Ctx → Prop} {s t : State}

/-! ## The quiet link under an operation on the link alone (R102) -/

theorem State.LinkQuiet.onLink (h : s.LinkQuiet) (a : s.OnLink t) (quiet : t.IdleQuiet)
    (down : t.sbl.state ≠ .up → s.sbl.state ≠ .up ∧ t.sbl.waiting = [] ∧ ∀ m ∈ t.sbl.outbound, m.IsGreeting) : t.LinkQuiet := by
  obtain ⟨-, inactive, notUp⟩ := h
  have idle {c} (hc : (s.ctx c).isIdle = true) : (t.ctx c).isIdle = true := (a.isIdle c).trans hc
  refine ⟨quiet, fun hm c => idle (inactive (fun g hg => hm g ((State.mode_eq_of_tables a.tables).trans hg)) c), fun hl => ?_⟩
  obtain ⟨left, waiting, greetings⟩ := down hl
  exact ⟨fun c => idle ((notUp left).1 c), waiting, greetings⟩

/-- What the law of the link says while it is not UP. -/
theorem State.LinkQuiet.down (h : s.LinkQuiet) (hl : s.sbl.state ≠ .up) :
    s.sbl.waiting = [] ∧ ∀ m ∈ s.sbl.outbound, m.IsGreeting := (h.2.2 hl).2

/-- A greeting behind greetings displaces no message of a context. -/
theorem State.queueGreeting_of_greetings (greetings : ∀ m ∈ s.sbl.outbound, m.IsGreeting) {m : OutMsg} (hm : m.IsGreeting) :
    (s.queueGreeting m).mge = s.mge ∧ (s.queueGreeting m).sbl.state = s.sbl.state ∧
      (s.queueGreeting m).sbl.waiting = s.sbl.waiting ∧ ∀ x ∈ (s.queueGreeting m).sbl.outbound, x.IsGreeting := by
  have displaced : s.displaceTail.mge = s.mge ∧ s.displaceTail.sbl.state = s.sbl.state ∧
      s.displaceTail.sbl.waiting = s.sbl.waiting ∧ ∀ x ∈ s.displaceTail.sbl.outbound, x.IsGreeting := by
    unfold State.displaceTail
    split
    · exact ⟨rfl, rfl, rfl, greetings⟩
    · next tail last =>
      have rest : ∀ x ∈ s.sbl.outbound.dropLast, x.IsGreeting := fun x hx => greetings x (List.mem_of_mem_dropLast hx)
      rcases greetings tail (List.mem_of_getLast? last) with rfl | rfl
      · exact ⟨rfl, rfl, rfl, rest⟩
      · exact ⟨rfl, rfl, rfl, rest⟩
  unfold State.queueGreeting
  split
  · exact ⟨rfl, rfl, rfl, greetings⟩
  · dsimp only
    split
    · exact ⟨rfl, rfl, rfl, List.forall_mem_cons.2 ⟨hm, greetings⟩⟩
    · obtain ⟨mge, state, waiting, rest⟩ := displaced
      exact ⟨mge, state, waiting, List.forall_mem_cons.2 ⟨hm, rest⟩⟩

theorem State.IdleQuiet.refill (h : s.IdleQuiet) : s.refill.IdleQuiet := refillUpTo _ s h

/-- Room that frees while the link is not UP stays free. -/
theorem State.LinkQuiet.refill {x : Link} (h : s.LinkQuiet) (state : x.state = s.sbl.state) (waiting : x.waiting = s.sbl.waiting)
    (outbound : ∀ m ∈ x.outbound, m ∈ s.sbl.outbound) : ({ s with sbl := x } : State).refill.LinkQuiet := by
  refine h.onLink ((State.OnLink.ofSbl ..).trans (.refill _)) (State.IdleQuiet.refill (s := { s with sbl := x }) h.idleQuiet)
    fun hl => ?_
  have left : s.sbl.state ≠ .up := by rwa [State.refill, State.refillUpTo_linkState, state] at hl
  obtain ⟨empty, greetings⟩ := h.down left
  rw [State.refill_of_waiting_nil _ (waiting.trans empty)]
  exact ⟨left, waiting.trans empty, fun m hm => greetings m (outbound m hm)⟩

namespace LawsKept

theorem purgeOutbound (s : State) (keep) : LawsKept F s (s.purgeOutbound keep) :=
  ofOnLink (.purgeOutbound ..) fun h => h.refill rfl rfl fun _ hm => List.mem_of_mem_filter hm

theorem transmitHead (s : State) : LawsKept F s s.transmitHead :=
  ofOnLink (.transmitHead s) fun h => by
    unfold State.transmitHead
    split
    · next queue => exact h.refill rfl rfl fun _ hm => queue ▸ List.mem_cons_of_mem _ hm
    · exact h

theorem linkUp (s : State) : LawsKept F s s.linkUp :=
  ofOnLink (.linkUp s) fun h =>
    h.onLink (.linkUp s) (State.IdleQuiet.refill (h.idleQuiet.ofMge rfl)) fun hl => absurd s.linkUp_linkState hl

theorem sendStale (up : s.sbl.state = .up) (m) : LawsKept F s (s.sendStale m) := by
  unfold State.sendStale; split
  · exact ofOnLink (.setOutbound ..) fun h => h.onLink (.setOutbound ..) (h.idleQuiet.ofMge rfl) fun hl => absurd up hl
  · exact refl s

/-- R103. -/
theorem retry (greeting : s.sbl.state = .greeting) : LawsKept F s s.retry :=
  ofOnLink (.retry s) fun h => by
    have left : s.sbl.state ≠ .up := by rw [greeting]; nofun
    obtain ⟨empty, greetings⟩ := h.down left
    obtain ⟨mge, state, waiting, outbound⟩ := State.queueGreeting_of_greetings greetings (.inl rfl)
    exact h.onLink (.retry s) (h.idleQuiet.ofMge mge) fun _ => ⟨left, waiting.trans empty, outbound⟩

/-- R105: the greeting is complete and is answered. -/
theorem answerHello (greeting : s.sbl.state = .greeting) : LawsKept F s (s.linkUp.queueGreeting .helloAck) :=
  ofOnLink ((State.OnLink.linkUp s).trans (.queueGreeting ..)) fun h => by
    have left : s.sbl.state ≠ .up := by rw [greeting]; nofun
    obtain ⟨empty, greetings⟩ := h.down left
    have up : s.linkUp = { s with sbl := { s.sbl with
        state := .up, retryTimer := none, outbound := s.sbl.outbound.filter (· != .hello) } } :=
      State.refill_of_waiting_nil _ empty
    have kept : ∀ m ∈ s.linkUp.sbl.outbound, m.IsGreeting := by
      rw [up]; exact fun m hm => greetings m (List.mem_of_mem_filter hm)
    obtain ⟨mge, state, -, -⟩ := State.queueGreeting_of_greetings kept (.inr rfl)
    refine h.onLink ((State.OnLink.linkUp s).trans (.queueGreeting ..)) (h.idleQuiet.ofMge (mge.trans (by rw [up]))) fun hl => ?_
    exact absurd (state.trans s.linkUp_linkState) hl

end LawsKept

/-! ## The endings of a conversation (R95, R106, R110, R120) -/

/-- R75: an IDLE context runs no timer. -/
def State.IdleUntimed (s : State) : Prop := ∀ c, (s.ctx c).isIdle = true → (s.ctx c).timer = none

namespace State.IdleUntimed

theorem congr (h : s.IdleUntimed) (bodies : ∀ c, (t.ctx c).body = (s.ctx c).body)
    (timers : ∀ c, (t.ctx c).timer = (s.ctx c).timer) : t.IdleUntimed :=
  fun c idle => (timers c).trans (h c ((Context.isIdle_congr (bodies c)).symm.trans idle))

theorem enterIdle (h : s.IdleUntimed) (c : Ctx) (j : Job) : (s.enterIdle c j).IdleUntimed := by
  intro d hd
  rw [State.enterIdle_ctx] at hd ⊢
  split at hd
  · next hc => rw [if_pos hc]
  · next hc => rw [if_neg hc]; exact h d hd

end State.IdleUntimed

theorem State.setCtx_timer (s : State) (c : Ctx) (b r l) (d : Ctx) :
    ((s.setCtx c ⟨b, r, l, (s.ctx c).timer⟩).ctx d).timer = (s.ctx d).timer := by
  rw [State.setCtx_ctx]
  split
  · next hd => rw [hd]
  · rfl

theorem State.abortChanges_timer (s : State) (c : Ctx) (j : Job) (r : AbortReason) (d : Ctx) :
    ((s.abortChanges c j r).ctx d).timer = (s.ctx d).timer := by
  have tables : ((s.abortTables j r).ctx d).timer = (s.ctx d).timer := by rw [State.ctx, State.ctx, State.abortTables_mge]
  have result : (((s.abortTables j r).setLastResult c (.aborted r)).ctx d).timer = (s.ctx d).timer :=
    (State.setCtx_timer (s.abortTables j r) c _ _ _ d).trans tables
  have raised (b k) : ((((s.abortTables j r).setLastResult c (.aborted r)).raiseIf b k).ctx d).timer = (s.ctx d).timer := by
    rw [State.ctx_eq_of_view (State.raiseIf_view ..), result]
  exact (State.setCtx_timer _ c _ _ _ d).trans (raised _ _)

theorem State.displaceTail_timer (s : State) (d : Ctx) : (s.displaceTail.ctx d).timer = (s.ctx d).timer := by
  unfold State.displaceTail
  split
  · rfl
  · dsimp only
    split
    · exact State.setCtx_timer (s.setOutbound _) _ _ _ _ d
    · rfl

theorem State.queueGreeting_timer (s : State) (m : OutMsg) (d : Ctx) : ((s.queueGreeting m).ctx d).timer = (s.ctx d).timer := by
  unfold State.queueGreeting
  split
  · rfl
  · dsimp only
    split
    · rfl
    · exact s.displaceTail_timer d

theorem State.IdleUntimed.endAllSilently (h : s.IdleUntimed) {r : AbortReason} (hr : r.silent = true) :
    (s.endAllSilently r).IdleUntimed := by
  refine List.foldlRecOn _ _ h fun u hu c _ => ?_
  unfold State.endSilently
  split
  · exact hu
  · exact hu.enterIdle c _
  · next st j closing hb =>
    rw [State.abort_of_silent (Context.activeJob_eq_some.2 ⟨st, closing, hb⟩) hr]
    refine State.IdleUntimed.enterIdle (hu.congr (fun d => ?_) (u.abortChanges_timer c j r)) c j
    rw [(u.abortChanges_onLink c j r).bodies, State.ctx, State.ctx, State.abortTables_mge]

/-- Once every migration has ended and nothing is pending, the link is quiet with greetings alone to send. -/
theorem State.IdleUntimed.linkQuiet {u : State} (h : u.IdleUntimed) {r : AbortReason} (hr : r.silent = true)
    (mge : t.mge = (u.endAllSilently r).clearAllHeld.mge) (waiting : t.sbl.waiting = [])
    (outbound : ∀ m ∈ t.sbl.outbound, m.IsGreeting) : t.LinkQuiet := by
  have ended := u.endAllSilently_isIdle hr
  have untimed := h.endAllSilently hr
  generalize u.endAllSilently r = v at mge ended untimed
  have cleared (c : Ctx) : t.ctx c = { v.ctx c with held := [] } := by
    rw [State.ctx, mge]
    simp [State.clearAllHeld, State.ctx]
  refine .ofSilence (fun c => ?_) (fun c idle => ?_) waiting outbound
  · rw [cleared]; exact ended c
  · rw [cleared] at idle ⊢
    exact ⟨rfl, untimed c idle⟩

theorem State.IdleQuiet.untimed (h : s.IdleQuiet) : s.IdleUntimed := fun c idle => (h c idle).2

namespace LawsKept

/-- A conversation ends: what follows the end of every migration works on the link alone. -/
theorem endConversation {u : State} (before : s.OnLink u) (timers : ∀ c, (u.ctx c).timer = (s.ctx c).timer) {r : AbortReason}
    (hr : r.silent = true) (after : (u.endAllSilently r).OnLink t) (mge : t.mge = (u.endAllSilently r).clearAllHeld.mge)
    (waiting : t.sbl.waiting = []) (outbound : ∀ m ∈ t.sbl.outbound, m.IsGreeting) : LawsKept F s t where
  toTablesKept := ((TablesKept.ofOnLink before).trans (endAllSilently u r).toTablesKept).trans (.ofOnLink after)
  quiet h := (h.idleQuiet.untimed.congr before.bodies timers).linkQuiet hr mge waiting outbound

theorem linkFail (s : State) : LawsKept F s s.linkFail := by
  have cleared : (s.linkDown.endAllSilently .linkDown).OnLink (s.linkDown.endAllSilently .linkDown).clearAllHeld := .clearAllHeld _
  have failed := (cleared.trans (State.onLink_of_view (State.raise_view _ .linkFault))).trans (.enterGreeting _)
  exact endConversation (.linkDown s) (fun _ => rfl) rfl failed rfl rfl fun _ hm => .inl (List.mem_singleton.1 hm)

theorem warmLink (s : State) : LawsKept F s s.warmLink :=
  endConversation (.linkDown s) (fun _ => rfl) rfl ((State.OnLink.clearAllHeld _).trans (.enterGreeting _))
    rfl rfl fun _ hm => .inl (List.mem_singleton.1 hm)

theorem greetAnew (s : State) : LawsKept F s s.greetAnew :=
  endConversation (.queueGreeting ..) (s.queueGreeting_timer _) rfl ((State.OnLink.clearAllHeld _).trans (.onlyHelloAck _))
    rfl rfl fun _ hm => .inr (List.mem_singleton.1 hm)

/-! ## Frames and greetings -/

theorem badFrame (s : State) : LawsKept F s s.badFrame := by
  unfold State.badFrame; split
  · split
    · exact linkFail s
    · exact ofView rfl
  · exact refl s

theorem takeHello (s : State) (l n) : LawsKept F s (s.takeHello l n) := by
  unfold State.takeHello; split
  · exact ofView rfl
  · split
    · exact refl s
    · next greeting => exact (answerHello greeting).trans (endAllSilently ..)
    · exact greetAnew s

theorem takeHelloAck (s : State) (l n) : LawsKept F s (s.takeHelloAck l n) := by
  unfold State.takeHelloAck; split
  · exact ofView rfl
  · split
    · exact refl s
    · exact linkUp s
    · exact refl s

theorem receive (s : State) (m) : LawsKept F s (s.receive m) := by
  unfold State.receive; split
  · split
    · exact (ofView (State.passNote_view ..)).after rfl
    · exact (ofView (State.passReply_view ..)).after rfl
    · exact (takeHello ..).after rfl
    · exact (takeHelloAck ..).after rfl
  · exact refl s

theorem takePassedNote (s : State) (n) : LawsKept F s (s.takePassedNote n) := by
  unfold State.takePassedNote; split
  · split
    · exact (takeNote ..).after rfl
    · exact refl s
  · exact refl s

/-! ## The channel reset, the warm reset and the timers -/

theorem migrationChannelReset (s : State) : LawsKept F s s.migrationChannelReset :=
  ((takeAllReports s).trans (endAllSilently ..)).trans (purgeOutbound ..)

theorem warmMigration (s : State) : LawsKept F s s.warmMigration := by
  unfold State.warmMigration; dsimp only; split
  · exact endAllSilently ..
  · exact (endAllSilently ..).trans (purgeOutbound ..)

theorem expire (s : State) (c st r) : LawsKept F s (s.expire c st r) := by
  unfold State.expire; split
  · exact abort ..
  · exact refl s

theorem closingExpiry (s : State) (c) : LawsKept F s (s.closingExpiry c) := by
  unfold State.closingExpiry; split
  · split
    · exact (enterIdle ‹_›).trans (ofView (State.raise_view ..))
    · exact refl s
  · exact refl s

end LawsKept

end Sys2Proof.Machine
end

section
/-! SUPPORT. The five laws through the controller's replies (R77 to R81, R90, R91). -/

namespace Sys2Proof.Machine

variable {F : Ctx → Prop} {s t : State} {c : Ctx} {j : Job} {st : BusyState} {n : RoundField}

/-! ## The match of a reply (R91) -/

theorem Context.jobIn_eq_some {x : Context} (h : x.jobIn st n = some j) : x.body = .busy st j := by
  unfold Context.jobIn at h
  split at h
  · next hb =>
    split at h
    · next same => cases h; rw [hb, same.1]
    · cases h
  · cases h

theorem Context.offered_eq_some {x : Context} (h : x.offered n = some j) : x.body = .busy .offering j := by
  unfold Context.offered at h
  split at h
  · cases h
  · exact Context.jobIn_eq_some h

theorem Context.fenceAsked_set_eq_some {x : Context} (h : x.fenceAsked .set n = some j) : x.body = .busy .fencing j := by
  unfold Context.fenceAsked at h
  split at h
  · cases h
  · exact Context.jobIn_eq_some h

theorem Context.fenceAsked_release_eq_some {x : Context} (h : x.fenceAsked .release n = some j) : x.body = .busy .closing j := by
  unfold Context.fenceAsked at h
  split at h
  · cases h
  · exact Context.jobIn_eq_some h

/-! ## The fence held (R81) -/

namespace Job.LeadsTo

/-- R81: the fence was asked for within MAX_ROUNDS, so that one round more may follow it. -/
theorem fenced : j.LeadsTo False .fencing .offering (Job.nextRound { j with fenced := .held }) := by
  refine ⟨⟨nofun, nofun⟩, ⟨rfl, rfl, rfl, rfl⟩, fun ⟨⟨captured, ⟨_, _⟩, last⟩, fencing⟩ =>
    ⟨⟨captured, ⟨?_, ?_⟩, fun _ => rfl⟩, nofun⟩⟩
  · exact Nat.succ_pos _
  · have asked := fencing rfl id
    refine Nat.succ_le_succ (Nat.le_of_not_lt fun late => ?_)
    rw [last late] at asked
    cases asked

/-- R81: the fence is held while the reports are taken. -/
theorem holding {exempt : Prop} (h : exempt) : j.LeadsTo exempt .fencing .fencing { j with fenced := .held } :=
  ⟨⟨nofun, nofun⟩, ⟨rfl, rfl, rfl, rfl⟩, fun ⟨⟨captured, bounds, _⟩, _⟩ =>
    ⟨⟨captured, bounds, fun _ => rfl⟩, fun _ hn => absurd h hn⟩⟩

end Job.LeadsTo

/-- A context that has left FENCING needs no exemption. -/
theorem State.RoundsBut.unexempt (h : s.RoundsBut (· = c)) (left : ∀ j, (s.ctx c).body ≠ .busy .fencing j) :
    s.RoundsBut fun _ => False := by
  refine ⟨h.1, fun d st j hb => ⟨(h.2 d st j hb).bounded, fun hst _ => (h.2 d st j hb).fencing hst ?_⟩⟩
  rintro rfl
  exact left j (hst ▸ hb)

theorem State.RoundsBut.exempt (h : s.RoundsBut fun _ => False) : s.RoundsBut F :=
  ⟨h.1, fun d st j hb => ⟨(h.2 d st j hb).bounded, fun hst _ => (h.2 d st j hb).fencing hst id⟩⟩

theorem LawsKept.unexempt (h : LawsKept (· = c) s t) (left : ∀ j, (t.ctx c).body ≠ .busy .fencing j) :
    LawsKept (fun _ => False) s t :=
  ⟨⟨h.sink, h.keys, fun hr => (h.rounds hr.exempt).unexempt left, h.tied⟩, h.quiet⟩

/-- R79, R81: a clean round leaves its state for ARMED or a cutover. -/
theorem State.armOrCutover_body (s : State) (c : Ctx) (j j' : Job) : ((s.armOrCutover c j).ctx c).body ≠ .busy .fencing j' := by
  unfold State.armOrCutover
  split
  · rw [State.enterTimed, State.setCtx_ctx_same]
    nofun
  · intro hb
    obtain ⟨b, ends, onLink⟩ := s.cutover_onLink c j
    rw [onLink.bodies, State.setBody_body, if_pos rfl] at hb
    cases (ends _ _ hb).1

namespace LawsKept

theorem fencedTest (s : State) (c) : LawsKept F s (s.fencedTest c) := by
  unfold State.fencedTest; dsimp only; split
  · next hb => exact (takeAllReports s).trans (armOrCutover hb nofun)
  · exact takeAllReports s

end LawsKept

theorem State.fencedTest_body (s : State) (c : Ctx) (j : Job) : ((s.fencedTest c).ctx c).body ≠ .busy .fencing j := by
  unfold State.fencedTest; dsimp only; split
  · exact State.armOrCutover_body _ _ _ _
  · next other => exact other j

/-! ## The replies -/

namespace LawsKept

theorem answerStale (up : s.sbl.state = .up) (r) : LawsKept F s (s.answerStale r) := sendStale up _

theorem takeAccept (up : s.sbl.state = .up) (r) : LawsKept F s (s.takeAccept r) := by
  unfold State.takeAccept; split
  · next j h =>
    have copying : j.LeadsTo (F r.ctx) .offering .copying j :=
      .ofSame (st := .offering) (st' := .copying) nofun nofun nofun ⟨rfl, rfl, rfl, rfl⟩ ⟨rfl, rfl, rfl⟩
    exact enterTimed (Context.offered_eq_some h) copying _
  · exact answerStale up r

theorem takeRefuse (up : s.sbl.state = .up) (r) : LawsKept F s (s.takeRefuse r) := by
  unfold State.takeRefuse; split
  · exact abort ..
  · exact answerStale up r

theorem endRound (hb : (s.ctx c).body = .busy .copying j) : LawsKept F s (s.endRound c j) := by
  unfold State.endRound; split
  · exact armOrCutover hb nofun
  · exact afterUncleanRound hb nofun

theorem takeDone (up : s.sbl.state = .up) (r) : LawsKept F s (s.takeDone r) := by
  unfold State.takeDone; split
  · dsimp only; split
    · next h => exact (takeAllReports s).trans (endRound (Context.jobIn_eq_some h))
    · exact (takeAllReports s).trans (answerStale (s.takeAllReports_linkState.trans up) r)
  · exact answerStale up r

theorem takeFenceSet (up : s.sbl.state = .up) (r) : LawsKept (fun _ => False) s (s.takeFenceSet r) := by
  unfold State.takeFenceSet; split
  · next j h =>
    have hb := Context.fenceAsked_set_eq_some h
    dsimp only; split
    · have held : LawsKept (· = r.ctx) s (s.enterState r.ctx .fencing { j with fenced := .held }) :=
        enterState hb (.holding rfl)
      exact (held.trans (fencedTest ..)).unexempt (State.fencedTest_body _ _)
    · exact startRound hb .fenced
  · exact answerStale up r

theorem takeFenceRelease (up : s.sbl.state = .up) (r) : LawsKept F s (s.takeFenceRelease r) := by
  unfold State.takeFenceRelease; split
  · next h => exact enterIdle (Context.fenceAsked_release_eq_some h)
  · exact answerStale up r

theorem takeReplyBody (up : s.sbl.state = .up) (r) : LawsKept (fun _ => False) s (s.takeReplyBody r) := by
  unfold State.takeReplyBody; split
  · exact takeAccept up r
  · exact takeRefuse up r
  · exact takeDone up r
  · exact takeFenceSet up r
  · exact takeFenceRelease up r

theorem takePassedReply (s : State) (r) : LawsKept (fun _ => False) s (s.takePassedReply r) := by
  unfold State.takePassedReply; split
  · split
    · next rest _ _ =>
      have taken : LawsKept (fun _ => False) s { s with mge := { s.mge with replies := rest } } := ofView rfl
      dsimp only; split
      · next up =>
        have still : ({ s with mge := { s.mge with replies := rest } } : State).sbl.state = .up := up
        exact taken.trans (takeReplyBody still r)
      · exact ofView rfl
    · exact refl s
  · exact refl s

theorem takeReply (s : State) (r) : LawsKept (fun _ => False) s (s.takeReply r) := by
  unfold State.takeReply; split
  · exact refl s
  · split
    · exact takePassedReply ..
    · exact (receive ..).trans (takePassedReply ..)

end LawsKept

end Sys2Proof.Machine
end

section
/-! SUPPORT. The five laws through the load, the power events and a millisecond of the clock. -/

namespace Sys2Proof.Machine

variable {F : Ctx → Prop} {s t : State} {g : Geometry}

/-! ## The load (R156, R157) -/

/-- As the load goes on, every entry outside FREE is PERMANENT for a record loaded, and the slots agree with the entries. -/
structure Loading.Named (x : Loading) : Prop where
  entries : ∀ i, x.state.entry i = .free ∨ ∃ y ∈ x.loaded, ∃ k, x.state.entry i = .permanent y.origin y.slot 0 k
  slots : ∀ i r b k y, (x.state.entry i).Uses i r b k y ↔ (x.state.slot r b k).state = y ∧ y.entry = some i

/-- R157: what a record that may be loaded has passed, besides its origin. -/
theorem Repair.loadable_slot {y : Repair} {l : List Repair} (h : y.loadable g l = true) :
    y.slot ≠ 0 ∧ ∀ z ∈ l, z.sameSlot y = false := by
  simp only [Repair.loadable, Bool.and_eq_true, Bool.not_eq_true', List.any_eq_false, Bool.or_eq_true, not_or, bne_iff_ne] at h
  obtain ⟨⟨-, hk⟩, checked⟩ := h
  exact ⟨hk, fun z hz => Bool.eq_false_iff.2 (checked z hz).2⟩

/-- R157: the slot of a record that may be loaded names no entry. -/
theorem Loading.Named.slot_entry {x : Loading} (h : x.Named) {y : Repair} (hy : y.loadable g x.loaded = true) :
    (x.state.slot y.origin.rank y.origin.bank y.slot).state.entry = none := by
  obtain ⟨-, apart⟩ := Repair.loadable_slot hy
  cases named : (x.state.slot y.origin.rank y.origin.bank y.slot).state.entry with
  | none => rfl
  | some i =>
    have used := (h.slots i _ _ _ _).2 ⟨rfl, named⟩
    rcases h.entries i with free | ⟨z, hz, k, he⟩
    · rw [free] at used; exact used.elim
    · rw [he] at used
      obtain ⟨hr, hb, hk, -⟩ := used
      have same := apart z hz
      rw [Repair.sameSlot, hr, hb, hk] at same
      simp at same

/-- R156: what a record of the load does to the state, if it changes more than LOAD_RESULT and the conditions. -/
theorem loadRecord_loads (g : Geometry) (x : Loading) (k : RecIx) :
    ((loadRecord g x k).state.view = x.state.view ∧ (loadRecord g x k).loaded = x.loaded) ∨
    ∃ i y, x.state.entry i = .free ∧ y.loadable g x.loaded = true ∧
      loadRecord g x k = ⟨x.state.loadRepair k i y, y :: x.loaded⟩ := by
  unfold loadRecord
  split
  · exact .inl ⟨rfl, rfl⟩
  · exact .inl ⟨rfl, rfl⟩
  · exact .inl ⟨rfl, rfl⟩
  · split
    · split
      · next lowest => exact .inr ⟨_, _, ((x.state.lowestFreeEntry_eq_some _).1 lowest).1, ‹_›, rfl⟩
      · exact .inl ⟨rfl, rfl⟩
    · exact .inl ⟨rfl, rfl⟩

theorem State.loadRepair_slot_iff (s : State) (k : RecIx) (i : EntryIx) (y : Repair) (r : Rank) (b : Bank) (n : SlotNo)
    (z : SlotState) : ((s.loadRepair k i y).slot r b n).state = z ↔
      if r = y.origin.rank ∧ b = y.origin.bank ∧ n = y.slot then .permanent i = z else (s.slot r b n).state = z :=
  s.setSlot_state_iff ..

theorem Loading.Named.loadRecord {x : Loading} (h : x.Named) (g : Geometry) (k : RecIx) : (loadRecord g x k).Named := by
  rcases loadRecord_loads g x k with ⟨hv, hl⟩ | ⟨i, y, free, hy, he⟩
  · have tables := congrArg View.tables hv
    refine ⟨fun i => ?_, fun i r b n z => ?_⟩
    · rw [State.entry_eq_of_tables tables, hl]; exact h.entries i
    · rw [State.entry_eq_of_tables tables, State.slot_eq_of_tables tables]; exact h.slots i r b n z
  · rw [he]
    refine ⟨fun a => ?_, fun a r b n z => ?_⟩
    · dsimp only
      rw [State.loadRepair_entry]
      split
      · exact .inr ⟨y, List.mem_cons_self, k, rfl⟩
      · exact (h.entries a).imp_right fun ⟨w, hw, m⟩ => ⟨w, List.mem_cons_of_mem _ hw, m⟩
    · dsimp only
      rw [State.loadRepair_entry, State.loadRepair_slot_iff]
      have unnamed := h.slot_entry hy
      have old := h.slots a r b n z
      split
      · next ha =>
        subst ha
        rw [free] at old
        split
        · next hp =>
          obtain ⟨rfl, rfl, rfl⟩ := hp
          simp +contextual [Entry.Uses, SlotState.entry, eq_comm]
        · next hp => exact iff_of_false (fun ⟨hr, hb, hk, _⟩ => hp ⟨hr.symm, hb.symm, hk.symm⟩) old.2
      · next ha =>
        rw [old]
        split
        · next hp =>
          obtain ⟨rfl, rfl, rfl⟩ := hp
          refine iff_of_false ?_ ?_
          · rintro ⟨rfl, hz⟩; rw [unnamed] at hz; cases hz
          · rintro ⟨rfl, hz⟩; exact ha (Option.some.inj hz).symm
        · rfl

theorem State.load_named (free : ∀ i, s.entry i = .free) (slots : ∀ r b k i, (s.slot r b k).state.entry ≠ some i) (g : Geometry) :
    (s.load g).Named := by
  refine State.load_induction ⟨fun i => .inl (free i), fun i r b k y => ?_⟩ fun _ k hx => hx.loadRecord g k
  rw [free]
  exact iff_of_false id fun ⟨hy, hi⟩ => slots r b k i (hy ▸ hi)

theorem loadRecord_sinkKept {x : Loading} (h : x.state.SinkKept) (g : Geometry) (k : RecIx) :
    (loadRecord g x k).state.SinkKept := by
  rcases loadRecord_loads g x k with ⟨hv, -⟩ | ⟨i, y, -, hy, he⟩
  · exact h.ofOnLink (State.onLink_of_view hv)
  · obtain ⟨hk, -⟩ := Repair.loadable_slot hy
    rw [he]
    have claimed := h.setEntry i (e := .permanent y.origin y.slot 0 k) ⟨fun hs => hk (Option.some.inj hs), nofun⟩
    exact claimed.setSlot y.origin.rank y.origin.bank hk ⟨.permanent i, _⟩

theorem State.load_sinkKept (h : s.SinkKept) (g : Geometry) : (s.load g).state.SinkKept :=
  @State.load_induction (fun x => x.state.SinkKept) s g h fun _ k hx => loadRecord_sinkKept hx g k

/-- The load leaves alone what is outside the table, the directory, the results and the conditions. -/
structure State.LoadFrame (s t : State) : Prop where
  mge : t.mge = s.mge
  sbl : t.sbl = s.sbl
  wls : t.wls = s.wls
  pol : t.pol = s.pol
  stage : t.rst.stage = s.rst.stage
  operation : t.rst.operation = s.rst.operation

theorem loadRecord_frame (g : Geometry) (x : Loading) (k : RecIx) : x.state.LoadFrame (loadRecord g x k).state := by
  unfold loadRecord
  split
  · exact ⟨rfl, rfl, rfl, rfl, rfl, rfl⟩
  · exact ⟨rfl, rfl, rfl, rfl, rfl, rfl⟩
  · exact ⟨rfl, rfl, rfl, rfl, rfl, rfl⟩
  · split
    · split
      · exact ⟨rfl, rfl, rfl, rfl, rfl, rfl⟩
      · exact ⟨rfl, rfl, rfl, rfl, rfl, rfl⟩
    · exact ⟨rfl, rfl, rfl, rfl, rfl, rfl⟩

theorem State.load_frame (s : State) (g : Geometry) : s.LoadFrame (s.load g).state :=
  @State.load_induction (fun x => s.LoadFrame x.state) s g ⟨rfl, rfl, rfl, rfl, rfl, rfl⟩ fun x k hx =>
    have next := loadRecord_frame g x k
    ⟨next.mge.trans hx.mge, next.sbl.trans hx.sbl, next.wls.trans hx.wls, next.pol.trans hx.pol, next.stage.trans hx.stage,
      next.operation.trans hx.operation⟩

end Sys2Proof.Machine
end

section
/-! SUPPORT. The five laws through entry to a mode, the power events and a millisecond of the clock. -/

namespace Sys2Proof.Machine

variable {F : Ctx → Prop} {s t : State} {g : Geometry}

/-! ## Entry to ACTIVE (R174, R177) -/

theorem State.TablesTied.unnamed (h : s.TablesTied) (hm : ∀ g, s.mode ≠ .active g) (r : Rank) (b : Bank) (k : SlotNo)
    (i : EntryIx) : (s.slot r b k).state.entry ≠ some i := by
  intro hi
  have used := (h.namesAgree.slots i r b k _).2 ⟨rfl, hi⟩
  rw [h.table hm] at used
  exact used

/-- The state in another mode. -/
def State.inMode (s : State) (m : Mode) : State := { s with mode := m }

theorem State.enterActive_view (s : State) (g : Geometry) :
    (s.enterActive g).view = ((s.load g).state.inMode (.active g)).view := by
  unfold State.enterActive
  generalize (s.load g).state = t
  unfold State.applyPendingRun
  split <;> rfl

theorem State.LoadFrame.ctx (h : s.LoadFrame t) (m : Mode) (c : Ctx) : (t.inMode m).ctx c = s.ctx c :=
  congrArg (fun m : Migration => m.contexts[c]) h.mge

/-- R29: the tables after a load into an empty table. -/
theorem State.TablesTied.ofLoad (h : s.TablesTied) (hm : ∀ g, s.mode ≠ .active g) {x : Loading} (frame : s.LoadFrame x.state)
    (named : x.Named) (g : Geometry) : (x.state.inMode (.active g)).TablesTied := by
  have free := h.table hm
  refine State.NamesAgree.tablesTied ⟨named.slots, fun i c d o n => ?_, ?_⟩ fun inactive => absurd rfl (inactive g)
  · have entry : ¬(x.state.entry i).Runs c d o n := by
      rcases named.entries i with he | ⟨y, -, k, he⟩
      · rw [he]; exact id
      · rw [he]; exact id
    refine iff_of_false entry fun hm => ?_
    rw [State.migrates_congr (congrArg Context.body (frame.ctx (.active g) c)), ← h.namesAgree.runs, free] at hm
    exact hm
  · refine h.namesAgree.stage.ofEntries frame.stage frame.operation fun i o n m r he => ?_
    rw [free] at he
    cases he

namespace LawsKept

theorem ofLoad (hm : ∀ g, s.mode ≠ .active g) {x : Loading} (sink : s.SinkKept → x.state.SinkKept) (frame : s.LoadFrame x.state)
    (named : s.TablesTied → x.Named) (g : Geometry) : LawsKept F s (x.state.inMode (.active g)) := by
  have ctx := frame.ctx (.active g)
  have sbl : (x.state.inMode (.active g)).sbl = s.sbl := frame.sbl
  have wls : (x.state.inMode (.active g)).wls = s.wls := frame.wls
  have pol : (x.state.inMode (.active g)).pol = s.pol := frame.pol
  refine ⟨⟨sink, fun h => ?_, fun h => ?_, fun h => h.ofLoad hm frame (named h) g⟩, fun ⟨quiet, _, down⟩ => ?_⟩
  · rw [State.KeysUnique, wls]; exact h
  · simpa only [State.RoundsBut, State.ProfilesBounded, ctx, pol] using h
  · refine ⟨State.IdleQuiet.ofMge quiet frame.mge, fun inactive => absurd rfl (inactive g), ?_⟩
    simpa only [sbl, ctx] using down

theorem enterActive (hm : ∀ g, s.mode ≠ .active g) (g : Geometry) : LawsKept F s (s.enterActive g) :=
  (ofLoad hm (fun h => State.load_sinkKept h g) (s.load_frame g) (fun h => State.load_named (h.table hm) (h.unnamed hm) g) g).trans
    (ofView (s.enterActive_view g))

/-- A change of a mode that is not ACTIVE. -/
theorem ofInactive (hs : ∀ g, s.mode ≠ .active g) (m : Mode) : LawsKept F s (s.inMode m) where
  sink := id
  keys := id
  rounds := id
  tied h := by
    obtain ⟨slots, runs, ⟨probation, ready, burn⟩⟩ := h.namesAgree
    exact State.NamesAgree.tablesTied ⟨slots, runs, ⟨probation, ready, burn⟩⟩ fun _ => h.table hs
  quiet h := ⟨h.1, fun _ => h.2.1 hs, h.2.2⟩

theorem afterRead (hm : ∀ g, s.mode ≠ .active g) : LawsKept F s s.afterRead := by
  have unconfigured : LawsKept F s (s.inMode .unconfigured) := ofInactive hm _
  unfold State.afterRead; split
  · exact enterActive hm _
  · exact unconfigured
  · exact unconfigured.trans (ofView (State.raise_view _ .storeConflict))

end LawsKept

theorem State.afterRead_ctx (s : State) (c : Ctx) : s.afterRead.ctx c = s.ctx c := by
  unfold State.afterRead; split
  · exact (State.ctx_eq_of_view (s.enterActive_view _) c).trans ((s.load_frame _).ctx _ c)
  · rfl
  · rfl

namespace LawsKept

/-- R102, R174: after the store's read the link enters GREETING. -/
theorem loadComplete (hm : ∀ g, s.mode ≠ .active g) : LawsKept F s ({ s.afterRead with ready := true } : State).enterGreeting := by
  have read : LawsKept F s { s.afterRead with ready := true } := (afterRead hm).trans (ofView rfl)
  refine ⟨read.toTablesKept.trans (.ofOnLink (.enterGreeting _)), fun ⟨quiet, inactive, _⟩ => ?_⟩
  have ctx (c : Ctx) : (({ s.afterRead with ready := true } : State).enterGreeting).ctx c = s.ctx c := s.afterRead_ctx c
  refine .ofSilence (fun c => ?_) (fun c => ?_) rfl fun m h => .inl (List.mem_singleton.1 h)
  · rw [ctx]; exact inactive hm c
  · rw [ctx]; exact quiet c

theorem decideConfigure (s : State) (r w) : LawsKept F s (s.decideConfigure r w) := by
  unfold State.decideConfigure; split
  · exact refuse ..
  · exact refuse ..
  · next unconfigured =>
    exact whenSome fun g _ => (enterActive (by rw [unconfigured]; nofun) g).trans (answer ..)

/-! ## Power (R172) -/

theorem ofReset (h : t.view = State.reset.view) : LawsKept F s t where
  sink _ := State.reset_sinkKept.ofOnLink (State.onLink_of_view h)
  keys _ := State.reset_keysUnique.ofOnLink (State.onLink_of_view h)
  rounds _ := (State.RoundsBut.exempt ((State.roundsBounded_iff _).1 State.reset_roundsBounded)).ofOnLink (State.onLink_of_view h)
  tied _ := State.reset_tablesTied.ofOnLink (State.onLink_of_view h)
  quiet _ := State.reset_linkQuiet.ofView h

end LawsKept

/-! ## The clock (R158) -/

theorem Stage.tick_eq_probation {x : Stage} {i : EntryIx} {r : RecIx} {p y : Nat} (h : x.tick = .probation i r p y) :
    ∃ p' y', x = .probation i r p' y' := by
  cases x <;> cases h
  exact ⟨_, _, rfl⟩

theorem Stage.tick_eq_ready {x : Stage} {i : EntryIx} {r : RecIx} {y : Nat} (h : x.tick = .ready i r y) :
    ∃ y', x = .ready i r y' := by
  cases x <;> cases h
  exact ⟨_, rfl⟩

/-- The timers of the contexts, of the link and of the Watch List run on. -/
def State.tickTimers (s : State) : State :=
  { s with
    mge := { s.mge with contexts := s.mge.contexts.map fun x => { x with timer := tickTimer x.timer } }
    sbl := { s.sbl with retryTimer := tickTimer s.sbl.retryTimer }
    wls := { s.wls with decayTimer := tickTimer s.wls.decayTimer } }

theorem State.tickTimers_ctx (s : State) (c : Ctx) :
    s.tickTimers.ctx c = { s.ctx c with timer := tickTimer (s.ctx c).timer } := by
  simp [State.tickTimers, State.ctx]

namespace LawsKept

theorem tickTimers (s : State) : LawsKept F s s.tickTimers := by
  have onLink : s.OnLink s.tickTimers := ⟨rfl, fun c => by rw [State.tickTimers_ctx]⟩
  refine ofOnLink onLink fun h => h.onLink onLink (fun c idle => ?_) fun down => ⟨down, h.down down⟩
  rw [State.tickTimers_ctx] at idle ⊢
  obtain ⟨held, timer⟩ := h.idleQuiet c idle
  exact ⟨held, by rw [timer]; rfl⟩

theorem tick (s : State) : LawsKept F s s.tick := by
  unfold State.tick; split
  · exact refl s
  · have stage : LawsKept F s (s.setStage s.rst.stage.tick) :=
      setStage (fun _ _ _ _ => Stage.tick_eq_probation) (fun _ _ _ h => .inr (Stage.tick_eq_ready h)) fun _ _ h => by rw [h]; rfl
    exact stage.trans (tickTimers _)

end LawsKept

end Sys2Proof.Machine
end

section
/-! The sink and the migrations through every command, and the statements about them. -/

namespace Sys2Proof.Machine

variable {F : Ctx → Prop} {s t : State}

namespace LawsKept

/-! ## Commands with a condition of their own -/

theorem execActivate {r b row} (h : execActivate r b row s = .next t) : LawsKept F s t :=
  ofNext h (translated fun g => by
    dsimp only; split
    · exact activateData ..
    · exact activateAlias ..)

theorem execWrite {r b col} (h : execWrite r b col s = .next t) : LawsKept F s t :=
  ofNext h (translated fun _ => (reportWrite ..).after rfl)

theorem execReadAp {r b col} (h : execReadAp r b col s = .next t) : LawsKept F s t :=
  ofNext h (translated fun _ => (closeBank ..).after rfl)

theorem execWriteAp {r b col} (h : execWriteAp r b col s = .next t) : LawsKept F s t :=
  ofNext h (translated fun _ => ((ofView (State.forward_view ..)).trans (reportWrite ..)).trans (closeBank ..))

theorem execPrecharge {r b} (h : execPrecharge r b s = .next t) : LawsKept F s t :=
  ofNext h (translated fun _ => (closeBank ..).after rfl)

theorem execPrechargeAll {r} (h : execPrechargeAll r s = .next t) : LawsKept F s t :=
  ofNext h (translated fun _ => (closeRank ..).after rfl)

theorem execRefresh {r} (h : execRefresh r s = .next t) : LawsKept F s t :=
  ofNext h (translated fun _ => (closeRank ..).after rfl)

theorem execChannelReset (h : execChannelReset s = .next t) : LawsKept F s t := by
  refine ofNext h ?_
  split
  · exact refl s
  · split
    · split
      · exact ofView rfl
      · exact ofView rfl
    · exact ofView rfl

theorem execChannelResetMigration (h : execChannelResetMigration s = .next t) : LawsKept F s t := by
  refine ofNext h ?_
  split
  · exact refl s
  · exact (migrationChannelReset _).after rfl

theorem execChannelResetTable (h : execChannelResetTable s = .next t) : LawsKept F s t := by
  refine ofNext h ?_
  split
  · exact refl s
  · exact (freeAllRetiring _).after rfl

theorem execCloseReportTable (h : execCloseReportTable s = .next t) : LawsKept F s t := by
  refine ofNext h ?_
  split
  · exact refl s
  · exact (tableClose ..).after rfl

theorem execInboundFrame {bytes} (h : execInboundFrame bytes s = .next t) : LawsKept F s t := by
  refine ofNext h ?_
  split
  · exact refl s
  · split
    · exact receive ..
    · exact badFrame s

theorem execErrorNote {n} (h : execErrorNote n s = .next t) : LawsKept F s t := by
  refine ofNext h ?_
  split
  · exact refl s
  · split
    · exact takePassedNote ..
    · split
      · exact badFrame s
      · exact (receive ..).trans (takePassedNote ..)

theorem execTransmitBegin (h : execTransmitBegin s = .next t) : LawsKept F s t := by
  refine ofNext h ?_
  split
  · exact transmitHead s
  · exact refl s

theorem execRetryTimerExpiry (h : execRetryTimerExpiry s = .next t) : LawsKept F s t := by
  refine ofNext h ?_
  split
  · next running => exact retry running.1
  · exact refl s

theorem execDecayBoundary (h : execDecayBoundary s = .next t) : LawsKept F s t := by
  refine ofNext h ?_
  split
  · exact decayBoundary s
  · exact refl s

theorem execLoadComplete (h : execLoadComplete s = .next t) : LawsKept F s t := by
  refine ofNext h ?_
  split
  · exact refl s
  · next reading =>
    have loading : s.mode = .loading := by simpa using (not_or.1 reading).2
    exact loadComplete (by rw [loading]; nofun)

theorem execRequestFrame {bytes} (h : execRequestFrame bytes s = .next t) : LawsKept F s t := by
  refine ofNext h ?_
  split
  · exact refl s
  · exact ofView (State.takeFrame_view ..)

theorem takeRequest (s : State) (q) (d : State → State) (h : ∀ s, LawsKept F s (d s)) : LawsKept F s (s.takeRequest q d) := by
  unfold State.takeRequest; split
  · exact refl s
  · have taken : LawsKept F s (if s.port.awaits q then s else s.acceptRequest 0 q) := by
      split
      · exact refl s
      · exact ofView (State.acceptRequest_view ..)
    dsimp only
    generalize (if s.port.awaits q then s else s.acceptRequest 0 q) = u at taken
    split
    · exact taken.trans (h u)
    · exact taken

end LawsKept

open LawsKept in
/-- R27, R29, R68 to R72, R99, R102, R122: the five laws carry over from a state to the next, whatever the command. -/
theorem exec_keepsLaws {c : Instr} (h : exec c s = .next t) : LawsKept (fun _ => False) s t := by
  cases c with
  | powerOn => exact .ofNext h (ofReset rfl)
  | powerOnResetAssert => exact .ofNext h (ofReset rfl)
  | loadComplete => exact LawsKept.execLoadComplete h
  -- the command path
  | activate => exact LawsKept.execActivate h
  | read => exact .ofNext h (ofView (State.passThrough_view ..))
  | write => exact LawsKept.execWrite h
  | readAp => exact LawsKept.execReadAp h
  | writeAp => exact LawsKept.execWriteAp h
  | precharge => exact LawsKept.execPrecharge h
  | prechargeAll => exact LawsKept.execPrechargeAll h
  | refresh => exact LawsKept.execRefresh h
  | otherCommand => exact .ofNext h (ofView (State.passThrough_view ..))
  | channelReset => exact LawsKept.execChannelReset h
  | channelResetDeassert => exact .ofNext h (ofView (State.setResetLine_view ..))
  -- reports
  | channelResetMigration => exact LawsKept.execChannelResetMigration h
  | channelResetTable => exact LawsKept.execChannelResetTable h
  | sourceWriteReport => exact .ofNext h (takeHeadIf ..)
  | destWriteReport => exact .ofNext h (takeHeadIf ..)
  | closeReportMigration => exact .ofNext h (takeHeadIf ..)
  | closeReportTable => exact LawsKept.execCloseReportTable h
  -- the link
  | inboundFrame => exact LawsKept.execInboundFrame h
  | badFrame => exact .ofNext h (badFrame s)
  | errorNote => exact LawsKept.execErrorNote h
  | copyAccept => exact .ofNext h (takeReply ..)
  | copyRefuse => exact .ofNext h (takeReply ..)
  | copyDone => exact .ofNext h (takeReply ..)
  | fenceAckSet => exact .ofNext h (takeReply ..)
  | fenceAckRelease => exact .ofNext h (takeReply ..)
  | hello => exact .ofNext h (receive ..)
  | helloAck => exact .ofNext h (receive ..)
  | transmitBegin => exact LawsKept.execTransmitBegin h
  -- timers
  | retryTimerExpiry => exact LawsKept.execRetryTimerExpiry h
  | offerTimerExpiry => exact .ofNext h (expire ..)
  | roundTimerExpiry => exact .ofNext h (expire ..)
  | armTimerExpiry => exact .ofNext h (expire ..)
  | fenceTimerExpiry => exact .ofNext h (expire ..)
  | closingFenceTimerExpiry => exact .ofNext h (closingExpiry ..)
  | decayBoundary => exact LawsKept.execDecayBoundary h
  | probationTimerExpiry => exact .ofNext h (probationExpiry s)
  | stageExpired => exact .ofNext h (stageExpiry s)
  -- the Policy Unit and the burn engine
  | retryPassStep => exact .ofNext h (passStep s)
  | nominationTake => exact .ofNext h (takeNomination s)
  | burnComplete => exact .ofNext h (burnCompletes ..)
  | revokeComplete => exact .ofNext h (revokeCompletes ..)
  | burnGeometryComplete => exact .ofNext h (geometryCompletes ..)
  -- requests
  | requestFrame => exact LawsKept.execRequestFrame h
  | tableRead => exact .ofNext h (takeRequest s _ _ fun s => decideTableRead s _)
  | tableFind => exact .ofNext h (takeRequest s _ _ fun s => decideTableFind s _ _ _)
  | release => exact .ofNext h (takeRequest s _ _ fun s => decideRelease s _)
  | slotRead => exact .ofNext h (takeRequest s _ _ fun s => decideSlotRead s _ _ _)
  | slotTestBegin => exact .ofNext h (takeRequest s _ _ fun s => decideTestBegin s _ _ _)
  | slotTestEnd => exact .ofNext h (takeRequest s _ _ fun s => decideTestEnd s _ _ _ _)
  | slotGrade => exact .ofNext h (takeRequest s _ _ fun s => decideSlotGrade s _ _ _ _)
  | contextRead => exact .ofNext h (takeRequest s _ _ fun s => decideContextRead s _)
  | repair => exact .ofNext h (takeRequest s _ _ fun s => decideRepair s _ _ _)
  | move => exact .ofNext h (takeRequest s _ _ fun s => decideMove s _)
  | cancel => exact .ofNext h (takeRequest s _ _ fun s => decideCancel s _)
  | watchRead => exact .ofNext h (takeRequest s _ _ fun s => decideWatchRead s _)
  | watchClear => exact .ofNext h (takeRequest s _ _ fun s => decideWatchClear s _ _ _ _)
  | profileRead => exact .ofNext h (takeRequest s _ _ fun s => decideProfileRead s _)
  | profileEditSelect => exact .ofNext h (takeRequest s _ _ fun s => decideEditSelect s _)
  | profileWrite => exact .ofNext h (takeRequest s _ _ fun s => decideProfileWrite s _ _)
  | profileRunSelect => exact .ofNext h (takeRequest s _ _ fun s => decideRunSelect s _)
  | configure => exact .ofNext h (takeRequest s _ _ fun s => decideConfigure s _ _)
  | stage => exact .ofNext h (takeRequest s _ _ fun s => decideStage s _)
  | burn => exact .ofNext h (takeRequest s _ _ fun s => decideBurn s)
  | revoke => exact .ofNext h (takeRequest s _ _ fun s => decideRevoke s _)
  | burnGeometry => exact .ofNext h (takeRequest s _ _ fun s => decideBurnGeometry s)
  | lockStore => exact .ofNext h (takeRequest s _ _ fun s => decideLockStore s)
  | storeRead => exact .ofNext h (takeRequest s _ _ fun s => decideStoreRead s _)
  | storeStatus => exact .ofNext h (takeRequest s _ _ fun s => decideStoreStatus s)
  | conditionRead => exact .ofNext h (takeRequest s _ _ fun s => decideConditionRead s)
  | conditionClear => exact .ofNext h (takeRequest s _ _ fun s => decideConditionClear s _)
  | alertMask => exact .ofNext h (takeRequest s _ _ fun s => decideAlertMask s _)
  | warmReset => exact .ofNext h (takeRequest s _ _ fun s => decideWarmReset s)
  -- the parts of a warm reset
  | warmResetMigration => exact .ofNext h (takeWarmPart (warmMigration s))
  | warmResetLink => exact .ofNext h (takeWarmPart (warmLink s))
  | warmResetWatch => exact .ofNext h (takeWarmPart (noItems s))
  | warmResetSlots => exact .ofNext h (takeWarmPart (endTests s))
  | warmResetStore => exact .ofNext h (takeWarmPart (cancelStage s))
  | warmResetConditions => exact .ofNext h (takeWarmPart (ofView (State.clearConditions_view ..)))

/-- The five laws carry over in every step. -/
theorem step_keepsLaws (h : step s = .next t) : LawsKept (fun _ => False) s t := by
  unfold step at h
  split at h
  · cases h
    exact .tick s
  · next c rest _ =>
    have taken : LawsKept (fun _ => False) s { s with pending := rest } := .ofView rfl
    exact taken.trans (exec_keepsLaws h)

/-- Settles O8: what takes a slot finds it in another state than SINK, and what the tables name next they name already. -/
theorem stepKeepsSink : Obligations.StepKeepsSink :=
  fun _ _ hs h => (step_keepsLaws h).sink hs

/-- Settles O11: each of the four laws by itself. -/
theorem stepKeepsMigrationsTied : Obligations.StepKeepsMigrationsTied := by
  intro s t h
  have kept := step_keepsLaws h
  refine ⟨kept.keys, fun rounds => ?_, kept.quiet, kept.tied⟩
  rw [State.roundsBounded_iff] at rounds ⊢
  exact kept.rounds rounds

end Sys2Proof.Machine
end

section
/-! ACTIVATE on the row of a slot (R42, R51, R52). -/

namespace Sys2Proof.Machine

variable {s : State} {g : Geometry} {r : Rank} {b : Bank} {k : SlotNo} {a : Nat}

theorem State.translating_of_translates (h : s.translates r g) : s.translating r = some g := by
  obtain ⟨hm, hp, hl, hr⟩ := h
  simp [State.translating, State.geometry_of_active hm, hp, hl, Geometry.hasRank, hr]

theorem Geometry.slotOf_slotRow (g : Geometry) (k : SlotNo) : g.slotOf (g.slotRow k) = k := by
  apply Fin.ext
  simp [Geometry.slotOf, Geometry.slotRow]

theorem State.closeBank_of_closed (h : s.record r b = none) : s.closeBank r b = s := by rw [State.closeBank, h]

/-- R51, R52: on a CLOSED bank the answer of the directory is all there is to an ACTIVATE on the row of a slot. -/
theorem exec_activate_alias {row : Nat} (h : s.translates r g) (closed : s.record r b = none)
    (spare : g.issuedRow row = g.slotRow k) :
    exec (.activate r b row) s =
      let x := s.aliasAnswer g r b (g.slotRow k)
      .next (if x.role = .sunk then (s.openBank r b x).violation else s.openBank r b x) := by
  have notData : ¬g.slotRow k < g.dataRows := (Nat.le_add_right ..).not_gt
  have unfolded : exec (.activate r b row) s = execActivate r b row s := rfl
  simp only [unfolded, execActivate, State.translating_of_translates h, spare, if_neg notData,
    State.activateAlias, State.closeBank_of_closed closed]

theorem State.aliasAnswer_testing {f : Bool} (h : (s.slot r b k).state = .testing f) :
    s.aliasAnswer g r b (g.slotRow k) = ⟨g.slotRow k, g.slotRow k, .aliasTest⟩ := by
  rw [State.aliasAnswer, g.slotOf_slotRow, h]

theorem State.aliasAnswer_target {i : EntryIx} {c : Ctx} (h : (s.slot r b k).state = .target i)
    (hc : (s.entry i).context = some c) :
    s.aliasAnswer g r b (g.slotRow k) = ⟨g.slotRow k, g.slotRow k, .dest c⟩ := by
  simp only [State.aliasAnswer, g.slotOf_slotRow, h, hc]

theorem State.aliasAnswer_sunk (h : (s.slot r b k).state = .sink ∨ (s.slot r b k).state = .free ∨
    (∃ i, (s.slot r b k).state = .mapped i) ∨ (∃ i, (s.slot r b k).state = .permanent i)) :
    s.aliasAnswer g r b (g.slotRow k) = ⟨g.slotRow k, g.dataRows, .sunk⟩ := by
  rcases h with h | h | ⟨i, h⟩ | ⟨i, h⟩ <;> rw [State.aliasAnswer, g.slotOf_slotRow, h]

/-- Settles O25: the three ways in which the directory answers. -/
theorem activateObeysTheAliasRule : Obligations.ActivateObeysTheAliasRule := by
  intro s g r b row k h spare closed
  have answered := exec_activate_alias (row := row) h closed spare
  have issued : row % g.n = g.slotRow k := spare
  dsimp only
  rw [issued]
  refine ⟨fun f testing => ?_, fun i c target named => ?_, fun sunk => ?_⟩
  · rw [answered, State.aliasAnswer_testing testing]; rfl
  · rw [answered, State.aliasAnswer_target target named]; rfl
  · rw [answered, State.aliasAnswer_sunk sunk]; rfl

end Sys2Proof.Machine
end

section
/-! The slot tests and SLOT_GRADE (R38 to R40), owner by owner. -/

namespace Sys2Proof.Machine

/-! ## The operands -/

variable {g : Geometry} {r b k v : Byte}

theorem slotPlaceOf_eq_none (h : g.ranks.toNat ≤ r.toNat ∨ 16 ≤ b.toNat ∨ 16 ≤ k.toNat) : slotPlaceOf g r b k = none := by
  unfold slotPlaceOf
  rcases h with h | h | h
  · have rank : rankOf g r = none := by
      unfold rankOf indexOf
      split
      · next x hx =>
        split at hx
        · cases hx
          simp [Geometry.hasRank, h]
        · cases hx
      · rfl
    rw [rank]
  · rw [indexOf_eq_none h]
    cases rankOf g r <;> rfl
  · rw [indexOf_eq_none h]
    cases rankOf g r <;> cases indexOf 16 b <;> rfl

theorem slotPlaceOf_ofNat {r : Rank} (hr : r.val < g.ranks.toNat) (b : Bank) (k : SlotNo) :
    slotPlaceOf g (BitVec.ofNat 8 r.val) (BitVec.ofNat 8 b.val) (BitVec.ofNat 8 k.val) = some ⟨r, b, k⟩ := by
  have rank : rankOf g (BitVec.ofNat 8 r.val) = some r := by
    simp [rankOf, indexOf_ofNat r (by decide), Geometry.hasRank, hr]
  rw [slotPlaceOf, rank, indexOf_ofNat b (by decide), indexOf_ofNat k (by decide)]

theorem gradeOf_eq_none (h : 3 ≤ v.toNat) : gradeOf v = none := by
  unfold gradeOf; split
  case h_4 => rfl
  all_goals omega

theorem gradeOf_eq_some (h : v.toNat < 3) : ∃ x, gradeOf v = some x := by
  have small : v.toNat = 0 ∨ v.toNat = 1 ∨ v.toNat = 2 := by omega
  rcases small with h | h | h <;> simp [gradeOf, h]

theorem verdictOf_eq_none (h : v = 0 ∨ 3 ≤ v.toNat) : verdictOf v = none := by
  unfold verdictOf
  rcases h with rfl | h
  · rfl
  · split
    case h_3 => rfl
    all_goals omega

theorem gradeArgsOf_eq_none (h : slotPlaceOf g r b k = none ∨ gradeOf v = none) : gradeArgsOf g r b k v = none := by
  unfold gradeArgsOf
  rcases h with h | h
  · rw [h]
  · rw [h]; cases slotPlaceOf g r b k <;> rfl

theorem testEndOf_eq_none (h : slotPlaceOf g r b k = none ∨ verdictOf v = none) : testEndOf g r b k v = none := by
  unfold testEndOf
  rcases h with h | h
  · rw [h]
  · rw [h]; cases slotPlaceOf g r b k <;> rfl

/-! ## The decisions -/

section
variable {s : State} {h : InHand} {p : SlotPlace}

/-- R182: the answer to the request in hand once a slot has been written. -/
theorem State.hasInHand.answer_setSlot {q : Request} (hh : s.hasInHand h q) (r : Rank) (b : Bank) (k : SlotNo) (x : SlotRecord)
    (st : Status) (y : Payload) : (s.setSlot r b k x).answer st y = (s.setSlot r b k x).decided h st y := by
  obtain ⟨-, inHand, -, -⟩ := hh
  exact State.answer_eq_decided (s := s.setSlot r b k x) inHand st y

/-! ### SLOT_GRADE (R40) -/

section
variable (hh : s.hasInHand h (.slotGrade r b k v))
include hh

theorem exec_slotGrade : exec (commandOf (.slotGrade r b k v)) s = .next (s.decideSlotGrade r b k v) :=
  congrArg _ (State.takeRequest_inHand hh _)

theorem exec_slotGrade_of_inactive (hm : ∀ g, s.mode ≠ .active g) :
    exec (commandOf (.slotGrade r b k v)) s = .next (s.decided h .notReady .none) := by
  have inactive : s.geometry = none := by
    unfold State.geometry Mode.geometry
    split
    · next g hg => exact absurd hg (hm g)
    · rfl
  rw [exec_slotGrade hh, State.decideSlotGrade, State.whenActive, inactive, ← hh.refuse_eq]

theorem exec_slotGrade_of_none (hm : s.mode = .active g) (none : gradeArgsOf g r b k v = none) :
    exec (commandOf (.slotGrade r b k v)) s = .next (s.decided h .badArgument .none) := by
  rw [exec_slotGrade hh, State.decideSlotGrade, State.whenActive_of_active hm, none, State.whenSome, hh.refuse_eq]

theorem exec_slotGrade_of_some {x : Grade} (hm : s.mode = .active g) (place : slotPlaceOf g r b k = some p)
    (grade : gradeOf v = some x) :
    exec (commandOf (.slotGrade r b k v)) s = .next (
      if (s.slot p.rank p.bank p.slot).state = .free then (s.setSlot p.rank p.bank p.slot ⟨.free, x⟩).decided h .ok .none
      else s.decided h .state .none) := by
  rw [exec_slotGrade hh, State.decideSlotGrade, State.whenActive_of_active hm, gradeArgsOf, place, grade, State.whenSome]
  dsimp only
  split
  · next free => rw [if_pos free, hh.answer_setSlot]
  · next other => rw [if_neg other, hh.refuse_eq]

end

/-! ### SLOT_TEST_BEGIN (R38) -/

section
variable (hh : s.hasInHand h (.slotTestBegin r b k))
include hh

theorem exec_slotTestBegin : exec (commandOf (.slotTestBegin r b k)) s = .next (s.decideTestBegin r b k) :=
  congrArg _ (State.takeRequest_inHand hh _)

theorem exec_slotTestBegin_of_none (hm : s.mode = .active g) (none : slotPlaceOf g r b k = none) :
    exec (commandOf (.slotTestBegin r b k)) s = .next (s.decided h .badArgument .none) := by
  rw [exec_slotTestBegin hh, State.decideTestBegin, State.whenActive_of_active hm, none, State.whenSome, hh.refuse_eq]

theorem exec_slotTestBegin_of_some (hm : s.mode = .active g) (place : slotPlaceOf g r b k = some p) :
    exec (commandOf (.slotTestBegin r b k)) s = .next (
      if (s.slot p.rank p.bank p.slot).state = .free then
        (s.setSlot p.rank p.bank p.slot ⟨.testing false, (s.slot p.rank p.bank p.slot).grade⟩).decided h .ok .none
      else s.decided h .state .none) := by
  rw [exec_slotTestBegin hh, State.decideTestBegin, State.whenActive_of_active hm, place, State.whenSome]
  split
  · next free => rw [if_pos free, State.setSlotState, hh.answer_setSlot]
  · next other => rw [if_neg other, hh.refuse_eq]

end

/-! ### SLOT_TEST_END (R39) -/

section
variable (hh : s.hasInHand h (.slotTestEnd r b k v))
include hh

theorem exec_slotTestEnd : exec (commandOf (.slotTestEnd r b k v)) s = .next (s.decideTestEnd r b k v) :=
  congrArg _ (State.takeRequest_inHand hh _)

theorem exec_slotTestEnd_of_none (hm : s.mode = .active g) (none : testEndOf g r b k v = none) :
    exec (commandOf (.slotTestEnd r b k v)) s = .next (s.decided h .badArgument .none) := by
  rw [exec_slotTestEnd hh, State.decideTestEnd, State.whenActive_of_active hm, none, State.whenSome, hh.refuse_eq]

variable {pass : Bool} (hm : s.mode = .active g) (place : slotPlaceOf g r b k = some p) (verdict : verdictOf v = some pass)
include hm place verdict

theorem exec_slotTestEnd_of_testing {f : Bool} (testing : (s.slot p.rank p.bank p.slot).state = .testing f) :
    exec (commandOf (.slotTestEnd r b k v)) s = .next
      ((s.setSlot p.rank p.bank p.slot ⟨.free, testGrade pass f⟩).decided h .ok (.grade (testGrade pass f))) := by
  simp only [exec_slotTestEnd hh, State.decideTestEnd, State.whenActive_of_active hm, testEndOf, place, verdict, State.whenSome,
    testing, hh.answer_setSlot]

theorem exec_slotTestEnd_of_other (other : ∀ f, (s.slot p.rank p.bank p.slot).state ≠ .testing f) :
    exec (commandOf (.slotTestEnd r b k v)) s = .next (s.decided h .state .none) := by
  rw [exec_slotTestEnd hh, State.decideTestEnd, State.whenActive_of_active hm, testEndOf, place, verdict, State.whenSome]
  split
  · exact absurd ‹_› (other _)
  · rw [hh.refuse_eq]

end

end

/-- Settles O53: what each of the three requests is answered with, by its operands and the state of the slot they name. -/
theorem slotsAreTestedAndGraded : Obligations.SlotsAreTestedAndGraded := by
  intro s h
  refine ⟨fun r b k v inactive hh => exec_slotGrade_of_inactive hh inactive, fun g hm => ⟨fun r b k v out => ?_,
    fun r b k v out => ?_, fun r b k hh => ?_, fun r b k hr => ?_⟩⟩
  · have none := slotPlaceOf_eq_none out
    exact ⟨(exec_slotGrade_of_none · hm (gradeArgsOf_eq_none (.inl none))), (exec_slotTestBegin_of_none · hm none),
      (exec_slotTestEnd_of_none · hm (testEndOf_eq_none (.inl none)))⟩
  · exact ⟨(exec_slotGrade_of_none · hm (gradeArgsOf_eq_none (.inr (gradeOf_eq_none out)))),
      (exec_slotTestEnd_of_none · hm (testEndOf_eq_none (.inr (verdictOf_eq_none (.inr out)))))⟩
  · exact exec_slotTestEnd_of_none hh hm (testEndOf_eq_none (.inr (verdictOf_eq_none (.inl rfl))))
  · have place := slotPlaceOf_ofNat hr b k
    have graded {x v} (grade : gradeOf v = some x) (hh) := exec_slotGrade_of_some (h := h) hh hm place grade
    have begun (hh) := exec_slotTestBegin_of_some (h := h) hh hm place
    refine ⟨fun free => ⟨?_, ?_, ?_, ?_⟩, fun other => ⟨fun v hv hh => ?_, fun hh => ?_⟩,
      fun clean hh => exec_slotTestEnd_of_testing hh hm place rfl clean,
      fun seen hh => exec_slotTestEnd_of_testing hh hm place rfl seen,
      fun f failed hh => exec_slotTestEnd_of_testing hh hm place rfl failed,
      fun other => ⟨(exec_slotTestEnd_of_other · hm place rfl other), (exec_slotTestEnd_of_other · hm place rfl other)⟩⟩
    · exact fun hh => (graded rfl hh).trans (by rw [if_pos free])
    · exact fun hh => (graded rfl hh).trans (by rw [if_pos free])
    · exact fun hh => (graded rfl hh).trans (by rw [if_pos free])
    · exact fun hh => (begun hh).trans (by rw [if_pos free])
    · obtain ⟨x, grade⟩ := gradeOf_eq_some hv
      exact (graded grade hh).trans (by rw [if_neg other])
    · exact (begun hh).trans (by rw [if_neg other])

end Sys2Proof.Machine
end

section
/-!
SUPPORT. The command path: when a command of the channel passes through (R46, R47, R64 to R66, R172), what each command is under
translation, and the reports and closes it makes (R55 to R59, R74).
-/

namespace Sys2Proof.Machine

variable {s : State} {g : Geometry} {r : Rank} {b : Bank} {x : ChannelCommand} {y : OpenRow}

/-! ## Pass-through -/

/-- The command of the table that puts a channel command on the bus. -/
def ChannelCommand.instr : ChannelCommand → Instr
  | .activate r b row => .activate r b row
  | .read r b c => .read r b c
  | .write r b c => .write r b c
  | .readAp r b c => .readAp r b c
  | .writeAp r b c => .writeAp r b c
  | .precharge r b => .precharge r b
  | .prechargeAll r => .prechargeAll r
  | .refresh r => .refresh r
  | .other k => .otherCommand k

/-- The rank whose translation a channel command asks for; READ and other commands ask for none (R46, R56). -/
def ChannelCommand.translatedRank : ChannelCommand → Option Rank
  | .activate r _ _ => some r
  | .read _ _ _ => none
  | .write r _ _ => some r
  | .readAp r _ _ => some r
  | .writeAp r _ _ => some r
  | .precharge r _ => some r
  | .prechargeAll r => some r
  | .refresh r => some r
  | .other _ => none

theorem busCommand_eq_some {c : Instr} : busCommand c = some x ↔ c = x.instr := by
  constructor
  · intro h
    unfold busCommand at h
    split at h <;> cases h <;> rfl
  · rintro rfl
    cases x <;> rfl

theorem State.geometry_of_inactive (inactive : ∀ g, s.mode ≠ .active g) : s.geometry = none := by
  cases mode : s.mode with
  | active g => exact absurd mode (inactive g)
  | _ => rw [State.geometry, mode]; rfl

theorem State.translating_eq_some : s.translating r = some g ↔ s.translates r g := by
  refine ⟨fun h => ?_, State.translating_of_translates⟩
  cases hm : s.mode with
  | loading => simp [State.translating, State.geometry_of_inactive, hm] at h
  | unconfigured => simp [State.translating, State.geometry_of_inactive, hm] at h
  | active g' =>
    simp only [State.translating, State.geometry_of_active hm, Option.ite_none_left_eq_some, Bool.or_eq_true, not_or,
      Bool.not_eq_true, Bool.not_eq_false', Option.some.injEq] at h
    obtain ⟨⟨⟨power, line⟩, rank⟩, rfl⟩ := h
    exact ⟨hm, power, line, of_decide_eq_true rank⟩

theorem State.translating_eq_none (h : ∀ g, ¬s.translates r g) : s.translating r = none :=
  Option.eq_none_iff_forall_ne_some.2 fun g some => h g (State.translating_eq_some.1 some)

/-- R46: outside translation a command of the channel is forwarded only. -/
theorem exec_of_not_translates (h : ∀ r, x.translatedRank = some r → ∀ g, ¬s.translates r g) :
    exec x.instr s = .next (s.passThrough x) := by
  have untranslated (r : Rank) (named : x.translatedRank = some r) : s.translating r = none :=
    State.translating_eq_none (h r named)
  cases x with
  | read r b col => rfl
  | other k => rfl
  | activate r b row => simp only [ChannelCommand.instr, exec, execActivate, untranslated r rfl]
  | write r b col => simp only [ChannelCommand.instr, exec, execWrite, untranslated r rfl]
  | readAp r b col => simp only [ChannelCommand.instr, exec, execReadAp, untranslated r rfl]
  | writeAp r b col => simp only [ChannelCommand.instr, exec, execWriteAp, untranslated r rfl]
  | precharge r b => simp only [ChannelCommand.instr, exec, execPrecharge, untranslated r rfl]
  | prechargeAll r => simp only [ChannelCommand.instr, exec, execPrechargeAll, untranslated r rfl]
  | refresh r => simp only [ChannelCommand.instr, exec, execRefresh, untranslated r rfl]

/-- R65, R172: a command that passes through raises EARLY_TRAFFIC in LOADING, unless the power-on reset input is asserted. -/
theorem State.passThrough_eq (s : State) (x : ChannelCommand) :
    s.passThrough x = if s.powerHeld = false ∧ s.mode = .loading then (s.drives x).raise .earlyTraffic else s.drives x := by
  by_cases early : s.powerHeld = false ∧ s.mode = .loading
  · obtain ⟨power, loading⟩ := id early
    rw [if_pos early, State.passThrough, State.raiseIf, power, loading]
    rfl
  · have quiet : (!s.powerHeld && s.mode == .loading) = false := by simpa using early
    simp only [State.passThrough, State.raiseIf, if_neg early, quiet]
    rfl

/-- Settles O23: what R46, R47, R64 to R66 and R172 name leaves no geometry to translate under. -/
theorem commandsPassThrough : Obligations.CommandsPassThrough := by
  intro c x s bus
  obtain rfl := busCommand_eq_some.1 bus
  refine ⟨fun off => ?_, fun power loading => ?_, fun w one named => ?_, fun notLoading plain => ?_⟩
  · have untranslated (r : Rank) (g : Geometry) : ¬s.translates r g := by
      rintro ⟨mode, power, line, -⟩
      simp [mode, power, line] at off
    have quiet : ¬(s.powerHeld = false ∧ s.mode = .loading) := by
      rintro ⟨power, mode⟩
      simp [mode, power] at off
    rw [exec_of_not_translates fun r _ => untranslated r, State.passThrough_eq, if_neg quiet]
  · have untranslated (r : Rank) (g : Geometry) : ¬s.translates r g := by
      rintro ⟨mode, -⟩
      cases loading.symm.trans mode
    rw [exec_of_not_translates fun r _ => untranslated r, State.passThrough_eq, if_pos ⟨power, loading⟩]
  · have absent (g : Geometry) : ¬s.translates 1 g := by
      rintro ⟨mode, -, -, rank⟩
      cases one.symm.trans mode
      exact absurd rank (Nat.lt_irrefl 1)
    have second (r : Rank) (asked : x.translatedRank = some r) : r = 1 := by
      cases x <;> simp_all [ChannelCommand.instr, ChannelCommand.translatedRank]
    have quiet : ¬(s.powerHeld = false ∧ s.mode = .loading) := by simp [one]
    rw [exec_of_not_translates fun r asked => second r asked ▸ absent, State.passThrough_eq, if_neg quiet]
  · have asksNone : x.translatedRank = none := by
      cases x <;> simp_all [ChannelCommand.instr, ChannelCommand.translatedRank]
    have quiet : ¬(s.powerHeld = false ∧ s.mode = .loading) := fun early => notLoading early.2
    rw [exec_of_not_translates (by simp [asksNone]), State.passThrough_eq, if_neg quiet]

/-- Settles O30: a line already asserted keeps its setting, which is all that is tracked outside ACTIVE. -/
theorem channelResetClosesTheRecords : Obligations.ChannelResetClosesTheRecords := by
  intro s
  refine ⟨fun g mode power line => ⟨s.channelResetEvent.setResetLine true, ?_, fun r b => ?_, rfl⟩, fun inactive => ?_, rfl⟩
  · have unfolded : exec .channelReset s = execChannelReset s := rfl
    simp [unfolded, execChannelReset, State.geometry_of_active mode, power, line]
  · simp [State.record, State.setResetLine, State.channelResetEvent, recordsClosed]
  · have unfolded : exec .channelReset s = execChannelReset s := rfl
    by_cases line : s.ctr.resetLine = true
    · simp only [unfolded, execChannelReset, if_pos line]
      rw [← line]
    · simp only [unfolded, execChannelReset, if_neg line, State.geometry_of_inactive inactive]
      rfl

/-! ## Under translation -/

section
variable (h : s.translates r g)
include h

theorem exec_write (col : Column) : exec (.write r b col) s = .next ((s.drives (.write r b col)).reportWrite g r b col) := by
  have unfolded : exec (.write r b col) s = execWrite r b col s := rfl
  rw [unfolded, execWrite, State.translating_of_translates h]; rfl

theorem exec_readAp (col : Column) : exec (.readAp r b col) s = .next ((s.drives (.readAp r b col)).closeBank r b) := by
  have unfolded : exec (.readAp r b col) s = execReadAp r b col s := rfl
  rw [unfolded, execReadAp, State.translating_of_translates h]; rfl

theorem exec_writeAp (col : Column) :
    exec (.writeAp r b col) s = .next (((s.drives (.writeAp r b col)).reportWrite g r b col).closeBank r b) := by
  have unfolded : exec (.writeAp r b col) s = execWriteAp r b col s := rfl
  rw [unfolded, execWriteAp, State.translating_of_translates h]; rfl

theorem exec_precharge : exec (.precharge r b) s = .next ((s.drives (.precharge r b)).closeBank r b) := by
  have unfolded : exec (.precharge r b) s = execPrecharge r b s := rfl
  rw [unfolded, execPrecharge, State.translating_of_translates h]; rfl

theorem exec_prechargeAll : exec (.prechargeAll r) s = .next ((s.drives (.prechargeAll r)).closeRank r) := by
  have unfolded : exec (.prechargeAll r) s = execPrechargeAll r s := rfl
  rw [unfolded, execPrechargeAll, State.translating_of_translates h]; rfl

theorem exec_refresh : exec (.refresh r) s = .next ((s.drives (.refresh r)).closeRank r) := by
  have unfolded : exec (.refresh r) s = execRefresh r s := rfl
  rw [unfolded, execRefresh, State.translating_of_translates h]; rfl

theorem exec_activate_data {row : Nat} (data : row % g.n < g.dataRows) :
    exec (.activate r b row) s = .next (s.activateData g ⟨r, b, row % g.n⟩) := by
  have unfolded : exec (.activate r b row) s = execActivate r b row s := rfl
  have data : g.issuedRow row < g.dataRows := data
  simp only [unfolded, execActivate, State.translating_of_translates h, if_pos data]; rfl

theorem exec_activate_spare {row : Nat} (spare : ¬row % g.n < g.dataRows) :
    exec (.activate r b row) s = .next (s.activateAlias g r b (row % g.n)) := by
  have unfolded : exec (.activate r b row) s = execActivate r b row s := rfl
  have spare : ¬g.issuedRow row < g.dataRows := spare
  simp only [unfolded, execActivate, State.translating_of_translates h, if_neg spare]; rfl

end

/-! ## Reports (R55, R59, R74) -/

theorem State.makeReport_of_room (room : s.mge.reports.length < 32) (x : Report) :
    s.makeReport x = s.setReports (s.mge.reports ++ [x]) := by
  have room : s.mge.reports.length < Config.reportCapacity := room
  simp only [State.makeReport, if_pos room]

theorem State.makeReport_of_full (full : 32 ≤ s.mge.reports.length) (x : Report) :
    s.makeReport x = s.takeHeadReport.setReports (s.takeHeadReport.mge.reports ++ [x]) := by
  have full : ¬s.mge.reports.length < Config.reportCapacity := Nat.not_lt.2 full
  simp only [State.makeReport, if_neg full]

/-- R74: the report at the head has an event of its own that takes it. -/
theorem exec_commandOfReport {x : Report} {rest : List Report} (h : s.mge.reports = x :: rest) :
    exec (commandOfReport x) s = .next s.takeHeadReport := by
  have taken {kind : Report → Bool} (hk : kind x = true) : s.takeHeadIf kind = s.takeHeadReport := by
    simp only [State.takeHeadIf, h, hk, if_true]
  cases x with
  | sourceWrite => exact congrArg _ (taken rfl)
  | destWrite => exact congrArg _ (taken rfl)
  | close => exact congrArg _ (taken rfl)

/-- R74: what a report made into a full queue finds: the head, at least, is taken. -/
theorem State.takeHeadReport_reports_lt {x : Report} {rest : List Report} (h : s.mge.reports = x :: rest) :
    s.takeHeadReport.mge.reports.length < s.mge.reports.length := by
  have taken := s.takeHeadReport_reports
  rw [h] at taken ⊢
  exact Nat.lt_succ_of_le taken

section
variable (opened : s.record r b = some y)
include opened

theorem State.reportWrite_source {c : Ctx} (role : y.role = .source c) (col : Column) :
    s.reportWrite g r b col = s.makeReport (.sourceWrite c r b y.issued (blockOf col)) := by
  obtain ⟨issued, physical, kind⟩ := y
  cases role
  rw [State.reportWrite, opened]

theorem State.reportWrite_dest {c : Ctx} (role : y.role = .dest c) (col : Column) :
    s.reportWrite g r b col = s.makeReport (.destWrite c r b (y.physical - g.dataRows) (blockOf col)) := by
  obtain ⟨issued, physical, kind⟩ := y
  cases role
  rw [State.reportWrite, opened]

theorem State.closeBank_of_open :
    s.closeBank r b =
      ((s.makeReport (.close r b y.issued y.physical y.role)).reportCloseToTable ⟨r, b, y.physical⟩).setRecord r b none := by
  rw [State.closeBank, opened]

theorem State.closeBank_of_room (room : s.mge.reports.length < 32) :
    s.closeBank r b = { s.setRecord r b none with
      mge := { s.mge with reports := s.mge.reports ++ [.close r b y.issued y.physical y.role] }
      rmt := { s.rmt with closes := s.rmt.closes ++ [⟨r, b, y.physical⟩] } } := by
  rw [State.closeBank_of_open opened, State.makeReport_of_room room]; rfl

end

/-- R55: in the other roles, and on a CLOSED bank, a write makes no report. -/
theorem State.reportWrite_none
    (silent : ∀ y, s.record r b = some y → y.role = .plain ∨ y.role = .aliasTest ∨ y.role = .sunk) (col : Column) :
    s.reportWrite g r b col = s := by
  unfold State.reportWrite
  split
  · next c record => simpa using silent _ record
  · next c record => simpa using silent _ record
  · rfl

/-- Settles O27: in a full queue the report is made on the state that the head's own event leaves. -/
theorem writesAreReportedByRole : Obligations.WritesAreReportedByRole := by
  intro s g r b col h
  dsimp only
  have silence {x} (silent : ∀ y, s.record r b = some y → y.role = .plain ∨ y.role = .aliasTest ∨ y.role = .sunk) :
      (s.drives x).reportWrite g r b col = s.drives x := State.reportWrite_none (s := s.drives x) silent col
  refine ⟨fun room => ⟨fun y c opened role => ?_, fun y c opened role => ?_, fun silent => ?_⟩,
    fun x rest y queue full opened => ?_, fun closed => ?_⟩
  · rw [exec_write h, State.reportWrite_source (s := s.drives _) opened role, State.makeReport_of_room (s := s.drives _) room]; rfl
  · rw [exec_write h, State.reportWrite_dest (s := s.drives _) opened role, State.makeReport_of_room (s := s.drives _) room]; rfl
  · rw [exec_write h, silence silent]
  · have taken (x') : exec (commandOfReport x) (s.drives x') = .next (s.drives x').takeHeadReport ∧
        (s.drives x').takeHeadReport.mge.reports.length < s.mge.reports.length :=
      ⟨exec_commandOfReport (s := s.drives x') queue, State.takeHeadReport_reports_lt (s := s.drives x') queue⟩
    refine ⟨fun c role => ⟨_, taken _, ?_⟩, fun c role => ⟨_, taken _, ?_⟩, fun silent => ?_, _, taken _, ?_⟩
    · rw [exec_write h, State.reportWrite_source (s := s.drives _) opened role, State.makeReport_of_full (s := s.drives _) full]; rfl
    · rw [exec_write h, State.reportWrite_dest (s := s.drives _) opened role, State.makeReport_of_full (s := s.drives _) full]; rfl
    · rw [exec_write h, silence (by simpa [opened] using silent)]
    · rw [exec_precharge h, State.closeBank_of_open (s := s.drives _) opened, State.makeReport_of_full (s := s.drives _) full]; rfl
  · rw [exec_write h, silence (by simp [closed])]

/-- Settles O28: the report of a WRITE-AP stands before that of its close, and both find room. -/
theorem bankClosesAreReported : Obligations.BankClosesAreReported := by
  intro s g r b col h room
  dsimp only
  have silence {x} (silent : ∀ y, s.record r b = some y → y.role = .plain ∨ y.role = .aliasTest ∨ y.role = .sunk) :
      (s.drives x).reportWrite g r b col = s.drives x := State.reportWrite_none (s := s.drives x) silent col
  have less {x} : (s.drives x).mge.reports.length < 32 := Nat.lt_succ_of_lt room
  have lessAfter {x z} : ((s.drives x).setReports ((s.drives x).mge.reports ++ [z])).mge.reports.length < 32 := by
    simpa [State.setReports, State.drives] using Nat.succ_lt_succ room
  refine ⟨fun y opened => ⟨?_, ?_, fun c role => ?_, fun c role => ?_, fun silent => ?_⟩, fun closed => ⟨?_, ?_, ?_⟩⟩
  · rw [exec_readAp h, State.closeBank_of_room (s := s.drives _) opened less, List.append_nil]
  · rw [exec_precharge h, State.closeBank_of_room (s := s.drives _) opened less, List.append_nil]
  · rw [exec_writeAp h, State.reportWrite_source (s := s.drives _) opened role, State.makeReport_of_room less,
      State.closeBank_of_room (s := (s.drives _).setReports _) opened lessAfter]; rfl
  · rw [exec_writeAp h, State.reportWrite_dest (s := s.drives _) opened role, State.makeReport_of_room less,
      State.closeBank_of_room (s := (s.drives _).setReports _) opened lessAfter]; rfl
  · rw [exec_writeAp h, silence (by simpa [opened] using silent),
      State.closeBank_of_room (s := s.drives _) opened less, List.append_nil]
  · rw [exec_readAp h, State.closeBank_of_closed (s := s.drives _) closed]
  · rw [exec_precharge h, State.closeBank_of_closed (s := s.drives _) closed]
  · rw [exec_writeAp h, silence (by simp [closed]),
      State.closeBank_of_closed (s := s.drives _) closed]

end Sys2Proof.Machine
end

section
/-! PRECHARGE-ALL and REFRESH: every OPEN bank of a rank closes, by bank (R58, R59). -/

namespace Sys2Proof.Machine

variable {s : State} {r : Rank} {b : Bank} {y : OpenRow}

/-! ## What taking a report leaves alone -/

/-- What the Migration Engine's part of a report cannot touch: the translator, and the close reports made to the Remap Table. -/
def State.path (s : State) : Translator × List CloseReport := (s.ctr, s.rmt.closes)

namespace State

variable (s : State) (c : Ctx) (j : Job)

@[simp] theorem makeMsg_path (m) : (s.makeMsg c m).path = s.path := by
  unfold State.makeMsg State.queueTail
  split
  · split <;> rfl
  · rfl

@[simp] theorem setEntry_path (i e) : (s.setEntry i e).path = s.path := rfl
@[simp] theorem bumpGeneration_path : s.bumpGeneration.path = s.path := rfl
@[simp] theorem removeItem_path (k) : (s.removeItem k).path = s.path := rfl
@[simp] theorem setInRepair_path (k x) : (s.setInRepair k x).path = s.path := rfl
@[simp] theorem setLastResult_path (x) : (s.setLastResult c x).path = s.path := rfl
@[simp] theorem dropHeld_path : (s.dropHeld c).path = s.path := rfl
@[simp] theorem enterIdle_path : (s.enterIdle c j).path = s.path := rfl
@[simp] theorem enterState_path (st) : (s.enterState c st j).path = s.path := rfl
@[simp] theorem raise_path (k) : (s.raise k).path = s.path := rfl
@[simp] theorem raiseIf_path (p k) : (s.raiseIf p k).path = s.path := by unfold State.raiseIf; split <;> rfl

@[simp] theorem startRound_path : (s.startRound c j).path = s.path := by simp [State.startRound]
@[simp] theorem requestFence_path : (s.requestFence c j).path = s.path := by simp [State.requestFence]

@[simp] theorem abortSlot_path (reason) : (s.abortSlot j reason).path = s.path := by unfold State.abortSlot; split <;> rfl

@[simp] theorem abortChanges_path (reason) : (s.abortChanges c j reason).path = s.path := by simp [State.abortChanges]

@[simp] theorem abort_path (reason) : (s.abort c reason).path = s.path := by
  unfold State.abort State.abortMessages
  split
  · rfl
  · split
    · simp
    · split <;> simp

@[simp] theorem cutoverSlots_path : (s.cutoverSlots j).path = s.path := by
  unfold State.cutoverSlots
  dsimp only
  split <;> rfl

@[simp] theorem cutoverChanges_path : (s.cutoverChanges c j).path = s.path := by simp [State.cutoverChanges]

@[simp] theorem cutover_path : (s.cutover c j).path = s.path := by unfold State.cutover; split <;> simp

@[simp] theorem dirtyBlock_path (st k) : (s.dirtyBlock c st j k).path = s.path := by
  unfold State.dirtyBlock
  dsimp only
  split
  · split <;> simp
  · rfl

@[simp] theorem takeSourceWrite_path (o k) : (s.takeSourceWrite c o k).path = s.path := by
  unfold State.takeSourceWrite
  split
  · rfl
  · rfl
  · split
    · split <;> simp
    · rfl

@[simp] theorem takeDestWrite_path (r b n k) : (s.takeDestWrite c r b n k).path = s.path := by
  unfold State.takeDestWrite
  split
  · rfl
  · rfl
  · split <;> rfl

@[simp] theorem decideClose_path : (s.decideClose c).path = s.path := by
  unfold State.decideClose
  split
  · split <;> simp
  · rfl

theorem takeReports_path (l : List Report) : ∀ s : State, (State.takeReports l s).path = s.path := by
  induction l with
  | nil => exact fun s => rfl
  | cons x l ih =>
    intro s
    cases x with
    | sourceWrite => simp [State.takeReports, ih]
    | destWrite => simp [State.takeReports, ih]
    | close => unfold State.takeReports; split <;> simp [ih]

theorem takeHeadReport_path : s.takeHeadReport.path = s.path := by
  unfold State.takeHeadReport State.takeAllReports
  split
  · rfl
  · split <;> exact State.takeReports_path ..

/-- R74: making a report, into a full queue too, leaves the records and the table's close reports alone. -/
theorem makeReport_path (x : Report) : (s.makeReport x).path = s.path := by
  unfold State.makeReport
  dsimp only
  split
  · rfl
  · exact s.takeHeadReport_path

end State

/-! ## One bank -/

/-- The close report of a bank to the Remap Table, if it is OPEN (R59). -/
def State.tableReport (s : State) (r : Rank) (b : Bank) : Option CloseReport :=
  (s.record r b).map fun y => ⟨r, b, y.physical⟩

/-- The close report of a bank to the Migration Engine, if it is OPEN (R59). -/
def State.engineReport (s : State) (r : Rank) (b : Bank) : Option Report :=
  (s.record r b).map fun y => .close r b y.issued y.physical y.role

/-- R59: a close writes the record of its bank and adds the table's report, whatever room the report queue has. -/
theorem State.closeBank_path_of_open (opened : s.record r b = some y) :
    (s.closeBank r b).path = ((s.setRecord r b none).ctr, s.rmt.closes ++ [⟨r, b, y.physical⟩]) := by
  have made := s.makeReport_path (.close r b y.issued y.physical y.role)
  simp only [State.path, Prod.mk.injEq] at made
  obtain ⟨ctr, closes⟩ := made
  rw [State.closeBank_of_open opened]
  simp [State.path, State.setRecord, State.reportCloseToTable, ctr, closes]

theorem State.closeBank_record (s : State) (r r' : Rank) (b b' : Bank) :
    (s.closeBank r b).record r' b' = if r' = r ∧ b' = b then none else s.record r' b' := by
  cases opened : s.record r b with
  | none =>
    rw [State.closeBank_of_closed opened]
    split
    · next same => rw [same.1, same.2, opened]
    · rfl
  | some y =>
    have ctr : (s.closeBank r b).ctr = (s.setRecord r b none).ctr := congrArg Prod.fst (State.closeBank_path_of_open opened)
    have read : (s.closeBank r b).record r' b' = (s.setRecord r b none).record r' b' := by simp only [State.record, ctr]
    rw [read, State.setRecord_record]

theorem State.closeBank_downstream (s : State) (r : Rank) (b : Bank) : (s.closeBank r b).ctr.downstream = s.ctr.downstream := by
  cases opened : s.record r b with
  | none => rw [State.closeBank_of_closed opened]
  | some y => exact congrArg (fun p => p.1.downstream) (State.closeBank_path_of_open opened)

theorem State.closeBank_closes (s : State) (r : Rank) (b : Bank) :
    (s.closeBank r b).rmt.closes = s.rmt.closes ++ (s.tableReport r b).toList := by
  cases opened : s.record r b with
  | none => simp [State.closeBank_of_closed opened, State.tableReport, opened]
  | some y =>
    rw [State.tableReport, opened]
    exact congrArg Prod.snd (State.closeBank_path_of_open opened)

/-! ## Several banks, each once -/

section
variable {l : List Bank}

theorem filterMap_cons_eq_append {α β : Type} (f : α → Option β) (a : α) (l : List α) :
    (a :: l).filterMap f = (f a).toList ++ l.filterMap f := by
  simp only [List.filterMap_eq_flatMap_toList, List.flatMap_cons]

/-- R58: closing a bank leaves the others' reports as they were. -/
theorem State.reports_closeBank_of_notMem (s : State) (r : Rank) (new : b ∉ l) :
    l.filterMap ((s.closeBank r b).tableReport r) = l.filterMap (s.tableReport r) ∧
      l.filterMap ((s.closeBank r b).engineReport r) = l.filterMap (s.engineReport r) := by
  have other (b' : Bank) (mem : b' ∈ l) : (s.closeBank r b).record r b' = s.record r b' := by
    rw [State.closeBank_record, if_neg fun ⟨_, same⟩ => new (same ▸ mem)]
  refine ⟨List.filterMap_congr fun b' mem => ?_, List.filterMap_congr fun b' mem => ?_⟩
  · rw [State.tableReport, other b' mem, State.tableReport]
  · rw [State.engineReport, other b' mem, State.engineReport]

theorem State.closeBanks_record (r r' : Rank) (b' : Bank) (s : State) :
    (l.foldl (fun s b => s.closeBank r b) s).record r' b' = if r' = r ∧ b' ∈ l then none else s.record r' b' := by
  induction l generalizing s with
  | nil => simp
  | cons b l ih =>
    rw [List.foldl_cons, ih, State.closeBank_record]
    by_cases rank : r' = r <;> by_cases mem : b' ∈ l <;> simp [rank, mem]

theorem State.closeBanks_downstream (r : Rank) (s : State) :
    (l.foldl (fun s b => s.closeBank r b) s).ctr.downstream = s.ctr.downstream := by
  induction l generalizing s with
  | nil => rfl
  | cons b l ih => rw [List.foldl_cons, ih, State.closeBank_downstream]

theorem State.closeBanks_closes (once : l.Nodup) (r : Rank) (s : State) :
    (l.foldl (fun s b => s.closeBank r b) s).rmt.closes = s.rmt.closes ++ l.filterMap (s.tableReport r) := by
  induction l generalizing s with
  | nil => simp
  | cons b l ih =>
    obtain ⟨new, once⟩ := List.nodup_cons.1 once
    obtain ⟨others, -⟩ := s.reports_closeBank_of_notMem r new
    rw [List.foldl_cons, ih once, State.closeBank_closes, others, filterMap_cons_eq_append, List.append_assoc]

/-- A state with the fields written that closes write while the report queue has room. -/
def State.withCloses (s : State) (records : Vector (Vector (Option OpenRow) 16) 2) (reports : List Report)
    (closes : List CloseReport) : State :=
  { s with
    ctr := { s.ctr with records := records }
    mge := { s.mge with reports := reports }
    rmt := { s.rmt with closes := closes } }

theorem State.closeBank_eq_withCloses (room : s.mge.reports.length + (s.engineReport r b).toList.length ≤ 32) :
    s.closeBank r b = s.withCloses (s.closeBank r b).ctr.records (s.mge.reports ++ (s.engineReport r b).toList)
      (s.closeBank r b).rmt.closes := by
  cases opened : s.record r b with
  | none => simp [State.closeBank_of_closed opened, State.engineReport, opened, State.withCloses]
  | some y =>
    rw [State.engineReport, opened] at room ⊢
    rw [State.closeBank_of_room opened (Nat.lt_of_succ_le room)]
    rfl

theorem State.closeBanks_eq_withCloses (once : l.Nodup) (r : Rank) (s : State)
    (room : s.mge.reports.length + (l.filterMap (s.engineReport r)).length ≤ 32) :
    let t := l.foldl (fun s b => s.closeBank r b) s
    t = s.withCloses t.ctr.records (s.mge.reports ++ l.filterMap (s.engineReport r)) t.rmt.closes := by
  induction l generalizing s with
  | nil => simp [State.withCloses]
  | cons b l ih =>
    obtain ⟨new, once⟩ := List.nodup_cons.1 once
    obtain ⟨-, others⟩ := s.reports_closeBank_of_notMem r new
    rw [filterMap_cons_eq_append, List.length_append] at room
    have first := State.closeBank_eq_withCloses (s := s) (r := r) (b := b) (by omega)
    have reports : (s.closeBank r b).mge.reports = s.mge.reports ++ (s.engineReport r b).toList :=
      congrArg (·.mge.reports) first
    have rest := ih once (s.closeBank r b) (by rw [reports, others, List.length_append]; omega)
    rw [others, reports, List.append_assoc, ← filterMap_cons_eq_append] at rest
    rw [List.foldl_cons]
    refine rest.trans ?_
    rw [first]
    rfl

end

/-! ## A rank -/

theorem State.closeRank_record (s : State) (r r' : Rank) (b : Bank) :
    (s.closeRank r).record r' b = if r' = r then none else s.record r' b := by
  rw [State.closeRank, State.closeBanks_record]
  simp only [List.mem_finRange, and_true]

theorem State.closeRank_downstream (s : State) (r : Rank) : (s.closeRank r).ctr.downstream = s.ctr.downstream := by
  rw [State.closeRank, State.closeBanks_downstream]

theorem State.closeRank_closes (s : State) (r : Rank) :
    (s.closeRank r).rmt.closes = s.rmt.closes ++ (List.finRange 16).filterMap (s.tableReport r) := by
  rw [State.closeRank, State.closeBanks_closes (List.nodup_finRange 16)]

theorem State.closeRank_eq_withCloses (s : State) (r : Rank)
    (room : s.mge.reports.length + ((List.finRange 16).filterMap (s.engineReport r)).length ≤ 32) :
    s.closeRank r = s.withCloses (s.closeRank r).ctr.records
      (s.mge.reports ++ (List.finRange 16).filterMap (s.engineReport r)) (s.closeRank r).rmt.closes := by
  unfold State.closeRank
  exact State.closeBanks_eq_withCloses (List.nodup_finRange 16) r s room

/-- Settles O29: the banks of a rank are closed one after the other, each once. -/
theorem rankClosesEveryOpenBank : Obligations.RankClosesEveryOpenBank := by
  intro s g r c x h either
  have closes : exec c s = .next ((s.drives x).closeRank r) := by
    rcases either with pair | pair <;> cases pair
    · exact exec_prechargeAll h
    · exact exec_refresh h
  refine ⟨(s.drives x).closeRank r, closes, State.closeRank_downstream .., fun b => ?_, fun r' b other => ?_,
    State.closeRank_closes .., fun room => ?_⟩
  · rw [State.closeRank_record, if_pos rfl]
  · rw [State.closeRank_record, if_neg other]
    rfl
  · exact (s.drives x).closeRank_eq_withCloses r room

end Sys2Proof.Machine
end

section
/-! ACTIVATE: what the table and the directory answer, on a CLOSED bank and on an OPEN one (R5, R50 to R53, R59). -/

namespace Sys2Proof.Machine

variable {s : State} {g : Geometry} {r : Rank} {b : Bank} {o : Origin} {y : OpenRow}

/-! ## The answers -/

/-- What a data row is opened as under the entry that holds its origin, if one does (R5, R50). -/
def OpenRow.under (g : Geometry) (a : Nat) : Option Entry → OpenRow
  | some (.forming _ _ c) => ⟨a, a, .source c⟩
  | some (.live _ k _ _) => ⟨a, g.n - 16 + k.val, .plain⟩
  | some (.moving _ k _ c _) => ⟨a, g.n - 16 + k.val, .source c⟩
  | some (.retiring _ k _) => ⟨a, g.n - 16 + k.val, .plain⟩
  | some (.permanent _ k _ _) => ⟨a, g.n - 16 + k.val, .plain⟩
  | _ => ⟨a, a, .plain⟩

theorem State.dataAnswer_eq (s : State) (g : Geometry) (o : Origin) :
    s.dataAnswer g o = .under g o.row ((s.lookup o).map s.entry) := by
  unfold State.dataAnswer
  cases s.lookup o with
  | none => rfl
  | some i =>
    simp only [Option.map_some]
    cases s.entry i <;> rfl

@[simp] theorem OpenRow.under_issued (g : Geometry) (a : Nat) (e : Option Entry) : (OpenRow.under g a e).issued = a := by
  rcases e with _ | (_ | _) <;> rfl

@[simp] theorem State.aliasAnswer_issued (s : State) (g : Geometry) (r : Rank) (b : Bank) (a : Nat) :
    (s.aliasAnswer g r b a).issued = a := by
  unfold State.aliasAnswer
  split
  · rfl
  · split <;> rfl
  all_goals rfl

theorem State.setRecord_setRecord (s : State) (r : Rank) (b : Bank) (x z : Option OpenRow) :
    (s.setRecord r b x).setRecord r b z = s.setRecord r b z := by
  simp [State.setRecord]

/-- Settles O24: on a CLOSED bank there is nothing to close, and the answer is read off the entry that the lookup finds. -/
theorem activateTranslatesDataRows : Obligations.ActivateTranslatesDataRows := by
  intro s g r b row h data closed
  have before : s.closeBeforeLookup r b = s := by rw [State.closeBeforeLookup, closed]
  have opens : exec (.activate r b row) s =
      .next (s.openBank r b (.under g (row % g.n) ((s.lookup ⟨r, b, row % g.n⟩).map s.entry))) := by
    rw [exec_activate_data h data, State.activateData, before, State.dataAnswer_eq]
  rw [opens]
  dsimp only
  generalize (s.lookup ⟨r, b, row % g.n⟩).map s.entry = found
  rcases found with _ | (_ | _) <;> rfl

/-! ## The table takes the close reports (R5, R15) -/

/-- What no freeing of an entry touches, no taking of the close reports touches. -/
theorem State.tableTakesCloses_keeps {α : Type} (f : State → α)
    (freed : ∀ s i o k, f (State.freeEntry s i o k) = f s) (s : State) :
    f s.tableTakesCloses = f { s with rmt := { s.rmt with closes := [] } } := by
  have one (s : State) (x : CloseReport) : f (s.tableClose x) = f s := by
    unfold State.tableClose State.freeIfRetiring
    split
    · split
      · split
        · exact freed ..
        · rfl
      · rfl
    · rfl
  have all (l : List CloseReport) (s : State) : f (l.foldl State.tableClose s) = f s := by
    induction l generalizing s with
    | nil => rfl
    | cons x l ih => rw [List.foldl_cons, ih, one]
  exact all _ _

@[simp] theorem State.tableTakesCloses_ctr (s : State) : s.tableTakesCloses.ctr = s.ctr :=
  s.tableTakesCloses_keeps State.ctr fun _ _ _ _ => rfl
@[simp] theorem State.tableTakesCloses_mge (s : State) : s.tableTakesCloses.mge = s.mge :=
  s.tableTakesCloses_keeps State.mge fun _ _ _ _ => rfl
@[simp] theorem State.tableTakesCloses_port (s : State) : s.tableTakesCloses.port = s.port :=
  s.tableTakesCloses_keeps State.port fun _ _ _ _ => rfl
@[simp] theorem State.tableTakesCloses_closes (s : State) : s.tableTakesCloses.rmt.closes = [] :=
  s.tableTakesCloses_keeps (·.rmt.closes) fun _ _ _ _ => rfl

/-- R15: the entry that a close ends is the only one that serves the row. -/
theorem State.retiringAt_of_only {i : EntryIx} {k : SlotNo} {m : Nat} {x : CloseReport} (he : s.entry i = .retiring o k m)
    (rank : o.rank = x.rank) (bank : o.bank = x.bank) (row : x.physical = g.n - 16 + k.val)
    (only : ∀ i' o' k' m', s.entry i' = .retiring o' k' m' → o'.rank = x.rank → o'.bank = x.bank → k' = k → i' = i) :
    s.retiringAt g x = some i := by
  refine (s.retiringAt_eq_some g x i).2 ⟨((s.entry i).endedBy_iff g x).2 ⟨o, k, m, he, rank, bank, row⟩, fun i' lower => ?_⟩
  rw [Bool.eq_false_iff, ne_eq, Entry.endedBy_iff]
  rintro ⟨o', k', m', he', rank', bank', row'⟩
  have same : k' = k := Fin.ext (by omega)
  exact lower.ne (only i' o' k' m' he' rank' bank' same)

theorem State.retiringAt_of_no {x : CloseReport}
    (no : ∀ i o k m, s.entry i = .retiring o k m → o.rank = x.rank → o.bank = x.bank → x.physical ≠ g.n - 16 + k.val) :
    s.retiringAt g x = none := by
  refine (s.retiringAt_eq_none g x).2 fun i => ?_
  rw [Bool.eq_false_iff, ne_eq, Entry.endedBy_iff]
  rintro ⟨o, k, m, he, rank, bank, row⟩
  exact no i o k m he rank bank row

/-! ## On an OPEN bank -/

/-- R59: the two reports of a close, made with room in the report queue. -/
def State.closeReported (s : State) (r : Rank) (b : Bank) (y : OpenRow) : State :=
  { s with
    mge := { s.mge with reports := s.mge.reports ++ [.close r b y.issued y.physical y.role] }
    rmt := { s.rmt with closes := s.rmt.closes ++ [⟨r, b, y.physical⟩] } }

/-- R59: a close of which the Migration Engine alone has been told. -/
def State.engineTold (s : State) (r : Rank) (b : Bank) (y : OpenRow) : State :=
  { s.setRecord r b none with mge := { s.mge with reports := s.mge.reports ++ [.close r b y.issued y.physical y.role] } }

/-- R53: the state in which the table answers for an OPEN bank. -/
def State.closeTaken (s : State) (r : Rank) (b : Bank) (y : OpenRow) : State :=
  ((s.closeReported r b y).setRecord r b none).tableTakesCloses

section
variable (opened : s.record r b = some y) (room : s.mge.reports.length < 32)
include opened room

theorem State.closeBank_eq_closeReported : s.closeBank r b = (s.closeReported r b y).setRecord r b none :=
  State.closeBank_of_room opened room

theorem exec_activate_data_open (h : s.translates r g) {row : Nat} (data : row % g.n < g.dataRows) :
    let u := s.closeTaken r b y
    exec (.activate r b row) s =
      .next (u.openBank r b (.under g (row % g.n) ((u.lookup ⟨r, b, row % g.n⟩).map u.entry))) := by
  have before : s.closeBeforeLookup r b = s.closeTaken r b y := by
    rw [State.closeBeforeLookup, opened, State.closeTaken, ← State.closeBank_eq_closeReported opened room]
  rw [exec_activate_data h data, State.activateData, before, State.dataAnswer_eq]

theorem exec_activate_spare_open (h : s.translates r g) {row : Nat} (spare : ¬row % g.n < g.dataRows) :
    let u := s.closeReported r b y
    let x := s.aliasAnswer g r b (row % g.n)
    exec (.activate r b row) s =
      .next (if x.role = .sunk then (u.openBank r b x).violation else u.openBank r b x) := by
  have answer : ((s.closeReported r b y).setRecord r b none).aliasAnswer g r b (row % g.n) = s.aliasAnswer g r b (row % g.n) := rfl
  have reopen (x : OpenRow) :
      ((s.closeReported r b y).setRecord r b none).openBank r b x = (s.closeReported r b y).openBank r b x :=
    State.setRecord_setRecord ((s.closeReported r b y).forward _) r b none (some x)
  rw [exec_activate_spare h spare, State.activateAlias, State.closeBank_eq_closeReported opened room]
  simp only [answer, reopen]

end

/-! ### What the two kinds of row have in common -/

/-- What an ACTIVATE to row `a` of a bank open on `y` leaves, on a data row and on the row of a slot (R53, R59). -/
structure State.Reopened (s t : State) (r : Rank) (b : Bank) (y : OpenRow) (a : Nat) : Prop where
  reports : t.mge.reports = s.mge.reports ++ [.close r b y.issued y.physical y.role]
  opened : ∃ x, t.record r b = some x ∧ x.issued = a ∧ t.ctr.downstream = some (.activate r b x.physical)
  others : ∀ r' b', (r', b') ≠ (r, b) → t.record r' b' = s.record r' b'

theorem State.openBank_record_same (s : State) (r : Rank) (b : Bank) (x : OpenRow) : (s.openBank r b x).record r b = some x :=
  ((s.forward _).setRecord_record r r b b (some x)).trans (if_pos ⟨rfl, rfl⟩)

theorem State.openBank_entry (s : State) (r : Rank) (b : Bank) (x : OpenRow) : (s.openBank r b x).entry = s.entry := rfl
theorem State.openBank_lookup (s : State) (r : Rank) (b : Bank) (x : OpenRow) : (s.openBank r b x).lookup = s.lookup := rfl

theorem State.setRecord_record_other (s : State) (x : Option OpenRow) {r' : Rank} {b' : Bank} (other : (r', b') ≠ (r, b)) :
    (s.setRecord r b x).record r' b' = s.record r' b' := by
  rw [State.setRecord_record, if_neg fun ⟨rank, bank⟩ => other (by rw [rank, bank])]

theorem State.reopened_openBank {u : State} {x : OpenRow} {a : Nat}
    (reports : u.mge.reports = s.mge.reports ++ [.close r b y.issued y.physical y.role])
    (others : ∀ r' b', (r', b') ≠ (r, b) → u.record r' b' = s.record r' b') (issued : x.issued = a) :
    s.Reopened (u.openBank r b x) r b y a where
  reports := reports
  opened := ⟨x, u.openBank_record_same r b x, issued, rfl⟩
  others r' b' other := ((u.forward _).setRecord_record_other (some x) other).trans (others r' b' other)

theorem State.Reopened.violation {t : State} {a : Nat} (h : s.Reopened t r b y a) : s.Reopened t.violation r b y a :=
  ⟨h.reports, h.opened, h.others⟩

theorem State.Reopened.violationIf {t : State} {a : Nat} {p : Prop} [Decidable p] (h : s.Reopened t r b y a) :
    s.Reopened (if p then t.violation else t) r b y a := by
  split
  · exact h.violation
  · exact h

/-! ### The state in which the table answers -/

@[simp] theorem State.closeTaken_ctr (s : State) (r : Rank) (b : Bank) (y : OpenRow) :
    (s.closeTaken r b y).ctr = (s.setRecord r b none).ctr := by
  rw [State.closeTaken, State.tableTakesCloses_ctr]; rfl

@[simp] theorem State.closeTaken_aliasCount (s : State) (r : Rank) (b : Bank) (y : OpenRow) :
    (s.closeTaken r b y).ctr.aliasCount = s.ctr.aliasCount := by
  rw [State.closeTaken_ctr]; rfl

@[simp] theorem State.closeTaken_reports (s : State) (r : Rank) (b : Bank) (y : OpenRow) :
    (s.closeTaken r b y).mge.reports = s.mge.reports ++ [.close r b y.issued y.physical y.role] := by
  rw [State.closeTaken, State.tableTakesCloses_mge]; rfl

@[simp] theorem State.closeTaken_port (s : State) (r : Rank) (b : Bank) (y : OpenRow) : (s.closeTaken r b y).port = s.port := by
  rw [State.closeTaken, State.tableTakesCloses_port]; rfl

@[simp] theorem State.closeTaken_closes (s : State) (r : Rank) (b : Bank) (y : OpenRow) :
    (s.closeTaken r b y).rmt.closes = [] := State.tableTakesCloses_closes _

theorem State.closeTaken_record_other (s : State) (y : OpenRow) {r' : Rank} {b' : Bank} (other : (r', b') ≠ (r, b)) :
    (s.closeTaken r b y).record r' b' = s.record r' b' := by
  rw [State.record, State.closeTaken_ctr]
  exact s.setRecord_record_other none other

/-- With no close report waiting, the table takes the one of this close alone. -/
theorem State.closeTaken_of_nil (s : State) (r : Rank) (b : Bank) (y : OpenRow) (nil : s.rmt.closes = []) :
    s.closeTaken r b y = (s.engineTold r b y).tableClose ⟨r, b, y.physical⟩ := by
  have one : ((s.closeReported r b y).setRecord r b none).rmt.closes = [⟨r, b, y.physical⟩] := by
    simp [State.closeReported, nil]
  rw [State.closeTaken, State.tableTakesCloses, one, List.foldl_cons, List.foldl_nil]
  congr 1
  simp only [State.engineTold, State.setRecord, State.closeReported, ← nil]

/-- R15: a close that ends no RETIRING entry leaves the table as it is. -/
theorem State.closeTaken_entry_of_no (hm : s.mode = .active g) (nil : s.rmt.closes = [])
    (no : ∀ i o k m, s.entry i = .retiring o k m → o.rank = r → o.bank = b → y.physical ≠ g.n - 16 + k.val) (i : EntryIx) :
    (s.closeTaken r b y).entry i = s.entry i := by
  rw [State.closeTaken_of_nil s r b y nil, State.tableClose_of_none (s := s.engineTold r b y) hm
    (State.retiringAt_of_no (s := s.engineTold r b y) (x := ⟨r, b, y.physical⟩) no)]
  rfl

/-- R15, R16: a close that ends a RETIRING entry frees it. -/
theorem State.closeTaken_of_only {i : EntryIx} {k : SlotNo} {m : Nat} (hm : s.mode = .active g) (nil : s.rmt.closes = [])
    (he : s.entry i = .retiring o k m) (rank : o.rank = r) (bank : o.bank = b) (row : y.physical = g.n - 16 + k.val)
    (only : ∀ i' o' k' m', s.entry i' = .retiring o' k' m' → o'.rank = r → o'.bank = b → k' = k → i' = i) :
    s.closeTaken r b y = (s.engineTold r b y).freeEntry i o k := by
  rw [State.closeTaken_of_nil s r b y nil]
  exact State.tableClose_of_retiring (s := s.engineTold r b y) hm (State.retiringAt_of_only he rank bank row only) he

/-- R4: once its entry is FREE, no entry holds the origin. -/
theorem State.lookup_freeEntry {i : EntryIx} {k : SlotNo} (unique : s.OriginsUnique) (held : (s.entry i).origin = some o) :
    (s.freeEntry i o k).lookup o = none := by
  refine (State.lookup_eq_none _ o).2 fun i' found => ?_
  rw [State.freeEntry_entry] at found
  split at found
  · cases found
  · next other => exact other (unique.1 i' i o found held)

/-! ### The statement -/

/-- Settles O26. On a data row the table answers in the state that its close reports leave, in which a RETIRING entry that the
close ended holds its origin no more; on the row of a slot the directory answers as it would have before the close. -/
theorem activateClosesAnOpenBankFirst : Obligations.ActivateClosesAnOpenBankFirst := by
  intro s g r b row y h opened room
  dsimp only
  obtain ⟨mode, -⟩ := id h
  have onData (data : row % g.n < g.dataRows) := exec_activate_data_open opened room h data
  have onSpare (spare : ¬row % g.n < g.dataRows) := exec_activate_spare_open opened room h spare
  dsimp only at onData onSpare
  refine ⟨?_, fun i o k m nil he rank bank serves unique only here data => ?_, fun k spare => ?_⟩
  · by_cases data : row % g.n < g.dataRows
    · refine ⟨_, onData data, ?_⟩
      obtain ⟨reports, opens, others⟩ := State.reopened_openBank (s := s) (x := .under g (row % g.n) _)
        (s.closeTaken_reports r b y) (fun _ _ => s.closeTaken_record_other y) (OpenRow.under_issued ..)
      refine ⟨reports, opens, others, fun _ => ⟨?_, s.closeTaken_closes r b y, ?_, s.closeTaken_port r b y,
        State.closeTaken_entry_of_no mode⟩⟩
      · rw [State.openBank_record_same, State.openBank_lookup, State.openBank_entry]
        generalize ((s.closeTaken r b y).lookup ⟨r, b, row % g.n⟩).map (s.closeTaken r b y).entry = found
        rcases found with _ | (_ | _) <;> rfl
      · exact s.closeTaken_aliasCount r b y
    · have reopens : s.Reopened ((s.closeReported r b y).openBank r b (s.aliasAnswer g r b (row % g.n))) r b y (row % g.n) :=
        State.reopened_openBank rfl (fun _ _ _ => rfl) (State.aliasAnswer_issued ..)
      obtain ⟨reports, opens, others⟩ := reopens.violationIf (p := (s.aliasAnswer g r b (row % g.n)).role = .sunk)
      exact ⟨_, onSpare data, reports, opens, others, fun other => absurd other data⟩
  · obtain rfl : o = ⟨r, b, row % g.n⟩ := by rw [← rank, ← bank, ← here]
    have taken := State.closeTaken_of_only mode nil he rank bank serves only
    have gone : ((s.engineTold r b y).freeEntry i ⟨r, b, row % g.n⟩ k).lookup ⟨r, b, row % g.n⟩ = none :=
      State.lookup_freeEntry (s := s.engineTold r b y) unique (congrArg Entry.origin he)
    have answered := onData data
    rw [taken, gone] at answered
    refine ⟨_, answered, ?_, rfl, State.openBank_record_same .., rfl⟩
    rw [State.openBank_entry, State.freeEntry_entry, if_pos rfl]
  · have issued : row % g.n = g.slotRow k := spare
    have notData : ¬g.slotRow k < g.dataRows := (Nat.le_add_right ..).not_gt
    rw [issued] at onSpare ⊢
    refine ⟨fun f testing => ?_, fun i c target named => ?_, fun sunk => ?_⟩
    · rw [onSpare notData, State.aliasAnswer_testing testing]; rfl
    · rw [onSpare notData, State.aliasAnswer_target target named]; rfl
    · rw [onSpare notData, State.aliasAnswer_sunk sunk]; rfl

end Sys2Proof.Machine
end

section
/-!
SUPPORT. The bounds of the queues through every command (R74, R99, R110, R113, R121, R148, R149). Every command but seven changes the
state in the way that `Kept` allows. Of the seven, the power events empty the queues, and the end of the load, CONFIGURE and the
completions of the burn engine leave them alone.
-/

namespace Sys2Proof.Machine

variable {s t u : State}

/-! ## Commands that change no more than `Kept` allows -/

/-- The commands that may change the mode or the cells: the power events, the end of the load, CONFIGURE and the completions of the
burn engine. -/
def changesModeOrCells : Instr → Bool
  | .powerOn => true
  | .powerOnResetAssert => true
  | .loadComplete => true
  | .burnComplete _ => true
  | .revokeComplete _ => true
  | .burnGeometryComplete _ => true
  | .configure _ _ => true
  | _ => false

namespace Kept

theorem ofNext (h : (.next u : Host.Outcome State Fault Refusal) = .next t) (k : Kept s u) : Kept s t :=
  Host.Outcome.next.inj h ▸ k

theorem execActivate {r b row} (h : execActivate r b row s = .next t) : Kept s t := by
  refine ofNext h ?_
  split
  · exact passThrough ..
  · dsimp only; split
    · exact activateData ..
    · exact activateAlias ..

theorem execWrite {r b col} (h : execWrite r b col s = .next t) : Kept s t := by
  refine ofNext h ?_
  split
  · exact passThrough ..
  · exact (forward ..).trans (reportWrite ..)

theorem execReadAp {r b col} (h : execReadAp r b col s = .next t) : Kept s t := by
  refine ofNext h ?_
  split
  · exact passThrough ..
  · exact (forward ..).trans (closeBank ..)

theorem execWriteAp {r b col} (h : execWriteAp r b col s = .next t) : Kept s t := by
  refine ofNext h ?_
  split
  · exact passThrough ..
  · exact ((forward ..).trans (reportWrite ..)).trans (closeBank ..)

theorem execPrecharge {r b} (h : execPrecharge r b s = .next t) : Kept s t := by
  refine ofNext h ?_
  split
  · exact passThrough ..
  · exact (forward ..).trans (closeBank ..)

theorem execPrechargeAll {r} (h : execPrechargeAll r s = .next t) : Kept s t := by
  refine ofNext h ?_
  split
  · exact passThrough ..
  · exact (forward ..).trans (closeRank ..)

theorem execRefresh {r} (h : execRefresh r s = .next t) : Kept s t := by
  refine ofNext h ?_
  split
  · exact passThrough ..
  · exact (forward ..).trans (closeRank ..)

theorem execChannelReset (h : execChannelReset s = .next t) : Kept s t := by
  refine ofNext h ?_
  split
  · exact refl s
  · split
    · split
      · exact setResetLine ..
      · exact (channelResetEvent s).trans (setResetLine ..)
    · exact setResetLine ..

theorem execChannelResetMigration (h : execChannelResetMigration s = .next t) : Kept s t := by
  refine ofNext h ?_
  split
  · exact refl s
  · exact (ofMge s _ (by simp)).trans (migrationChannelReset _)

theorem execChannelResetTable (h : execChannelResetTable s = .next t) : Kept s t := by
  refine ofNext h ?_
  split
  · exact refl s
  · exact (ofRmt s _).trans (freeAllRetiring _)

theorem execCloseReportTable (h : execCloseReportTable s = .next t) : Kept s t := by
  refine ofNext h ?_
  split
  · exact refl s
  · exact (ofRmt s _).trans (tableClose ..)

theorem execInboundFrame {bytes} (h : execInboundFrame bytes s = .next t) : Kept s t := by
  refine ofNext h ?_
  split
  · exact refl s
  · split
    · exact receive ..
    · exact badFrame s

theorem execErrorNote {n} (h : execErrorNote n s = .next t) : Kept s t := by
  refine ofNext h ?_
  split
  · exact refl s
  · split
    · exact takePassedNote ..
    · split
      · exact badFrame s
      · exact (receive ..).trans (takePassedNote ..)

theorem execTransmitBegin (h : execTransmitBegin s = .next t) : Kept s t := by
  refine ofNext h ?_
  split
  · exact transmitHead s
  · exact refl s

theorem execRetryTimerExpiry (h : execRetryTimerExpiry s = .next t) : Kept s t := by
  refine ofNext h ?_
  split
  · exact retry s
  · exact refl s

theorem execDecayBoundary (h : execDecayBoundary s = .next t) : Kept s t := by
  refine ofNext h ?_
  split
  · exact decayBoundary s
  · exact refl s

theorem execRequestFrame {bytes} (h : execRequestFrame bytes s = .next t) : Kept s t := by
  refine ofNext h ?_
  split
  · exact refl s
  · exact takeFrame ..

end Kept

open Kept in
/-- Every other command changes the state as `Kept` allows. -/
theorem exec_kept {c : Instr} (other : changesModeOrCells c = false) (h : exec c s = .next t) : Kept s t := by
  cases c with
  | powerOn => cases other
  | powerOnResetAssert => cases other
  | loadComplete => cases other
  | burnComplete => cases other
  | revokeComplete => cases other
  | burnGeometryComplete => cases other
  | configure => cases other
  -- the command path
  | activate => exact Kept.execActivate h
  | read => exact ofNext h (passThrough ..)
  | write => exact Kept.execWrite h
  | readAp => exact Kept.execReadAp h
  | writeAp => exact Kept.execWriteAp h
  | precharge => exact Kept.execPrecharge h
  | prechargeAll => exact Kept.execPrechargeAll h
  | refresh => exact Kept.execRefresh h
  | otherCommand => exact ofNext h (passThrough ..)
  | channelReset => exact Kept.execChannelReset h
  | channelResetDeassert => exact ofNext h (setResetLine ..)
  -- reports
  | channelResetMigration => exact Kept.execChannelResetMigration h
  | channelResetTable => exact Kept.execChannelResetTable h
  | sourceWriteReport => exact ofNext h (takeHeadIf ..)
  | destWriteReport => exact ofNext h (takeHeadIf ..)
  | closeReportMigration => exact ofNext h (takeHeadIf ..)
  | closeReportTable => exact Kept.execCloseReportTable h
  -- the link
  | inboundFrame => exact Kept.execInboundFrame h
  | badFrame => exact ofNext h (badFrame s)
  | errorNote => exact Kept.execErrorNote h
  | copyAccept => exact ofNext h (takeReply ..)
  | copyRefuse => exact ofNext h (takeReply ..)
  | copyDone => exact ofNext h (takeReply ..)
  | fenceAckSet => exact ofNext h (takeReply ..)
  | fenceAckRelease => exact ofNext h (takeReply ..)
  | hello => exact ofNext h (receive ..)
  | helloAck => exact ofNext h (receive ..)
  | transmitBegin => exact Kept.execTransmitBegin h
  -- timers
  | retryTimerExpiry => exact Kept.execRetryTimerExpiry h
  | offerTimerExpiry => exact ofNext h (expire ..)
  | roundTimerExpiry => exact ofNext h (expire ..)
  | armTimerExpiry => exact ofNext h (expire ..)
  | fenceTimerExpiry => exact ofNext h (expire ..)
  | closingFenceTimerExpiry => exact ofNext h (closingExpiry ..)
  | decayBoundary => exact Kept.execDecayBoundary h
  | probationTimerExpiry => exact ofNext h (setStage ..)
  | stageExpired => exact ofNext h (stageExpiry s)
  -- the Policy Unit
  | retryPassStep => exact ofNext h (passStep s)
  | nominationTake => exact ofNext h (takeNomination s)
  -- requests
  | requestFrame => exact Kept.execRequestFrame h
  | tableRead => exact ofNext h (takeRequest s _ _ (decideTableRead · _))
  | tableFind => exact ofNext h (takeRequest s _ _ (decideTableFind · _ _ _))
  | release => exact ofNext h (takeRequest s _ _ (decideRelease · _))
  | slotRead => exact ofNext h (takeRequest s _ _ (decideSlotRead · _ _ _))
  | slotTestBegin => exact ofNext h (takeRequest s _ _ (decideTestBegin · _ _ _))
  | slotTestEnd => exact ofNext h (takeRequest s _ _ (decideTestEnd · _ _ _ _))
  | slotGrade => exact ofNext h (takeRequest s _ _ (decideSlotGrade · _ _ _ _))
  | contextRead => exact ofNext h (takeRequest s _ _ (decideContextRead · _))
  | repair => exact ofNext h (takeRequest s _ _ (decideRepair · _ _ _))
  | move => exact ofNext h (takeRequest s _ _ (decideMove · _))
  | cancel => exact ofNext h (takeRequest s _ _ (decideCancel · _))
  | watchRead => exact ofNext h (takeRequest s _ _ (decideWatchRead · _))
  | watchClear => exact ofNext h (takeRequest s _ _ (decideWatchClear · _ _ _ _))
  | profileRead => exact ofNext h (takeRequest s _ _ (decideProfileRead · _))
  | profileEditSelect => exact ofNext h (takeRequest s _ _ (decideEditSelect · _))
  | profileWrite => exact ofNext h (takeRequest s _ _ (decideProfileWrite · _ _))
  | profileRunSelect => exact ofNext h (takeRequest s _ _ (decideRunSelect · _))
  | stage => exact ofNext h (takeRequest s _ _ (decideStage · _))
  | burn => exact ofNext h (takeRequest s _ _ decideBurn)
  | revoke => exact ofNext h (takeRequest s _ _ (decideRevoke · _))
  | burnGeometry => exact ofNext h (takeRequest s _ _ decideBurnGeometry)
  | lockStore => exact ofNext h (takeRequest s _ _ decideLockStore)
  | storeRead => exact ofNext h (takeRequest s _ _ (decideStoreRead · _))
  | storeStatus => exact ofNext h (takeRequest s _ _ decideStoreStatus)
  | conditionRead => exact ofNext h (takeRequest s _ _ decideConditionRead)
  | conditionClear => exact ofNext h (takeRequest s _ _ (decideConditionClear · _))
  | alertMask => exact ofNext h (takeRequest s _ _ (decideAlertMask · _))
  | warmReset => exact ofNext h (takeRequest s _ _ decideWarmReset)
  -- the parts of a warm reset
  | warmResetMigration => exact ofNext h (takeWarmPart s _ _ (warmMigration s))
  | warmResetLink => exact ofNext h (takeWarmPart s _ _ (warmLink s))
  | warmResetWatch => exact ofNext h (takeWarmPart s _ _ (setItems s [] (Nat.zero_le _)))
  | warmResetSlots => exact ofNext h (takeWarmPart s _ _ (endTests s))
  | warmResetStore => exact ofNext h (takeWarmPart s _ _ (cancelStage s))
  | warmResetConditions => exact ofNext h (takeWarmPart s _ _ (clearConditions s _))

/-! ## The queues -/

theorem Kept.queuesBounded (k : Kept s t) (h : s.QueuesBounded) : t.QueuesBounded := by
  obtain ⟨reports, outbound, badRun, items, nominations, passOrder⟩ := h
  refine ⟨?_, ?_, ?_, ?_, ?_, ?_⟩
  · have := k.reports; omega
  · have := k.outbound; omega
  · have := k.badRun; omega
  · have := k.items; omega
  · have := k.nominations; omega
  · have := k.passOrder; omega

/-- The blocks that hold the queues. -/
def State.queueBlocks (s : State) : Migration × Link × WatchList × Policy := (s.mge, s.sbl, s.wls, s.pol)

theorem State.QueuesBounded.ofBlocks (h : s.QueuesBounded) (same : t.queueBlocks = s.queueBlocks) : t.QueuesBounded := by
  obtain ⟨mge, sbl, wls, pol⟩ : t.mge = s.mge ∧ t.sbl = s.sbl ∧ t.wls = s.wls ∧ t.pol = s.pol := by
    simpa [State.queueBlocks] using same
  unfold State.QueuesBounded
  rw [mge, sbl, wls, pol]
  exact h

/-! ### The completions of the burn engine -/

section
variable (s)

@[simp] theorem State.engineDone_queueBlocks (kind : OperationKind) (done : Bool) :
    (s.engineDone kind done).queueBlocks = s.queueBlocks := rfl
@[simp] theorem State.setCells_queueBlocks (k : RecIx) (x : RecordCells) : (s.setCells k x).queueBlocks = s.queueBlocks := rfl
@[simp] theorem State.setGeometryCells_queueBlocks (x : GeometryCells) :
    (s.setGeometryCells x).queueBlocks = s.queueBlocks := rfl
@[simp] theorem State.setLoadResult_queueBlocks (k : RecIx) (x : Option LoadResult) :
    (s.setLoadResult k x).queueBlocks = s.queueBlocks := rfl
@[simp] theorem State.setStage_queueBlocks (x : Stage) : (s.setStage x).queueBlocks = s.queueBlocks := rfl
@[simp] theorem State.drawFree_queueBlocks : s.drawFree.queueBlocks = s.queueBlocks := rfl
@[simp] theorem State.setEntry_queueBlocks (i : EntryIx) (e : Entry) : (s.setEntry i e).queueBlocks = s.queueBlocks := rfl

@[simp] theorem State.burnSlot_queueBlocks (i : EntryIx) (o : Origin) (n : SlotNo) :
    (s.burnSlot i o n).queueBlocks = s.queueBlocks := by
  unfold State.burnSlot; split <;> rfl

theorem State.finishBurn_queueBlocks (k : RecIx) (i : EntryIx) (o : Origin) (n : SlotNo) (v : Bool) :
    (s.finishBurn k i o n v).queueBlocks = s.queueBlocks := by
  unfold State.finishBurn; split <;> simp

theorem State.burnCompletes_queueBlocks (v : Bool) : (s.burnCompletes v).queueBlocks = s.queueBlocks := by
  unfold State.burnCompletes; split
  · exact State.finishBurn_queueBlocks ..
  · rfl

theorem State.revokeCompletes_queueBlocks (v : Bool) : (s.revokeCompletes v).queueBlocks = s.queueBlocks := by
  unfold State.revokeCompletes; split
  · unfold State.finishRevoke; split <;> simp
  · rfl

theorem State.geometryCompletes_queueBlocks (v : Bool) : (s.geometryCompletes v).queueBlocks = s.queueBlocks := by
  unfold State.geometryCompletes; split
  · unfold State.finishGeometry; split <;> simp
  · rfl

/-! ### Entry to ACTIVE -/

theorem loadRecord_queueBlocks (g : Geometry) (x : Loading) (k : RecIx) :
    (loadRecord g x k).state.queueBlocks = x.state.queueBlocks := by
  unfold loadRecord; split
  · rfl
  · rfl
  · rfl
  · split
    · split <;> rfl
    · rfl

theorem State.load_queueBlocks (g : Geometry) : (s.load g).state.queueBlocks = s.queueBlocks :=
  State.load_induction (P := fun x => x.state.queueBlocks = s.queueBlocks) rfl
    fun x k hx => (loadRecord_queueBlocks g x k).trans hx

variable {s}

theorem State.QueuesBounded.setMode (h : s.QueuesBounded) (m : Mode) : { s with mode := m }.QueuesBounded := h

theorem State.QueuesBounded.enterActive (h : s.QueuesBounded) (g : Geometry) : (s.enterActive g).QueuesBounded := by
  have entered : (((s.load g).state.applyPendingRun).startDecay).QueuesBounded :=
    ((Kept.applyPendingRun _).trans (Kept.startDecay _)).queuesBounded (h.ofBlocks (s.load_queueBlocks g))
  exact entered.setMode _

theorem State.QueuesBounded.afterRead (h : s.QueuesBounded) : s.afterRead.QueuesBounded := by
  unfold State.afterRead; split
  · exact h.enterActive _
  · exact h
  · exact h

theorem State.QueuesBounded.loadComplete (h : s.QueuesBounded) (hn : execLoadComplete s = .next t) : t.QueuesBounded := by
  refine Host.Outcome.next.inj hn ▸ ?_
  split
  · exact h
  · have read : { s.afterRead with ready := true }.QueuesBounded := h.afterRead
    exact (Kept.enterGreeting _).queuesBounded read

theorem State.QueuesBounded.decideConfigure (h : s.QueuesBounded) (r w : Byte) : (s.decideConfigure r w).QueuesBounded := by
  unfold State.decideConfigure; split
  · exact (Kept.refuse ..).queuesBounded h
  · exact (Kept.refuse ..).queuesBounded h
  · unfold State.whenSome; split
    · exact (Kept.answer ..).queuesBounded (h.enterActive _)
    · exact (Kept.refuse ..).queuesBounded h

theorem State.QueuesBounded.takeRequest (h : s.QueuesBounded) (q : Request) {f : State → State}
    (hf : ∀ u : State, u.QueuesBounded → (f u).QueuesBounded) : (s.takeRequest q f).QueuesBounded := by
  unfold State.takeRequest; split
  · exact h
  · have taken : (if s.port.awaits q then s else s.acceptRequest 0 q).QueuesBounded := by
      split
      · exact h
      · exact (Kept.acceptRequest ..).queuesBounded h
    dsimp only
    generalize (if s.port.awaits q then s else s.acceptRequest 0 q) = u at taken
    split
    · exact hf _ taken
    · exact taken

end

/-! ## The statement -/

theorem exec_keepsQueuesBounded {c : Instr} (hs : s.QueuesBounded) (h : exec c s = .next t) : t.QueuesBounded := by
  by_cases other : changesModeOrCells c = false
  · exact (exec_kept other h).queuesBounded hs
  cases c with
  | powerOn => exact Host.Outcome.next.inj h ▸ State.reset_queuesBounded.ofBlocks rfl
  | powerOnResetAssert => exact Host.Outcome.next.inj h ▸ State.reset_queuesBounded.ofBlocks rfl
  | loadComplete => exact hs.loadComplete h
  | burnComplete v => exact Host.Outcome.next.inj h ▸ hs.ofBlocks (s.burnCompletes_queueBlocks v)
  | revokeComplete v => exact Host.Outcome.next.inj h ▸ hs.ofBlocks (s.revokeCompletes_queueBlocks v)
  | burnGeometryComplete v => exact Host.Outcome.next.inj h ▸ hs.ofBlocks (s.geometryCompletes_queueBlocks v)
  | configure r w => exact Host.Outcome.next.inj h ▸ hs.takeRequest _ fun _ hu => hu.decideConfigure r w
  | _ => exact absurd rfl other

/-- Settles O6: a step is the passing of time or the command at the head of the queue. -/
theorem stepKeepsQueuesBounded : Obligations.StepKeepsQueuesBounded := by
  intro s t hs h
  unfold step at h
  split at h
  · exact Host.Outcome.next.inj h ▸ (Kept.tick s).queuesBounded hs
  · next rest _ =>
    have queue : { s with pending := rest }.QueuesBounded := hs
    exact exec_keepsQueuesBounded queue h

end Sys2Proof.Machine
end

section
/-!
SUPPORT. What an event of the Migration Engine leaves alone, in two layers. `State.offLink` is a state without what the messages of a
migration touch: the contexts, OUTBOUND and WAITING. `State.elsewhere` leaves out too what the end of a migration and the taking of
reports touch: the table's entries and generation, the directory, the report queue, the watch items and the conditions.
-/

namespace Sys2Proof.Machine

/-- See the head of the section. -/
def State.offLink (s : State) : State :=
  { s with
    mge := { s.mge with contexts := Migration.reset.contexts }
    sbl := { s.sbl with outbound := [], waiting := [] } }

/-- See the head of the section. -/
def State.elsewhere (s : State) : State :=
  { s.offLink with
    rmt := { s.rmt with entries := RemapTable.reset.entries, generation := 0 }
    sld := directoryReset
    mge := { s.offLink.mge with reports := [] }
    wls := { s.wls with items := [] }
    port := { s.port with conditions := 0, alert := false } }

section
variable {s t : State}

theorem State.elsewhere_of_offLink (h : t.offLink = s.offLink) : t.elsewhere = s.elsewhere :=
  (congrArg State.elsewhere h :)

theorem State.sameElsewhere_of_elsewhere (h : t.elsewhere = s.elsewhere) : s.SameElsewhere t where
  pending := (congrArg State.pending h :)
  mode := (congrArg State.mode h :)
  ready := (congrArg State.ready h :)
  powerHeld := (congrArg State.powerHeld h :)
  pins := ⟨(congrArg State.adrPins h :), (congrArg State.target h :)⟩
  ctr := (congrArg State.ctr h :)
  linkState := ⟨(congrArg (·.sbl.state) h :), (congrArg (·.sbl.badRun) h :), (congrArg (·.sbl.retryTimer) h :),
    (congrArg (·.sbl.wire) h :)⟩
  watch := ⟨(congrArg (·.wls.counter) h :), (congrArg (·.wls.decayTimer) h :), (congrArg (·.wls.notes) h :)⟩
  pol := (congrArg State.pol h :)
  rst := (congrArg State.rst h :)
  port := ⟨(congrArg (·.port.inHand) h :), (congrArg (·.port.response) h :), (congrArg (·.port.warmParts) h :),
    (congrArg (·.port.alertMask) h :)⟩
  freeCount := (congrArg State.freeCount h :)

theorem State.entry_of_offLink (h : t.offLink = s.offLink) (i : EntryIx) : t.entry i = s.entry i :=
  (congrArg (fun u : State => u.entry i) h :)

theorem State.slot_of_offLink (h : t.offLink = s.offLink) (r : Rank) (b : Bank) (k : SlotNo) : t.slot r b k = s.slot r b k :=
  (congrArg (fun u : State => u.slot r b k) h :)

theorem State.record_of_offLink (h : t.offLink = s.offLink) (r : Rank) (b : Bank) : t.record r b = s.record r b :=
  (congrArg (fun u : State => u.record r b) h :)

end

/-! ## The messages of a migration -/

section
variable (s : State)

@[simp] theorem State.setCtx_offLink (c : Ctx) (x : Context) : (s.setCtx c x).offLink = s.offLink := rfl
@[simp] theorem State.setOutbound_offLink (l : List OutMsg) : (s.setOutbound l).offLink = s.offLink := rfl
@[simp] theorem State.setWaiting_offLink (l : List Ctx) : (s.setWaiting l).offLink = s.offLink := rfl
@[simp] theorem State.enterState_offLink (c : Ctx) (st : BusyState) (j : Job) : (s.enterState c st j).offLink = s.offLink := rfl
@[simp] theorem State.enterTimed_offLink (c : Ctx) (st : BusyState) (j : Job) (ms : Nat) :
    (s.enterTimed c st j ms).offLink = s.offLink := rfl
@[simp] theorem State.setJob_offLink (c : Ctx) (st : BusyState) (j : Job) : (s.setJob c st j).offLink = s.offLink := rfl
@[simp] theorem State.setLastResult_offLink (c : Ctx) (r : MigrationResult) : (s.setLastResult c r).offLink = s.offLink := rfl
@[simp] theorem State.dropHeld_offLink (c : Ctx) : (s.dropHeld c).offLink = s.offLink := rfl
@[simp] theorem State.enterIdle_offLink (c : Ctx) (j : Job) : (s.enterIdle c j).offLink = s.offLink := by
  rw [State.enterIdle, State.dropHeld_offLink, State.setCtx_offLink]

@[simp] theorem State.queueTail_offLink (c : Ctx) (h : HeldMsg) : (s.queueTail c h).offLink = s.offLink := by
  unfold State.queueTail; split <;> rfl

@[simp] theorem State.makeMsg_offLink (c : Ctx) (m : OutMsg) : (s.makeMsg c m).offLink = s.offLink := by
  unfold State.makeMsg; split
  · exact s.queueTail_offLink ..
  · rfl

theorem State.refillUpTo_offLink (n : Nat) : ∀ s : State, (s.refillUpTo n).offLink = s.offLink := by
  induction n with
  | zero => exact fun _ => rfl
  | succ n ih =>
    intro s
    unfold State.refillUpTo
    split
    · rfl
    · split
      · split <;> simp [ih]
      · rfl

@[simp] theorem State.purgeOutbound_offLink (keep : OutMsg → Bool) : (s.purgeOutbound keep).offLink = s.offLink :=
  State.refillUpTo_offLink ..

@[simp] theorem State.startRound_offLink (c : Ctx) (j : Job) : (s.startRound c j).offLink = s.offLink := by
  simp [State.startRound]

@[simp] theorem State.requestFence_offLink (c : Ctx) (j : Job) : (s.requestFence c j).offLink = s.offLink := by
  simp [State.requestFence]

@[simp] theorem State.abortMessages_offLink (c : Ctx) (j : Job) : (s.abortMessages c j).offLink = s.offLink := by
  unfold State.abortMessages; split <;> simp

@[simp] theorem State.dirtyBlock_offLink (c : Ctx) (st : BusyState) (j : Job) (b : Fin 32) :
    (s.dirtyBlock c st j b).offLink = s.offLink := by
  unfold State.dirtyBlock; dsimp only; split
  · split <;> simp
  · rfl

@[simp] theorem State.takeDestWrite_offLink (c : Ctx) (r : Rank) (k : Bank) (n : Nat) (b : Fin 32) :
    (s.takeDestWrite c r k n b).offLink = s.offLink := by
  unfold State.takeDestWrite; split
  · rfl
  · rfl
  · split <;> rfl

/-! ## The end of a migration, and the reports -/

@[simp] theorem State.setEntry_elsewhere (i : EntryIx) (e : Entry) : (s.setEntry i e).elsewhere = s.elsewhere := rfl
@[simp] theorem State.setInRepair_elsewhere (k : Key) (c : Option Ctx) : (s.setInRepair k c).elsewhere = s.elsewhere := rfl
@[simp] theorem State.setReports_elsewhere (l : List Report) : (s.setReports l).elsewhere = s.elsewhere := rfl

@[simp] theorem State.abortSlot_elsewhere (j : Job) (r : AbortReason) : (s.abortSlot j r).elsewhere = s.elsewhere := by
  unfold State.abortSlot; split <;> rfl

@[simp] theorem State.raiseIf_elsewhere (b : Bool) (k : Condition) : (s.raiseIf b k).elsewhere = s.elsewhere := by
  unfold State.raiseIf; split <;> rfl

@[simp] theorem State.abortChanges_elsewhere (c : Ctx) (j : Job) (r : AbortReason) :
    (s.abortChanges c j r).elsewhere = s.elsewhere := by
  rw [State.abortChanges, State.elsewhere_of_offLink (State.dropHeld_offLink ..), State.raiseIf_elsewhere,
    State.elsewhere_of_offLink (State.setLastResult_offLink ..), State.setInRepair_elsewhere, State.abortSlot_elsewhere,
    State.setEntry_elsewhere]

@[simp] theorem State.abort_elsewhere (c : Ctx) (r : AbortReason) : (s.abort c r).elsewhere = s.elsewhere := by
  unfold State.abort; split
  · rfl
  · split
    · exact (State.elsewhere_of_offLink (State.enterIdle_offLink ..)).trans (s.abortChanges_elsewhere ..)
    · exact (State.elsewhere_of_offLink (State.abortMessages_offLink ..)).trans (s.abortChanges_elsewhere ..)

@[simp] theorem State.endSilently_elsewhere (r : AbortReason) (c : Ctx) : (s.endSilently r c).elsewhere = s.elsewhere := by
  unfold State.endSilently; split
  · rfl
  · exact State.elsewhere_of_offLink (s.enterIdle_offLink ..)
  · exact s.abort_elsewhere c r

@[simp] theorem State.endAllSilently_elsewhere (r : AbortReason) : (s.endAllSilently r).elsewhere = s.elsewhere :=
  List.foldlRecOn (motive := fun u : State => u.elsewhere = s.elsewhere) _ _ rfl
    fun u hu c _ => (u.endSilently_elsewhere r c).trans hu

@[simp] theorem State.cutoverSlots_elsewhere (j : Job) : (s.cutoverSlots j).elsewhere = s.elsewhere := by
  rcases s.cutoverSlots_cases j with ⟨_, -, -, he⟩ | ⟨-, he⟩ <;> rw [he] <;> rfl

@[simp] theorem State.cutoverTables_elsewhere (j : Job) : (s.cutoverTables j).elsewhere = s.elsewhere := by
  have settled (u : State) (i e k) : (((u.setEntry i e).bumpGeneration).removeItem k).elsewhere = u.elsewhere := rfl
  exact (settled ..).trans (s.cutoverSlots_elsewhere j)

@[simp] theorem State.cutoverChanges_elsewhere (c : Ctx) (j : Job) : (s.cutoverChanges c j).elsewhere = s.elsewhere := by
  have told (u : State) : ((u.setLastResult c .success).raise .migrationDone).elsewhere = u.elsewhere := rfl
  exact (told _).trans (s.cutoverTables_elsewhere j)

@[simp] theorem State.cutover_elsewhere (c : Ctx) (j : Job) : (s.cutover c j).elsewhere = s.elsewhere := by
  unfold State.cutover; split
  · exact (State.elsewhere_of_offLink (by simp)).trans (s.cutoverChanges_elsewhere c j)
  · exact (State.elsewhere_of_offLink (by simp)).trans (s.cutoverChanges_elsewhere c j)

@[simp] theorem State.takeSourceWrite_elsewhere (c : Ctx) (o : Origin) (b : Fin 32) :
    (s.takeSourceWrite c o b).elsewhere = s.elsewhere := by
  unfold State.takeSourceWrite; split
  · rfl
  · rfl
  · split
    · split
      · simp
      · exact State.elsewhere_of_offLink (by simp)
    · rfl

@[simp] theorem State.decideClose_elsewhere (c : Ctx) : (s.decideClose c).elsewhere = s.elsewhere := by
  unfold State.decideClose; split
  · split <;> simp
  · rfl

theorem State.takeReports_elsewhere (l : List Report) : ∀ s : State, (State.takeReports l s).elsewhere = s.elsewhere := by
  induction l with
  | nil => exact fun _ => rfl
  | cons x l ih =>
    intro s
    cases x with
    | sourceWrite => simp [State.takeReports, ih]
    | destWrite => exact (ih _).trans (State.elsewhere_of_offLink (s.takeDestWrite_offLink ..))
    | close => unfold State.takeReports; split <;> simp [ih]

@[simp] theorem State.takeAllReports_elsewhere : s.takeAllReports.elsewhere = s.elsewhere :=
  State.takeReports_elsewhere _ (s.setReports [])

end

end Sys2Proof.Machine
end

section
/-!
SUPPORT. What the end of a migration leaves, by abort (R87 to R89) and by cutover (R85, R86), and how a migration goes on to another
round or to the fence (R72, R80, R84).
-/

namespace Sys2Proof.Machine

variable {s t : State} {c : Ctx} {j : Job}

/-! ## Messages -/

section
variable (s) (c)

theorem State.setCtx_setCtx (x y : Context) : (s.setCtx c x).setCtx c y = s.setCtx c y := by
  simp [State.setCtx, Vector.set_set]

/-- R69: entry to IDLE in one write. -/
theorem State.enterIdle_eq (j : Job) :
    s.enterIdle c j = (s.setCtx c { s.ctx c with
      body := .idle (some ⟨j.direction, j.origin, j.round⟩), timer := none, held := [] }).setWaiting
        (s.sbl.waiting.filter fun d => d != c) := by
  rw [State.enterIdle, State.dropHeld, State.setCtx_ctx_same, State.setCtx_setCtx]
  rfl

theorem State.enterIdle_outbound (j : Job) : (s.enterIdle c j).sbl.outbound = s.sbl.outbound := rfl

/-- R113: a message joins OUTBOUND as far as there is room. -/
theorem State.makeMsg_outbound (m : OutMsg) :
    (s.makeMsg c m).sbl.outbound = s.sbl.outbound ++ [m].take (8 - s.sbl.outbound.length) := by
  by_cases room : s.sbl.outbound.length < 8
  · obtain ⟨n, hn⟩ : ∃ n, 8 - s.sbl.outbound.length = n + 1 := ⟨7 - s.sbl.outbound.length, by omega⟩
    rw [s.makeMsg_room c m room, hn, List.take_succ_cons, List.take_nil]
    rfl
  · have none : 8 - s.sbl.outbound.length = 0 := by omega
    rw [s.makeMsg_full c m room, none]
    simp [State.setWaiting, State.setCtx]

theorem State.makeMsg_ctx (m : OutMsg) (d : Ctx) :
    (s.makeMsg c m).ctx d =
      if d = c then
        if s.sbl.outbound.length < 8 then (s.ctx c).queued m
        else { s.ctx c with held := (s.ctx c).held ++ [⟨m, false⟩] }
      else s.ctx d := by
  by_cases room : s.sbl.outbound.length < 8
  · rw [s.makeMsg_room c m room, if_pos room]
    exact s.setCtx_ctx c d _
  · rw [s.makeMsg_full c m room, if_neg room]
    exact s.setCtx_ctx c d _

end

/-! ## How a migration goes on -/

/-- R72, R75, R76: the next round, with room for its order. -/
theorem State.startRound_of_room (room : s.sbl.outbound.length < 8) (c : Ctx) (j : Job) :
    s.startRound c j = (s.setCtx c { s.ctx c with
      body := .busy .offering j.nextRound, timer := some j.captured.offerTimeout }).setOutbound
        (s.sbl.outbound ++ [.copyOrder c (j.round + 1) j.origin j.destSlot (~~~j.copied ||| j.dirty)]) := by
  have room : (s.enterState c .offering j.nextRound).sbl.outbound.length < 8 := room
  rw [State.startRound, State.makeMsg_room _ _ _ room, State.enterState, State.setCtx_ctx_same, State.setCtx_setCtx]
  rfl

/-- R75, R76, R80: the fence is asked for, with room for the order. -/
theorem State.requestFence_of_room (room : s.sbl.outbound.length < 8) (c : Ctx) (j : Job) :
    s.requestFence c j = (s.setCtx c { s.ctx c with
      body := .busy .fencing { j with fenced := .requested }, timer := some j.captured.fenceTimeout }).setOutbound
        (s.sbl.outbound ++ [.fenceOrder c j.round .set j.origin]) := by
  have room : (s.enterState c .fencing { j with fenced := .requested }).sbl.outbound.length < 8 := room
  rw [State.requestFence, State.makeMsg_room _ _ _ room, State.enterState, State.setCtx_ctx_same, State.setCtx_setCtx]
  rfl

/-! ## Abort -/

section
variable (s) (c) (j)

theorem State.abortSlot_slot (reason : AbortReason) (r : Rank) (b : Bank) (k : SlotNo) :
    (s.abortSlot j reason).slot r b k =
      if r = j.origin.rank ∧ b = j.origin.bank ∧ k = j.destSlot then
        ⟨.free, if reason = .targetFault then .bad else (s.slot j.origin.rank j.origin.bank j.destSlot).grade⟩
      else s.slot r b k := by
  unfold State.abortSlot
  split
  · exact s.setSlot_slot ..
  · exact s.setSlot_slot ..

/-! ### What an abort changes before its messages -/

theorem State.abortChanges_entry (reason : AbortReason) (i : EntryIx) :
    (s.abortChanges c j reason).entry i = if i = j.entry then (s.entry j.entry).restored else s.entry i := by
  rw [← s.setEntry_entry j.entry i]
  exact State.entry_eq_of_rmt_eq (by simp [State.abortChanges]) i

theorem State.abortChanges_generation (reason : AbortReason) : (s.abortChanges c j reason).rmt.generation = s.rmt.generation := by
  simp [State.abortChanges, State.setEntry]

theorem State.abortChanges_slot (reason : AbortReason) (r : Rank) (b : Bank) (k : SlotNo) :
    (s.abortChanges c j reason).slot r b k =
      if r = j.origin.rank ∧ b = j.origin.bank ∧ k = j.destSlot then
        ⟨.free, if reason = .targetFault then .bad else (s.slot j.origin.rank j.origin.bank j.destSlot).grade⟩
      else s.slot r b k :=
  (State.slot_eq_of_tables (s.abortChanges_onLink c j reason).tables r b k).trans
    ((s.setEntry j.entry (s.entry j.entry).restored).abortSlot_slot j reason r b k)

theorem State.abortChanges_items (reason : AbortReason) :
    (s.abortChanges c j reason).wls.items =
      s.wls.items.map fun i => if i.key = s.migrationKey j then { i with inRepair := none } else i := by
  have marked (u : State) (k : Key) : (u.setInRepair k none).wls.items =
    u.wls.items.map fun i => if i.key = k then { i with inRepair := none } else i := rfl
  rw [State.items_eq_of_tables (s.abortChanges_onLink c j reason).tables, State.abortTables, marked]
  congr 1
  unfold State.abortSlot; split <;> rfl

theorem State.abortChanges_ctx (reason : AbortReason) (d : Ctx) :
    (s.abortChanges c j reason).ctx d =
      if d = c then { s.ctx c with lastResult := some (.aborted reason), held := [] } else s.ctx d := by
  have told (u : State) (b : Bool) (k : Condition) (x : MigrationResult) :
      (((u.setLastResult c x).raiseIf b k).dropHeld c).ctx d =
        if d = c then { u.ctx c with lastResult := some x, held := [] } else u.ctx d := by
    have raised (v : State) (e : Ctx) : (v.raiseIf b k).ctx e = v.ctx e := by rw [State.ctx, State.ctx, State.raiseIf_mge]
    rw [State.dropHeld, State.setLastResult]
    refine (State.setCtx_ctx ..).trans ?_
    rw [raised, raised, State.setCtx_ctx_same, State.setCtx_ctx]
    split <;> rfl
  have tables (e : Ctx) : (s.abortTables j reason).ctx e = s.ctx e := by rw [State.ctx, State.ctx, State.abortTables_mge]
  rw [← tables, ← tables]
  exact told ..

theorem State.abortChanges_sbl (reason : AbortReason) :
    (s.abortChanges c j reason).sbl = { s.sbl with waiting := s.sbl.waiting.filter fun d => d != c } := by
  unfold State.abortChanges State.abortSlot State.raiseIf
  split <;> split <;> rfl

theorem State.abortChanges_conditions (reason : AbortReason) :
    (s.abortChanges c j reason).port.conditions =
      if reason = .warmReset then s.port.conditions else s.port.conditions ||| conditionBit .migrationFailed := by
  unfold State.abortChanges State.abortSlot State.raiseIf
  by_cases h : reason = .warmReset
  · subst h; rfl
  · simp only [bne_iff_ne, ne_eq, h, not_false_eq_true, if_true, if_false]
    split <;> rfl

/-- R88. -/
theorem State.abortEffects_of_abortChanges {reason : AbortReason} (link : t.offLink = (s.abortChanges c j reason).offLink)
    (last : (t.ctx c).lastResult = some (.aborted reason)) (others : ∀ d, d ≠ c → t.ctx d = s.ctx d) :
    s.AbortEffects t c j reason (s.migrationKey j) where
  entry := by
    rw [State.entry_of_offLink link, State.abortChanges_entry, if_pos rfl]
    cases s.entry j.entry <;> rfl
  otherEntries i hi := by rw [State.entry_of_offLink link, State.abortChanges_entry, if_neg hi]
  generation := (congrArg (·.rmt.generation) link :).trans (s.abortChanges_generation ..)
  slot := by rw [State.slot_of_offLink link, State.abortChanges_slot, if_pos ⟨rfl, rfl, rfl⟩]
  otherSlots r b k hk := by
    rw [State.slot_of_offLink link, State.abortChanges_slot, if_neg]
    rintro ⟨rfl, rfl, rfl⟩
    exact hk rfl
  items := (congrArg (·.wls.items) link :).trans (s.abortChanges_items ..)
  lastResult := last
  otherContexts := others
  conditions := (congrArg (·.port.conditions) link :).trans (s.abortChanges_conditions ..)
  elsewhere := State.sameElsewhere_of_elsewhere ((State.elsewhere_of_offLink link).trans (s.abortChanges_elsewhere ..))

/-! ### Its messages -/

theorem State.abortMessages_outbound :
    (s.abortMessages c j).sbl.outbound = s.sbl.outbound ++ (abortMsgs c j).take (8 - s.sbl.outbound.length) := by
  unfold State.abortMessages abortMsgs
  split
  · rw [State.enterIdle_outbound, State.makeMsg_outbound]
  · have entered : (s.enterState c .closing j).sbl.outbound = s.sbl.outbound := rfl
    rw [State.makeMsg_outbound, State.makeMsg_outbound, entered, List.append_assoc]
    generalize s.sbl.outbound = l
    congr 1
    rcases Nat.lt_trichotomy l.length 7 with h | h | h
    · obtain ⟨n, hn⟩ : ∃ n, 8 - l.length = n + 2 := ⟨6 - l.length, by omega⟩
      have second : 8 - (l.length + 1) = n + 1 := by omega
      simp [hn, second]
    · simp [h]
    · have full : 8 - l.length = 0 := by omega
      simp [full]

theorem State.abortMessages_ctx :
    ∃ held, (s.abortMessages c j).ctx c =
      ⟨if j.fenced = .no then .idle (some ⟨j.direction, j.origin, j.round⟩) else .busy .closing j, (s.ctx c).lastResult, held,
        if j.fenced ≠ .no ∧ s.sbl.outbound.length + 2 ≤ 8 then some j.captured.fenceTimeout else none⟩ := by
  unfold State.abortMessages
  split
  · next unfenced =>
    have last : ((s.makeMsg c (.cancelOrder c j.round)).ctx c).lastResult = (s.ctx c).lastResult := by
      rw [State.makeMsg_ctx, if_pos rfl]
      split
      · unfold Context.queued; split <;> rfl
      · rfl
    exact ⟨[], by rw [State.enterIdle_ctx, if_pos rfl, last, if_neg fun h => h.1 unfenced]⟩
  · next fenced =>
    have entered : (s.enterState c .closing j).ctx c = ⟨.busy .closing j, (s.ctx c).lastResult, (s.ctx c).held, none⟩ :=
      State.setCtx_ctx_same ..
    have outbound : (s.enterState c .closing j).sbl.outbound = s.sbl.outbound := rfl
    rw [State.makeMsg_ctx, State.makeMsg_ctx, State.makeMsg_outbound, entered, outbound]
    simp only [if_true, fenced, ne_eq, not_false_eq_true, true_and]
    rcases Nat.lt_trichotomy s.sbl.outbound.length 7 with h | h | h
    · obtain ⟨n, hn⟩ : ∃ n, 8 - s.sbl.outbound.length = n + 1 := ⟨7 - s.sbl.outbound.length, by omega⟩
      have first : s.sbl.outbound.length < 8 := by omega
      have second : s.sbl.outbound.length + 1 < 8 := by omega
      have both : s.sbl.outbound.length + 2 ≤ 8 := by omega
      simp [hn, first, second, both, Context.queued, Context.timerFor]
    · simp [h, Context.queued, Context.timerFor]
    · have full : 8 - s.sbl.outbound.length = 0 := by omega
      have first : ¬s.sbl.outbound.length < 8 := by omega
      have both : ¬s.sbl.outbound.length + 2 ≤ 8 := by omega
      simp [full, first, both]

theorem State.abortMessages_ctx_other {d : Ctx} (hd : d ≠ c) : (s.abortMessages c j).ctx d = s.ctx d := by
  unfold State.abortMessages
  split
  · rw [State.enterIdle_ctx, if_neg hd, State.makeMsg_ctx, if_neg hd]
  · rw [State.makeMsg_ctx, if_neg hd, State.makeMsg_ctx, if_neg hd, State.enterState, State.setCtx_ctx, if_neg hd]

end

/-- R88, R89: an abort for a messaging reason. -/
theorem State.abort_withMessages {st : BusyState} (hb : (s.ctx c).body = .busy st j) (active : st ≠ .closing)
    {reason : AbortReason} (messaging : reason.silent = false) :
    s.AbortedWithMessages (s.abort c reason) c j reason (s.migrationKey j) := by
  have aborted : s.abort c reason = (s.abortChanges c j reason).abortMessages c j := by
    simp [State.abort, Context.activeJob_eq_some.2 ⟨st, active, hb⟩, messaging]
  obtain ⟨held, after⟩ := (s.abortChanges c j reason).abortMessages_ctx c j
  have changed : (s.abortChanges c j reason).ctx c = _ := (s.abortChanges_ctx c j reason c).trans (if_pos rfl)
  have link := s.abortChanges_sbl c j reason
  rw [aborted]
  refine ⟨State.abortEffects_of_abortChanges s c j (State.abortMessages_offLink ..) ?_ fun d hd => ?_, ?_, ?_, ?_⟩
  · rw [after, changed]
  · rw [State.abortMessages_ctx_other _ _ _ hd, State.abortChanges_ctx, if_neg hd]
  · rw [after]
  · rw [State.abortMessages_outbound, link]
  · rw [after, link]

/-! ## Cutover -/

section
variable (s) (c) (j)

/-- What a cutover changes besides the slots (R85). -/
def State.settle (c : Ctx) (i : EntryIx) (e : Entry) (k : Key) : State :=
  (((((s.setEntry i e).bumpGeneration).removeItem k).setLastResult c .success).raise .migrationDone)

theorem State.cutoverChanges_eq_settle :
    s.cutoverChanges c j = (s.cutoverSlots j).settle c j.entry ((s.entry j.entry).cutOver j.destSlot) (s.migrationKey j) := rfl

section
variable (i : EntryIx) (e : Entry) (k : Key)

theorem State.settle_rmt : (s.settle c i e k).rmt = (s.setEntry i e).bumpGeneration.rmt := by simp [State.settle]
theorem State.settle_sld : (s.settle c i e k).sld = s.sld := by simp [State.settle]
theorem State.settle_sbl : (s.settle c i e k).sbl = s.sbl := by simp [State.settle]
theorem State.settle_mge : (s.settle c i e k).mge = (s.setLastResult c .success).mge := rfl

theorem State.settle_entry (i' : EntryIx) : (s.settle c i e k).entry i' = if i' = i then e else s.entry i' :=
  (State.entry_eq_of_rmt_eq (s.settle_rmt c i e k) i').trans (s.setEntry_entry i i' e)

theorem State.settle_generation : (s.settle c i e k).rmt.generation = s.rmt.generation + 1 := by
  rw [State.settle_rmt]
  rfl

theorem State.settle_slot (r : Rank) (b : Bank) (n : SlotNo) : (s.settle c i e k).slot r b n = s.slot r b n := by
  rw [State.slot, State.settle_sld]
  rfl

theorem State.settle_items : (s.settle c i e k).wls.items = s.wls.items.filter fun x => x.key != k := rfl
theorem State.settle_conditions : (s.settle c i e k).port.conditions = s.port.conditions ||| conditionBit .migrationDone := rfl

theorem State.settle_ctx (d : Ctx) :
    (s.settle c i e k).ctx d = if d = c then { s.ctx c with lastResult := some .success } else s.ctx d := by
  rw [State.ctx, State.settle_mge]
  exact s.setCtx_ctx c d _

end

theorem State.cutoverChanges_entry (i : EntryIx) :
    (s.cutoverChanges c j).entry i = if i = j.entry then (s.entry j.entry).cutOver j.destSlot else s.entry i := by
  rw [State.cutoverChanges_eq_settle, State.settle_entry, State.entry_eq_of_rmt_eq (s.cutoverSlots_rmt j)]

theorem State.cutoverChanges_generation : (s.cutoverChanges c j).rmt.generation = s.rmt.generation + 1 := by
  rw [State.cutoverChanges_eq_settle, State.settle_generation, s.cutoverSlots_rmt]

theorem State.cutoverChanges_slot (r : Rank) (b : Bank) (k : SlotNo) :
    (s.cutoverChanges c j).slot r b k = (s.cutoverSlots j).slot r b k := by
  rw [State.cutoverChanges_eq_settle, State.settle_slot]

theorem State.cutoverSlots_wls : (s.cutoverSlots j).wls = s.wls := by
  rcases s.cutoverSlots_cases j with ⟨_, -, -, he⟩ | ⟨-, he⟩ <;> rw [he] <;> rfl

theorem State.cutoverSlots_sbl : (s.cutoverSlots j).sbl = s.sbl := by
  rcases s.cutoverSlots_cases j with ⟨_, -, -, he⟩ | ⟨-, he⟩ <;> rw [he] <;> rfl

theorem State.cutoverSlots_port : (s.cutoverSlots j).port = s.port := by
  rcases s.cutoverSlots_cases j with ⟨_, -, -, he⟩ | ⟨-, he⟩ <;> rw [he] <;> rfl

theorem State.cutoverChanges_items :
    (s.cutoverChanges c j).wls.items = s.wls.items.filter fun i => i.key != s.migrationKey j := by
  rw [State.cutoverChanges_eq_settle, State.settle_items, State.cutoverSlots_wls]

theorem State.cutoverChanges_sbl : (s.cutoverChanges c j).sbl = s.sbl := by
  rw [State.cutoverChanges_eq_settle, State.settle_sbl, State.cutoverSlots_sbl]

theorem State.cutoverChanges_conditions :
    (s.cutoverChanges c j).port.conditions = s.port.conditions ||| conditionBit .migrationDone := by
  rw [State.cutoverChanges_eq_settle, State.settle_conditions, State.cutoverSlots_port]

theorem State.cutoverChanges_ctx (d : Ctx) :
    (s.cutoverChanges c j).ctx d = if d = c then { s.ctx c with lastResult := some .success } else s.ctx d := by
  have slots (e : Ctx) : (s.cutoverSlots j).ctx e = s.ctx e := by rw [State.ctx, State.ctx, State.cutoverSlots_mge]
  rw [State.cutoverChanges_eq_settle, State.settle_ctx, slots, slots]

/-- R34: the old slot of a move, apart from the destination. -/
theorem State.cutoverSlots_slot_old {k : SlotNo} (move : j.direction = .move) (hk : (s.entry j.entry).slot = some k) :
    (s.cutoverSlots j).slot j.origin.rank j.origin.bank k = ⟨.free, .bad⟩ := by
  rcases s.cutoverSlots_cases j with ⟨k', -, hk', he⟩ | ⟨hn, -⟩
  · rw [he, State.freeSlotBad, State.setSlot_slot, if_pos ⟨rfl, rfl, Option.some.inj (hk.symm.trans hk')⟩]
  · exact absurd hk (hn k move)

theorem State.cutoverSlots_slot_dest (apart : (s.entry j.entry).slot ≠ some j.destSlot) :
    (s.cutoverSlots j).slot j.origin.rank j.origin.bank j.destSlot =
      ⟨.mapped j.entry, (s.slot j.origin.rank j.origin.bank j.destSlot).grade⟩ := by
  have mapped : (s.setSlotState j.origin.rank j.origin.bank j.destSlot (.mapped j.entry)).slot j.origin.rank j.origin.bank
      j.destSlot = _ := (s.setSlot_slot ..).trans (if_pos ⟨rfl, rfl, rfl⟩)
  rcases s.cutoverSlots_cases j with ⟨k, -, hk, he⟩ | ⟨-, he⟩
  · have other : ¬(j.origin.rank = j.origin.rank ∧ j.origin.bank = j.origin.bank ∧ j.destSlot = k) :=
      fun ⟨_, _, same⟩ => apart (same ▸ hk)
    rw [he, State.freeSlotBad, State.setSlot_slot, if_neg other, mapped]
  · rw [he, mapped]

theorem State.cutoverSlots_slot_other {r : Rank} {b : Bank} {k : SlotNo}
    (dest : (r, b, k) ≠ (j.origin.rank, j.origin.bank, j.destSlot))
    (old : j.direction = .move → (r, b) = (j.origin.rank, j.origin.bank) → (s.entry j.entry).slot ≠ some k) :
    (s.cutoverSlots j).slot r b k = s.slot r b k := by
  have mapped : (s.setSlotState j.origin.rank j.origin.bank j.destSlot (.mapped j.entry)).slot r b k = s.slot r b k := by
    refine (s.setSlot_slot ..).trans (if_neg ?_)
    rintro ⟨rfl, rfl, rfl⟩
    exact dest rfl
  rcases s.cutoverSlots_cases j with ⟨k', move, hk', he⟩ | ⟨-, he⟩
  · rw [he, State.freeSlotBad, State.setSlot_slot, if_neg, mapped]
    rintro ⟨rfl, rfl, rfl⟩
    exact old move rfl hk'
  · rw [he, mapped]

/-- R86: what the context is left with when the release of a held fence finds room. -/
theorem State.cutover_ctx (room : j.fenced = .held → s.sbl.outbound.length < 8) (d : Ctx) :
    ∃ held, (s.cutover c j).ctx d = if d = c then
      ⟨if j.fenced = .held then .busy .closing j else .idle (some ⟨j.direction, j.origin, j.round⟩), some .success, held,
        if j.fenced = .held then some j.captured.fenceTimeout else none⟩ else s.ctx d := by
  have changed := s.cutoverChanges_ctx c j
  have same : (s.cutoverChanges c j).ctx c = { s.ctx c with lastResult := some .success } := (changed c).trans (if_pos rfl)
  unfold State.cutover
  split
  · next held =>
    have entered : ((s.cutoverChanges c j).enterState c .closing j).sbl = s.sbl := s.cutoverChanges_sbl c j
    refine ⟨(s.ctx c).held, ?_⟩
    rw [State.makeMsg_ctx, entered, if_pos (room held), State.enterState, State.setCtx_ctx_same, State.setCtx_ctx, same, changed]
    split
    · rfl
    · rfl
  · refine ⟨[], ?_⟩
    rw [State.enterIdle_ctx, same, changed]
    split
    · rfl
    · rfl

theorem State.cutover_outbound (room : j.fenced = .held → s.sbl.outbound.length < 8) :
    (s.cutover c j).sbl.outbound =
      s.sbl.outbound ++ if j.fenced = .held then [.fenceOrder c j.round .release j.origin] else [] := by
  have changed := s.cutoverChanges_sbl c j
  unfold State.cutover
  split
  · next held =>
    have entered : ((s.cutoverChanges c j).enterState c .closing j).sbl = s.sbl := changed
    rw [State.makeMsg_room _ _ _ (by rw [entered]; exact room held), entered]
    rfl
  · rw [State.enterIdle_outbound, List.append_nil, changed]

theorem State.cutover_offLink : (s.cutover c j).offLink = (s.cutoverChanges c j).offLink := by
  unfold State.cutover; split <;> simp

/-- R85, R86. -/
theorem State.cutOver_of_cutover (apart : (s.entry j.entry).slot ≠ some j.destSlot)
    (room : j.fenced = .held → s.sbl.outbound.length < 8) : s.CutOver (s.cutover c j) c j (s.migrationKey j) := by
  have link := s.cutover_offLink c j
  have slot (r b k) : (s.cutover c j).slot r b k = (s.cutoverSlots j).slot r b k := by
    rw [State.slot_of_offLink link, State.cutoverChanges_slot]
  have ctx := s.cutover_ctx c j room
  obtain ⟨held, here⟩ := ctx c
  rw [if_pos rfl] at here
  exact {
    entry := by
      rw [State.entry_of_offLink link, State.cutoverChanges_entry, if_pos rfl]
      cases s.entry j.entry <;> rfl
    otherEntries := fun i hi => by rw [State.entry_of_offLink link, State.cutoverChanges_entry, if_neg hi]
    generation := (congrArg (·.rmt.generation) link :).trans (s.cutoverChanges_generation c j)
    slot := (slot ..).trans (s.cutoverSlots_slot_dest j apart)
    oldSlot := fun move k hk _ => (slot ..).trans (s.cutoverSlots_slot_old j move hk)
    otherSlots := fun r b k dest old => (slot ..).trans (s.cutoverSlots_slot_other j dest old)
    items := (congrArg (·.wls.items) link :).trans (s.cutoverChanges_items c j)
    lastResult := by rw [here]
    body := by rw [here]
    timer := by rw [here]
    otherContexts := fun d hd => by
      obtain ⟨_, there⟩ := ctx d
      rw [there, if_neg hd]
    outbound := s.cutover_outbound c j room
    conditions := (congrArg (·.port.conditions) link :).trans (s.cutoverChanges_conditions c j)
    elsewhere := State.sameElsewhere_of_elsewhere (s.cutover_elsewhere c j) }

end

/-! ## Through the reports and replies taken before -/

section
variable {m : Migration} {reason : AbortReason} {key : Key}

/-- What an abort leaves does not depend on what the Migration Engine had still to take, nor on the context it ends. -/
theorem State.AbortedWithMessages.ofMge (h : { s with mge := m }.AbortedWithMessages t c j reason key)
    (contexts : ∀ d, d ≠ c → { s with mge := m }.ctx d = s.ctx d) : s.AbortedWithMessages t c j reason key := by
  obtain ⟨⟨entry, otherEntries, generation, slot, otherSlots, items, last, others, conditions, elsewhere⟩, body, outbound,
    timer⟩ := h
  obtain ⟨pending, mode, ready, powerHeld, pins, ctr, link, watch, pol, rst, port, freeCount⟩ := elsewhere
  exact ⟨⟨entry, otherEntries, generation, slot, otherSlots, items, last, fun d hd => (others d hd).trans (contexts d hd),
    conditions, ⟨pending, mode, ready, powerHeld, pins, ctr, link, watch, pol, rst, port, freeCount⟩⟩, body, outbound,
    timer⟩

/-- The same for a cutover. -/
theorem State.CutOver.ofMge (h : { s with mge := m }.CutOver t c j key)
    (contexts : ∀ d, d ≠ c → { s with mge := m }.ctx d = s.ctx d) : s.CutOver t c j key := by
  obtain ⟨entry, otherEntries, generation, slot, oldSlot, otherSlots, items, last, body, timer, others, outbound, conditions,
    elsewhere⟩ := h
  obtain ⟨pending, mode, ready, powerHeld, pins, ctr, link, watch, pol, rst, port, freeCount⟩ := elsewhere
  exact ⟨entry, otherEntries, generation, slot, oldSlot, otherSlots, items, last, body, timer,
    fun d hd => (others d hd).trans (contexts d hd), outbound, conditions,
    ⟨pending, mode, ready, powerHeld, pins, ctr, link, watch, pol, rst, port, freeCount⟩⟩

end

end Sys2Proof.Machine
end

section
/-! The reports of the translator, one by one as the Migration Engine takes them (R73, R74, R82 to R86). -/

namespace Sys2Proof.Machine

variable {s : State} {c : Ctx} {st : BusyState} {j : Job}

/-! ## Source writes -/

/-- R73, R74: the source write at the head of the queue is taken alone. -/
theorem exec_sourceWriteReport {r : Rank} {b : Bank} {row : Nat} {k : Fin 32} {rest : List Report}
    (h : s.mge.reports = .sourceWrite c r b row k :: rest) :
    exec .sourceWriteReport s = .next ((s.setReports rest).takeSourceWrite c ⟨r, b, row⟩ k) := by
  refine (exec_commandOfReport h).trans ?_
  simp [State.takeHeadReport, h, State.queries, State.takeReports]

/-- R73, R82: a source write on the origin of an active migration. -/
theorem State.takeSourceWrite_of_busy (hb : (s.ctx c).body = .busy st j) (active : st ≠ .closing) (k : Fin 32) :
    s.takeSourceWrite c j.origin k = if j.fenced = .held then s.abort c .fenceBreach else s.dirtyBlock c st j k := by
  unfold State.takeSourceWrite
  cases st with
  | closing => exact absurd rfl active
  | _ => simp [hb]

/-- R73: in IDLE and CLOSING it is discarded. -/
theorem State.takeSourceWrite_of_inactive (h : (s.ctx c).activeJob = none) (o : Origin) (k : Fin 32) :
    s.takeSourceWrite c o k = s := by
  unfold State.takeSourceWrite
  split
  · rfl
  · rfl
  · next st j active hb => cases h.symm.trans (Context.activeJob_eq_some.2 ⟨st, active, hb⟩)

theorem Context.activeJob_of_inactive {x : Context} (h : x.isIdle = true ∨ ∃ j, x.body = .busy .closing j) :
    x.activeJob = none := by
  rcases h with h | ⟨j, h⟩
  · unfold Context.activeJob Context.isIdle at *
    split at h
    · next hb => rw [hb]
    · cases h
  · rw [Context.activeJob, h]

/-- R73: outside ARMED the block joins DIRTY. -/
theorem State.dirtyBlock_of_rounds (rounds : st ≠ .armed) (k : Fin 32) :
    s.dirtyBlock c st j k = s.setJob c st { j with dirty := BlockSet.insert k j.dirty } := by
  simp [State.dirtyBlock, rounds]

/-- R84: in ARMED, with the fence not asked for, the copy goes back to rounds or to the fence. -/
theorem State.dirtyBlock_of_armed (unfenced : j.fenced = .no) (k : Fin 32) :
    s.dirtyBlock c .armed j k =
      if j.round < j.captured.maxRounds then s.startRound c { j with dirty := BlockSet.insert k j.dirty }
      else s.requestFence c { j with dirty := BlockSet.insert k j.dirty } := by
  simp [State.dirtyBlock, unfenced]

/-- Settles O31: one clause for each outcome, by the state and the fence of the context. -/
theorem sourceWritesSpoilTheCopy : Obligations.SourceWritesSpoilTheCopy := by
  intro s c r b row k rest h
  have taken := exec_sourceWriteReport h
  have busy {st j} (hb : (s.ctx c).body = .busy st j) (ho : j.origin = ⟨r, b, row⟩) (active : st ≠ .closing) :
      exec .sourceWriteReport s = .next (if j.fenced = .held then (s.setReports rest).abort c .fenceBreach
        else (s.setReports rest).dirtyBlock c st j k) := by
    rw [taken, ← ho, State.takeSourceWrite_of_busy (s := s.setReports rest) hb active]
  refine ⟨fun st j hb ho active unarmed free => ?_, fun j hb ho free more room => ?_, fun j hb ho free last room => ?_,
    fun st j hb ho active held => ?_, fun inactive => ?_⟩
  · rw [busy hb ho active, if_neg free, State.dirtyBlock_of_rounds unarmed]
    rfl
  · rw [busy hb ho nofun, if_neg (by rw [free]; nofun), State.dirtyBlock_of_armed free, if_pos more,
      State.startRound_of_room (s := s.setReports rest) room]
    rfl
  · rw [busy hb ho nofun, if_neg (by rw [free]; nofun), State.dirtyBlock_of_armed free, if_neg (Nat.not_lt.2 last),
      State.requestFence_of_room (s := s.setReports rest) room]
    rfl
  · rw [busy hb ho active, if_pos held]
    have aborted := State.abort_withMessages (s := s.setReports rest) hb active (reason := .fenceBreach) rfl
    exact ⟨_, rfl, State.abort_reports .., aborted.ofMge fun _ _ => rfl⟩
  · rw [taken, State.takeSourceWrite_of_inactive (s := s.setReports rest) (Context.activeJob_of_inactive inactive)]
    rfl

/-! ## Destination writes -/

/-- R73, R74: the destination write at the head of the queue is taken alone. -/
theorem exec_destWriteReport {r : Rank} {b : Bank} {n : Nat} {k : Fin 32} {rest : List Report}
    (h : s.mge.reports = .destWrite c r b n k :: rest) :
    exec .destWriteReport s = .next ((s.setReports rest).takeDestWrite c r b n k) := by
  refine (exec_commandOfReport h).trans ?_
  simp [State.takeHeadReport, h, State.queries, State.takeReports]

theorem State.takeDestWrite_of_busy (hb : (s.ctx c).body = .busy st j) (active : st ≠ .closing) (k : Fin 32) :
    s.takeDestWrite c j.origin.rank j.origin.bank j.destSlot.val k =
      if BlockSet.has j.ordered k then s.setJob c st { j with copied := BlockSet.insert k j.copied } else s := by
  unfold State.takeDestWrite
  cases st with
  | closing => exact absurd rfl active
  | _ => simp [hb]

/-- Settles O32: by whether the block is one of ORDERED. -/
theorem destWritesCompleteTheCopy : Obligations.DestWritesCompleteTheCopy := by
  rintro s c r b n k rest st j h hb active rfl rfl rfl
  dsimp only
  rw [exec_destWriteReport h, State.takeDestWrite_of_busy (s := s.setReports rest) hb active]
  refine ⟨fun ordered => ?_, fun other => ?_⟩
  · rw [if_pos (show BlockSet.has j.ordered k = true from ordered)]
    rfl
  · rw [if_neg (show ¬BlockSet.has j.ordered k = true from Bool.eq_false_iff.1 other)]
    rfl

/-! ## Closes -/

/-- R61: the query of the source's record. -/
theorem State.sourceOpen_iff (s : State) (c : Ctx) (j : Job) :
    s.sourceOpen c j = true ↔
      ∃ x, s.record j.origin.rank j.origin.bank = some x ∧ x.issued = j.origin.row ∧ x.role = .source c := by
  unfold State.sourceOpen
  split
  · next x hx => simp [hx]
  · next hx => simp [hx]

section
variable {r : Rank} {b : Bank} {issued physical : Nat} {role : Role} {rest : List Report}

/-- R83: the ARMED context on whose origin the source was open. -/
theorem State.closeBelongs_of_armed (hb : (s.ctx c).body = .busy .armed j) (ho : j.origin = ⟨r, b, issued⟩) :
    s.closeBelongs r b issued (.source c) = some c := by
  simp [State.closeBelongs, hb, ho]

theorem State.closeBelongs_eq_none
    (h : ∀ c j, role = .source c → (s.ctx c).body = .busy .armed j → j.origin ≠ ⟨r, b, issued⟩) :
    s.closeBelongs r b issued role = none := by
  unfold State.closeBelongs
  split
  · split
    · next hb => rw [if_neg (h _ _ rfl hb)]
    · rfl
  · rfl

/-- R74, R83: a close that belongs to an ARMED context brings the rest of the queue in before its decision. -/
theorem exec_closeReportMigration_of_belongs (h : s.mge.reports = .close r b issued physical role :: rest)
    (belongs : s.closeBelongs r b issued role = some c) :
    exec .closeReportMigration s = .next ((State.takeReports rest (s.setReports [])).decideClose c) := by
  have still : (s.setReports []).closeBelongs r b issued role = some c := belongs
  refine (exec_commandOfReport h).trans ?_
  simp [State.takeHeadReport, h, State.queries, belongs, State.takeAllReports, State.takeReports, still]

/-- R83: any other close is discarded. -/
theorem exec_closeReportMigration_of_other (h : s.mge.reports = .close r b issued physical role :: rest)
    (other : s.closeBelongs r b issued role = none) : exec .closeReportMigration s = .next (s.setReports rest) := by
  have still : (s.setReports rest).closeBelongs r b issued role = none := other
  refine (exec_commandOfReport h).trans ?_
  simp [State.takeHeadReport, h, State.queries, other, State.takeReports, still]

end

/-- R83, R85. -/
theorem State.decideClose_of_armed (hb : (s.ctx c).body = .busy .armed j) :
    s.decideClose c = if s.sourceOpen c j then s else s.cutover c j := by
  simp [State.decideClose, hb]

/-- R74: a context that a report has taken out of ARMED has no decision to make. -/
theorem State.decideClose_of_other (hb : (s.ctx c).body = .busy st j) (left : st ≠ .armed) : s.decideClose c = s := by
  cases st with
  | armed => exact absurd rfl left
  | _ => simp [State.decideClose, hb]

/-- R85, R86: a cutover whose release finds no room. -/
theorem State.cutover_of_full (held : j.fenced = .held) (full : 8 ≤ s.sbl.outbound.length) :
    s.cutover c j = (((s.cutoverChanges c j).setCtx c ⟨.busy .closing j, some .success,
      (s.ctx c).held ++ [⟨.fenceOrder c j.round .release j.origin, false⟩], none⟩)).setWaiting (s.sbl.waiting ++ [c]) := by
  have entered : ((s.cutoverChanges c j).enterState c .closing j).sbl = s.sbl := s.cutoverChanges_sbl c j
  rw [State.cutover, if_pos held, State.makeMsg_full _ _ _ (by rw [entered]; omega), entered, State.enterState,
    State.setCtx_ctx_same, State.setCtx_setCtx, State.cutoverChanges_ctx, if_pos rfl]

/-- Settles O33: a belonging close alone in the queue or with a source write behind it, and any other close. -/
theorem belongingCloseCutsOver : Obligations.BelongingCloseCutsOver := by
  intro s r b issued physical
  refine ⟨fun c j hb ho => ?_, fun role rest h other => ?_⟩
  swap
  · exact exec_closeReportMigration_of_other h (State.closeBelongs_eq_none other)
  have belongs := State.closeBelongs_of_armed hb ho
  have decided {rest} (h : s.mge.reports = .close r b issued physical (.source c) :: rest) :=
    exec_closeReportMigration_of_belongs h belongs
  have alone (h : s.mge.reports = [.close r b issued physical (.source c)]) : exec .closeReportMigration s =
      .next (if s.sourceOpen c j then s.setReports [] else (s.setReports []).cutover c j) := by
    rw [decided h, State.takeReports, State.decideClose_of_armed (s := s.setReports []) hb]
    rfl
  dsimp only
  have isOpen : s.sourceOpen c j = true ↔ ∃ x, s.record r b = some x ∧ x.issued = issued ∧ x.role = .source c := by
    rw [State.sourceOpen_iff, ho]
  rw [← isOpen]
  refine ⟨fun h closed apart _ _ room => ?_, fun h closed hheld held full => ?_, fun h opened => ?_,
    fun k h free more room => ?_⟩
  · rw [alone h, if_neg closed]
    have cut := State.cutOver_of_cutover (s.setReports []) c j apart room
    exact ⟨_, rfl, State.cutover_reports .., cut.ofMge fun _ _ => rfl⟩
  · rw [alone h, if_neg closed]
    refine ⟨_, rfl, State.cutover_reports .., ?_⟩
    rw [State.cutover_of_full (s := s.setReports []) held full]
    have ctx : ∀ (u : State) (x : Context) (l : List Ctx), ((u.setCtx c x).setWaiting l).ctx c = x := fun u x l =>
      u.setCtx_ctx_same c x
    refine ⟨by rw [ctx], by rw [ctx], by rw [ctx], ?_, ?_, ?_⟩
    · exact (s.setReports []).cutoverChanges_generation c j
    · rw [ctx]
      exact congrArg (· ++ _) hheld
    · exact congrArg (fun x : Link => { x with waiting := s.sbl.waiting ++ [c] }) ((s.setReports []).cutoverChanges_sbl c j)
  · rw [alone h, if_pos opened]
    rfl
  · have written : State.takeReports [.sourceWrite c r b issued k] (s.setReports []) =
        (s.setReports []).startRound c { j with dirty := BlockSet.insert k j.dirty } := by
      rw [State.takeReports, State.takeReports, ← ho, State.takeSourceWrite_of_busy (s := s.setReports []) hb nofun,
        if_neg (by rw [free]; nofun), State.dirtyBlock_of_armed free, if_pos more]
    have offering : (((s.setReports []).startRound c { j with dirty := BlockSet.insert k j.dirty }).ctx c).body =
        .busy .offering (Job.nextRound { j with dirty := BlockSet.insert k j.dirty }) := by
      rw [State.startRound_of_room (s := s.setReports []) room]
      exact congrArg Context.body (State.setCtx_ctx_same ..)
    rw [decided h, written, State.decideClose_of_other offering nofun, State.startRound_of_room (s := s.setReports []) room]
    rfl

end Sys2Proof.Machine
end

section
/-!
The controller's replies as the Migration Engine takes them (R77 to R81, R90, R91, R116), and the timers of a context (R75, R87, R90).
-/

namespace Sys2Proof.Machine

variable {s : State} {c : Ctx} {st : BusyState} {j : Job} {r : Reply} {rest : List Reply}

/-! ## The reply taken -/

/-- R101: the command of a reply that the link has passed on takes it. -/
theorem exec_commandOfReply (r : Reply) (s : State) : exec (commandOfReply r) s = .next (s.takeReply r) := by
  obtain ⟨c, round, body⟩ := r
  cases body with
  | fenceAck a => cases a <;> rfl
  | _ => rfl

theorem State.takeReply_of_head (powered : s.powerHeld = false) (h : s.mge.replies = r :: rest) :
    s.takeReply r = if s.sbl.state = .up then (s.withReplies rest).takeReplyBody r else s.withReplies rest := by
  have head : s.mge.replies.head? = some r := by rw [h]; rfl
  rw [State.takeReply, if_neg (Bool.eq_false_iff.1 powered), if_pos head, State.takePassedReply, h]
  exact if_pos rfl

theorem exec_reply (h : s.hasReply r rest) : exec (commandOfReply r) s = .next ((s.withReplies rest).takeReplyBody r) := by
  obtain ⟨powered, up, replies⟩ := h
  rw [exec_commandOfReply, State.takeReply_of_head powered replies, if_pos up]

/-! ## The match of a reply (R91) -/

/-- The job that a reply matches, by its kind. -/
def Context.matched (x : Context) (r : Reply) : Option Job :=
  match r.body with
  | .copyAccept => x.offered r.round
  | .copyRefuse _ => x.offered r.round
  | .copyDone => x.jobIn .copying r.round
  | .fenceAck a => x.fenceAsked a r.round

theorem Context.jobIn_iff {x : Context} {n : RoundField} :
    x.jobIn st n = some j ↔ x.body = .busy st j ∧ j.round = n.toNat := by
  unfold Context.jobIn
  split
  · next st' k hb =>
    rw [hb, Option.ite_none_right_eq_some]
    grind
  · next hb => simp [hb]

/-- The messages whose answer the reply would be, by the two ways of writing it. -/
theorem HeldMsg.unsentFor_accept (h : HeldMsg) : h.unsentFor .copyAccept = h.unsentOrder := by
  obtain ⟨m, _⟩ := h; cases m <;> rfl

theorem HeldMsg.unsentFor_refuse (h : HeldMsg) (x : RefuseReason) : h.unsentFor (.copyRefuse x) = h.unsentOrder := by
  obtain ⟨m, _⟩ := h; cases m <;> rfl

theorem HeldMsg.unsentFor_done (h : HeldMsg) : h.unsentFor .copyDone = false := by
  obtain ⟨m, _⟩ := h; cases m <;> rfl

theorem HeldMsg.unsentFor_fence (h : HeldMsg) (a : FenceAction) : h.unsentFor (.fenceAck a) = h.unsentFence a := by
  obtain ⟨m, _⟩ := h; cases m <;> rfl

theorem State.answeredBy_iff (s : State) (r : Reply) (j : Job) : s.answeredBy r j ↔ (s.ctx r.ctx).matched r = some j := by
  obtain ⟨c, n, body⟩ := r
  have unsent (p : HeldMsg → Bool) (l : List HeldMsg) : (∀ h ∈ l, p h = false) ↔ ¬l.any p = true := by simp
  unfold State.answeredBy Context.matched
  cases body with
  | copyAccept =>
    simp only [HeldMsg.unsentFor_accept, unsent, Context.offered, Option.ite_none_left_eq_some, Context.jobIn_iff, awaitedIn]
    tauto
  | copyRefuse x =>
    simp only [HeldMsg.unsentFor_refuse, unsent, Context.offered, Option.ite_none_left_eq_some, Context.jobIn_iff, awaitedIn]
    tauto
  | copyDone => simp [HeldMsg.unsentFor_done, Context.jobIn_iff, awaitedIn]
  | fenceAck a =>
    simp only [HeldMsg.unsentFor_fence, unsent, Context.fenceAsked, Option.ite_none_left_eq_some]
    cases a <;> simp only [Context.jobIn_iff, awaitedIn] <;> tauto

/-- A reply of another kind than the context awaits, or of another round, changes OUTBOUND alone. -/
theorem State.takeReplyBody_of_stale (stale : (s.ctx r.ctx).matched r = none) : s.takeReplyBody r = s.answerStale r := by
  unfold State.takeReplyBody Context.matched at *
  split at stale
  · next h => rw [h]; simp only [State.takeAccept, stale]
  · next h => rw [h]; simp only [State.takeRefuse, stale]
  · next h => rw [h]; simp only [State.takeDone, stale]
  · next a h =>
    rw [h]
    cases a with
    | set => simp only [State.takeFenceSet, stale]
    | release => simp only [State.takeFenceRelease, stale]

/-- Settles O43: a reply unmatched by its kind, and one taken after the link has left UP. -/
theorem staleRepliesAreAnswered : Obligations.StaleRepliesAreAnswered := by
  intro s r rest
  refine ⟨fun h stale => ?_, fun powered left h => ?_⟩
  · have unmatched : ((s.withReplies rest).ctx r.ctx).matched r = none :=
      Option.eq_none_iff_forall_ne_some.2 fun j hj => stale j ((s.answeredBy_iff r j).2 hj)
    have named : staleKindOf r.body = staleNameOf r.body := by cases r.body <;> rfl
    rw [exec_reply h, State.takeReplyBody_of_stale unmatched, State.answerStale, State.sendStale, named]
    by_cases room : s.sbl.outbound.length < 8
    · have free : (s.withReplies rest).outboundRoom = true := decide_eq_true room
      rw [if_pos room, if_pos free]
      rfl
    · have full : ¬(s.withReplies rest).outboundRoom = true := fun free => room (of_decide_eq_true free)
      rw [if_neg room, if_neg full]
  · rw [exec_commandOfReply, State.takeReply_of_head powered h, if_neg left]

/-! ## COPY_ACCEPT, COPY_REFUSE -/

/-- Settles O40: by the answer. -/
theorem copyAnswersMoveTheContext : Obligations.CopyAnswersMoveTheContext := by
  intro s c round rest j
  refine ⟨fun h answered => ?_, fun reason h answered => ?_⟩
  · have offered : ((s.withReplies rest).ctx c).offered round = some j := (s.answeredBy_iff _ j).1 answered
    refine (exec_reply h).trans ?_
    simp only [State.takeReplyBody, State.takeAccept, offered]
    rfl
  · have offered : ((s.withReplies rest).ctx c).offered round = some j := (s.answeredBy_iff _ j).1 answered
    have aborted := State.abort_withMessages (Context.offered_eq_some offered) nofun (reason := .refused) rfl
    have replies := (congrArg (·.mge.replies) ((s.withReplies rest).abort_elsewhere c .refused) :)
    refine ⟨(s.withReplies rest).abort c .refused, (exec_reply h).trans ?_, replies, aborted.ofMge fun _ _ => rfl⟩
    simp only [State.takeReplyBody, State.takeRefuse, offered]

/-! ## COPY_DONE -/

/-- R78. -/
theorem Job.clean_iff (j : Job) : j.clean = true ↔ j.copied = BitVec.allOnes 32 ∧ j.dirty = 0 := by
  simp [Job.clean, BlockSet.full]

/-- R74, R78: the round is decided by what the reports made before have left. -/
theorem State.takeDone_of_copying {k : Job} (hj : (s.ctx r.ctx).jobIn .copying r.round = some j)
    (hk : (s.takeAllReports.ctx r.ctx).jobIn .copying r.round = some k) :
    s.takeDone r = s.takeAllReports.endRound r.ctx k := by
  simp only [State.takeDone, hj, hk]

/-- R74, R78: with no report made before. -/
theorem State.takeDone_of_nil (hj : (s.ctx r.ctx).jobIn .copying r.round = some j) (reports : s.mge.reports = []) :
    s.takeDone r = s.endRound r.ctx j := by
  have none := s.takeAllReports_nil reports
  rw [State.takeDone_of_copying hj (none.symm ▸ hj), none]

/-- R80: what follows an unclean round. -/
theorem State.endRound_of_unclean (unclean : ¬j.clean = true) :
    s.endRound c j = if j.round < j.captured.maxRounds then s.startRound c j
      else if j.fenced = .no then s.requestFence c j else s.abort c .incomplete := by
  rw [State.endRound, if_neg unclean, State.afterUncleanRound]

/-- A set that a block has joined is not empty. -/
theorem BlockSet.insert_ne_zero (k : Fin 32) (x : BlockSet) : BlockSet.insert k x ≠ 0 := by
  intro h
  have bit : (BlockSet.insert k x).getLsbD k.val = true := by simp [BlockSet.insert]
  rw [h] at bit
  simp at bit

theorem State.armOrCutover_of_open (h : s.sourceOpen c j = true) :
    s.armOrCutover c j = s.setCtx c { s.ctx c with body := .busy .armed j, timer := some j.captured.roundTimeout } := by
  rw [State.armOrCutover, if_pos h]
  rfl

theorem State.armOrCutover_of_closed (h : ¬s.sourceOpen c j = true) : s.armOrCutover c j = s.cutover c j := by
  rw [State.armOrCutover, if_neg h]

/-- R73, R74: the source write that alone waits behind the reply. -/
theorem State.takeAllReports_of_sourceWrite (hb : (s.ctx c).body = .busy st j) (active : st ≠ .closing)
    (rounds : st ≠ .armed) (free : j.fenced = .no) {k : Fin 32}
    (h : s.mge.reports = [.sourceWrite c j.origin.rank j.origin.bank j.origin.row k]) :
    s.takeAllReports = (s.setReports []).setJob c st { j with dirty := BlockSet.insert k j.dirty } := by
  rw [State.takeAllReports, h, State.takeReports, State.takeReports,
    State.takeSourceWrite_of_busy (s := s.setReports []) hb active, if_neg (by rw [free]; nofun), State.dirtyBlock_of_rounds rounds]

/-- Settles O41: by whether the round is clean, then by ROUND and the fence. -/
theorem copyDoneDecidesTheRound : Obligations.CopyDoneDecidesTheRound := by
  intro s c round rest j h answered room
  have asked : ((s.withReplies rest).ctx c).jobIn .copying round = some j := (s.answeredBy_iff _ j).1 answered
  have copying := Context.jobIn_eq_some asked
  dsimp only
  rw [← State.sourceOpen_iff, ← Job.clean_iff]
  have decided (reports : s.mge.reports = []) :
      exec (.copyDone c round) s = .next ((s.withReplies rest).endRound c j) :=
    (exec_reply h).trans (congrArg _ (State.takeDone_of_nil asked reports))
  have closed (reports : s.mge.reports = []) (clean : j.clean = true) :
      exec (.copyDone c round) s = .next ((s.withReplies rest).armOrCutover c j) :=
    (decided reports).trans (congrArg _ (if_pos clean))
  refine ⟨fun reports clean opened => ?_, fun reports clean shut apart => ?_, fun reports unclean more => ?_,
    fun reports unclean last free => ?_, fun reports unclean last fenced => ?_, fun k reports free more => ?_⟩
  · rw [closed reports clean, State.armOrCutover_of_open (s := s.withReplies rest) opened]
    rfl
  · rw [closed reports clean, State.armOrCutover_of_closed (s := s.withReplies rest) shut]
    have replies := (congrArg (·.mge.replies) ((s.withReplies rest).cutover_elsewhere c j) :)
    exact ⟨_, rfl, replies, (State.cutOver_of_cutover (s.withReplies rest) c j apart fun _ => room).ofMge fun _ _ => rfl⟩
  · rw [decided reports, State.endRound_of_unclean unclean, if_pos more, State.startRound_of_room (s := s.withReplies rest) room]
    rfl
  · rw [decided reports, State.endRound_of_unclean unclean, if_neg (Nat.not_lt.2 last), if_pos free,
      State.requestFence_of_room (s := s.withReplies rest) room]
    rfl
  · rw [decided reports, State.endRound_of_unclean unclean, if_neg (Nat.not_lt.2 last), if_neg fenced]
    have replies := (congrArg (·.mge.replies) ((s.withReplies rest).abort_elsewhere c .incomplete) :)
    exact ⟨_, rfl, replies, (State.abort_withMessages copying nofun rfl).ofMge fun _ _ => rfl⟩
  · have taken := State.takeAllReports_of_sourceWrite (s := s.withReplies rest) copying nofun nofun free reports
    have still : ((s.withReplies rest).takeAllReports.ctx c).jobIn .copying round =
        some { j with dirty := BlockSet.insert k j.dirty } := by
      rw [taken]
      refine Context.jobIn_iff.2 ⟨congrArg Context.body (State.setCtx_ctx_same ..), (Context.jobIn_iff.1 asked).2⟩
    have unclean : ¬Job.clean { j with dirty := BlockSet.insert k j.dirty } = true := fun clean =>
      BlockSet.insert_ne_zero k j.dirty ((Job.clean_iff _).1 clean).2
    refine (exec_reply h).trans ?_
    rw [State.takeReplyBody, State.takeDone_of_copying asked still, State.endRound_of_unclean unclean, if_pos more, taken,
      State.startRound_of_room (by exact room), State.setJob, State.setCtx_ctx_same, State.setCtx_setCtx]
    rfl

/-! ## FENCE_ACK -/

/-- R81: the fenced round, or the test of a complete copy under the fence. -/
theorem State.takeFenceSet_of_asked (hj : (s.ctx r.ctx).fenceAsked .set r.round = some j) :
    s.takeFenceSet r = if j.clean then
      (s.enterState r.ctx .fencing { j with fenced := .held }).fencedTest r.ctx
      else s.startRound r.ctx { j with fenced := .held } := by
  simp only [State.takeFenceSet, hj]
  rfl

theorem State.fencedTest_of_nil (hb : (s.ctx c).body = .busy .fencing j) (reports : s.mge.reports = []) :
    s.fencedTest c = s.armOrCutover c j := by
  simp only [State.fencedTest, s.takeAllReports_nil reports, hb]

/-- Settles O42: the SET by what is left to copy and whether the source is open, then the RELEASE. -/
theorem fenceAcksAreTaken : Obligations.FenceAcksAreTaken := by
  intro s c round rest j
  dsimp only
  rw [← State.sourceOpen_iff]
  refine ⟨fun h answered room => ?_, fun h answered => ?_⟩
  · have asked : ((s.withReplies rest).ctx c).fenceAsked .set round = some j := (s.answeredBy_iff _ j).1 answered
    have taken := (exec_reply h).trans (congrArg _ (State.takeFenceSet_of_asked asked))
    let s2 := (s.withReplies rest).enterState c .fencing { j with fenced := .held }
    have fencing : s2.ctx c = ⟨.busy .fencing { j with fenced := .held }, (s.ctx c).lastResult, (s.ctx c).held, none⟩ :=
      State.setCtx_ctx_same ..
    have complete (copied : j.copied = BitVec.allOnes 32) (dirty : j.dirty = 0) (reports : s.mge.reports = []) :
        exec (.fenceAckSet c round) s = .next (s2.armOrCutover c { j with fenced := .held }) := by
      refine taken.trans ?_
      rw [if_pos (j.clean_iff.2 ⟨copied, dirty⟩)]
      exact congrArg _ (State.fencedTest_of_nil (congrArg Context.body fencing) reports)
    refine ⟨fun unclean => ?_, fun copied dirty reports opened => ?_, fun copied dirty reports shut apart => ?_⟩
    · refine taken.trans ?_
      rw [if_neg fun clean => ?_, State.startRound_of_room (s := s.withReplies rest) room]
      · rfl
      · obtain ⟨copied, dirty⟩ := j.clean_iff.1 clean
        exact unclean.elim (absurd copied) (absurd dirty)
    · rw [complete copied dirty reports, State.armOrCutover_of_open (s := s2) (j := { j with fenced := .held }) opened, fencing]
      exact congrArg _ (State.setCtx_setCtx ..)
    · rw [complete copied dirty reports, State.armOrCutover_of_closed (s := s2) (j := { j with fenced := .held }) shut]
      have replies := (congrArg (·.mge.replies) (s2.cutover_elsewhere c { j with fenced := .held }) :)
      have cut := State.cutOver_of_cutover s2 c { j with fenced := .held } apart fun _ => room
      exact ⟨_, rfl, replies, State.CutOver.ofMge (s := s) cut fun d hd => (State.setCtx_ctx ..).trans (if_neg hd)⟩
  · have asked : ((s.withReplies rest).ctx c).fenceAsked .release round = some j := (s.answeredBy_iff _ j).1 answered
    refine (exec_reply h).trans ?_
    simp only [State.takeReplyBody, State.takeFenceRelease, asked, State.enterIdle_eq]
    rfl

/-! ## Timers -/

theorem Context.runs_of_busy {x : Context} {n : Nat} (hb : x.body = .busy st j) (timer : x.timer = some n) :
    x.runs st = true := by
  simp [Context.runs, hb, timer]

theorem Context.runs_eq_false {x : Context} (h : x.timer = none ∨ ∀ j, x.body ≠ .busy st j) : x.runs st = false := by
  unfold Context.runs
  split
  · next st' k hb =>
    rcases h with timer | other
    · simp [timer]
    · have ne : st' ≠ st := fun e => other k (e ▸ hb)
      simp [ne]
  · rfl

/-- Settles O44: by whether the timer runs in the state it measures. -/
theorem contextTimersExpire : Obligations.ContextTimersExpire := by
  intro s c st cmd reason mem
  obtain ⟨active, messaging, expires⟩ : st ≠ .closing ∧ reason.silent = false ∧ exec cmd s = .next (s.expire c st reason) := by
    simp only [List.mem_cons, Prod.mk.injEq, List.not_mem_nil, or_false] at mem
    rcases mem with ⟨rfl, rfl, rfl⟩ | ⟨rfl, rfl, rfl⟩ | ⟨rfl, rfl, rfl⟩ | ⟨rfl, rfl, rfl⟩ <;> exact ⟨nofun, rfl, rfl⟩
  refine ⟨fun j n hb timer => ?_, fun stopped => ?_, fun j n hb timer => ?_, fun stopped => ?_⟩
  · rw [expires, State.expire, if_pos (Context.runs_of_busy hb timer)]
    exact ⟨_, rfl, State.abort_withMessages hb active messaging⟩
  · rw [expires, State.expire, if_neg (Bool.eq_false_iff.1 (Context.runs_eq_false stopped))]
  · have ended : s.closingExpiry c = (s.enterIdle c j).raise .linkFault := by simp [State.closingExpiry, hb, timer]
    exact congrArg _ (ended.trans (by rw [State.enterIdle_eq]))
  · refine congrArg Host.Outcome.next ?_
    unfold State.closingExpiry
    split
    · next j hb =>
      have timer := stopped.resolve_right fun other => other j hb
      simp [timer]
    · rfl

end Sys2Proof.Machine
end

section
/-!
The channel reset, as the Migration Engine (R97, R117) and the Remap Table (R25) take it, and the silent endings it shares with the
link and the warm reset (R95).
-/

namespace Sys2Proof.Machine

variable {s t u : State} {c d : Ctx} {j : Job} {reason : AbortReason} {l l' : List Ctx}

/-! ## A context ended silently -/

/-- What a silent ending leaves of a context (R69, R95). -/
def Context.endedWith (reason : AbortReason) (x : Context) : Context :=
  match x.body with
  | .idle _ => x
  | .busy st j => ⟨.idle (some ⟨j.direction, j.origin, j.round⟩),
      if st = .closing then x.lastResult else some (.aborted reason), [], none⟩

theorem Context.endedWith_of_idle {x : Context} (idle : x.isIdle = true) : x.endedWith reason = x := by
  unfold Context.endedWith Context.isIdle at *
  split
  · rfl
  · next hb => simp [hb] at idle

theorem Context.endedWith_of_busy {x : Context} {st : BusyState} (hb : x.body = .busy st j) :
    x.endedWith reason = ⟨.idle (some ⟨j.direction, j.origin, j.round⟩),
      if st = .closing then x.lastResult else some (.aborted reason), [], none⟩ := by
  rw [Context.endedWith, hb]

theorem Entry.restored_restored (e : Entry) : e.restored.restored = e.restored := by cases e <;> rfl
theorem Entry.slot_restored (e : Entry) : e.restored.slot = e.slot := by cases e <;> rfl

/-- The active migrations of the contexts of a list. -/
def State.jobsOf (s : State) (l : List Ctx) : List Job := l.filterMap fun c => (s.ctx c).activeJob

theorem State.jobsOf_append : s.jobsOf (l ++ l') = s.jobsOf l ++ s.jobsOf l' := List.filterMap_append

theorem State.jobsOf_of_none (h : (s.ctx c).activeJob = none) : s.jobsOf [c] = [] := by
  simp [State.jobsOf, h]

theorem State.jobsOf_of_some (h : (s.ctx c).activeJob = some j) : s.jobsOf [c] = [j] := by
  simp [State.jobsOf, h]

/-- What has changed when the contexts of a list have been ended silently, and no others. -/
structure State.EndedOn (s t : State) (reason : AbortReason) (l : List Ctx) : Prop where
  ctx : ∀ d, t.ctx d = if d ∈ l then (s.ctx d).endedWith reason else s.ctx d
  entry : ∀ i, t.entry i = if (s.jobsOf l).any (fun j => j.entry == i) then (s.entry i).restored else s.entry i
  generation : t.rmt.generation = s.rmt.generation
  slot : ∀ r b k, t.slot r b k =
    if (s.jobsOf l).any (fun j => j.origin.rank == r && j.origin.bank == b && j.destSlot == k) then
      ⟨.free, (s.slot r b k).grade⟩ else s.slot r b k
  items : t.wls.items = s.wls.items.map fun x =>
    if (s.jobsOf l).any (fun j => s.migrationKey j == x.key) then { x with inRepair := none } else x
  conditions : t.port.conditions = s.port.conditions |||
    if s.jobsOf l = [] ∨ reason = .warmReset then 0 else conditionBit .migrationFailed
  outbound : t.sbl.outbound = s.sbl.outbound
  waiting : s.sbl.waiting = [] → t.sbl.waiting = []

theorem State.generation_of_offLink (h : t.offLink = s.offLink) : t.rmt.generation = s.rmt.generation :=
  (congrArg (·.rmt.generation) h :)

theorem State.items_of_offLink (h : t.offLink = s.offLink) : t.wls.items = s.wls.items := (congrArg (·.wls.items) h :)

theorem State.conditions_of_offLink (h : t.offLink = s.offLink) : t.port.conditions = s.port.conditions :=
  (congrArg (·.port.conditions) h :)

theorem State.reports_of_offLink (h : t.offLink = s.offLink) : t.mge.reports = s.mge.reports := (congrArg (·.mge.reports) h :)

theorem State.channelResets_of_elsewhere (h : t.elsewhere = s.elsewhere) : t.mge.channelResets = s.mge.channelResets :=
  (congrArg (·.mge.channelResets) h :)

/-- R69, R114. -/
theorem State.enterIdle_waiting (s : State) (c : Ctx) (j : Job) :
    (s.enterIdle c j).sbl.waiting = s.sbl.waiting.filter fun d => d != c := rfl

namespace State.EndedOn

theorem refl (s : State) (reason : AbortReason) : s.EndedOn s reason [] where
  ctx _ := by simp
  entry _ := by simp [State.jobsOf]
  generation := rfl
  slot _ _ _ := by simp [State.jobsOf]
  items := by simp [State.jobsOf]
  conditions := by simp [State.jobsOf]
  outbound := rfl
  waiting := id

/-- The context of no active migration: the tables do not change. -/
theorem ofInactive (inactive : (s.ctx c).activeJob = none) (link : t.offLink = s.offLink)
    (ctx : ∀ d, t.ctx d = if d = c then (s.ctx c).endedWith reason else s.ctx d) (outbound : t.sbl.outbound = s.sbl.outbound)
    (waiting : s.sbl.waiting = [] → t.sbl.waiting = []) : s.EndedOn t reason [c] where
  ctx d := by
    simp only [ctx, List.mem_singleton]
    split
    · next hd => rw [hd]
    · rfl
  entry i := by simpa [jobsOf_of_none inactive] using State.entry_of_offLink link i
  generation := State.generation_of_offLink link
  slot r b k := by simpa [jobsOf_of_none inactive] using State.slot_of_offLink link r b k
  items := by simpa [jobsOf_of_none inactive] using State.items_of_offLink link
  conditions := by simpa [jobsOf_of_none inactive] using State.conditions_of_offLink link
  outbound := outbound
  waiting := waiting

/-- The context of an active migration: the changes of an abort. -/
theorem ofActive {st : BusyState} (hb : (s.ctx c).body = .busy st j) (active : st ≠ .closing) (silent : reason.silent = true) :
    s.EndedOn ((s.abortChanges c j reason).enterIdle c j) reason [c] := by
  have jobs : s.jobsOf [c] = [j] := State.jobsOf_of_some (Context.activeJob_eq_some.2 ⟨st, active, hb⟩)
  have spares : reason ≠ .targetFault := by rintro rfl; cases silent
  have link := (s.abortChanges c j reason).enterIdle_offLink c j
  constructor
  case ctx =>
    intro d
    rw [State.enterIdle_ctx, State.abortChanges_ctx, State.abortChanges_ctx, if_pos rfl]
    simp only [List.mem_singleton]
    split
    · next hd => rw [hd, Context.endedWith_of_busy hb, if_neg active]
    · rfl
  case entry =>
    intro i
    rw [State.entry_of_offLink link, State.abortChanges_entry, jobs]
    by_cases hi : i = j.entry
    · simp [hi]
    · simp [hi, Ne.symm hi]
  case generation => exact s.abortChanges_generation c j reason
  case slot =>
    intro r b k
    rw [State.slot_of_offLink link, State.abortChanges_slot, jobs, if_neg spares]
    by_cases hk : r = j.origin.rank ∧ b = j.origin.bank ∧ k = j.destSlot
    · obtain ⟨rfl, rfl, rfl⟩ := hk
      simp
    · rw [if_neg hk, if_neg]
      simp only [List.any_cons, List.any_nil, Bool.or_false, Bool.and_eq_true, beq_iff_eq]
      rintro ⟨⟨rfl, rfl⟩, rfl⟩
      exact hk ⟨rfl, rfl, rfl⟩
  case items =>
    refine (s.abortChanges_items c j reason).trans (List.map_congr_left fun x _ => ?_)
    rw [jobs]
    by_cases hx : x.key = s.migrationKey j
    · simp [hx]
    · simp [hx, Ne.symm hx]
  case conditions =>
    refine (s.abortChanges_conditions c j reason).trans ?_
    rw [jobs]
    by_cases warm : reason = .warmReset <;> simp [warm]
  case outbound => rw [State.enterIdle_outbound, State.abortChanges_sbl]
  case waiting =>
    intro quiet
    rw [State.enterIdle_waiting, State.abortChanges_sbl, quiet]
    rfl

theorem endSilently (s : State) (silent : reason.silent = true) (c : Ctx) : s.EndedOn (s.endSilently reason c) reason [c] := by
  unfold State.endSilently
  split
  · next hb =>
    refine ofInactive (by rw [Context.activeJob, hb]) rfl (fun d => ?_) rfl id
    rw [Context.endedWith_of_idle (by rw [Context.isIdle, hb])]
    split
    · next hd => rw [hd]
    · rfl
  · next j hb =>
    refine ofInactive (by rw [Context.activeJob, hb]) (s.enterIdle_offLink c j) (fun d => ?_) rfl fun quiet => ?_
    · rw [State.enterIdle_ctx, Context.endedWith_of_busy hb, if_pos rfl]
    · rw [State.enterIdle_waiting, quiet]
      rfl
  · next st j active hb =>
    rw [State.abort_of_silent (Context.activeJob_eq_some.2 ⟨st, active, hb⟩) silent]
    exact ofActive hb active silent

/-- The key of a migration's watch item survives the end of every migration. -/
theorem migrationKey (a : s.EndedOn t reason l) (j : Job) : t.migrationKey j = s.migrationKey j := by
  have slot : (t.entry j.entry).slot = (s.entry j.entry).slot := by
    rw [a.entry]
    split
    · exact Entry.slot_restored _
    · rfl
  rw [State.migrationKey, State.migrationKey, slot]

/-- Two silent endings of different contexts in turn: an entry, a slot or an item that both touch is left as by one. -/
theorem trans (a : s.EndedOn t reason l) (b : t.EndedOn u reason l') (apart : ∀ c ∈ l', c ∉ l) :
    s.EndedOn u reason (l ++ l') := by
  have jobs : t.jobsOf l' = s.jobsOf l' :=
    List.filterMap_congr fun c hc => by rw [a.ctx, if_neg (apart c hc)]
  constructor
  case ctx =>
    intro d
    rw [b.ctx, a.ctx]
    by_cases second : d ∈ l'
    · simp [second, apart d second]
    · simp [second]
  case entry =>
    intro i
    rw [b.entry, a.entry, jobs, State.jobsOf_append, List.any_append]
    cases (s.jobsOf l).any _ <;> cases (s.jobsOf l').any _ <;> simp [Entry.restored_restored]
  case generation => exact b.generation.trans a.generation
  case slot =>
    intro r k n
    rw [b.slot, a.slot, jobs, State.jobsOf_append, List.any_append]
    cases (s.jobsOf l).any _ <;> cases (s.jobsOf l').any _ <;> rfl
  case items =>
    rw [b.items, a.items, List.map_map, jobs, State.jobsOf_append]
    refine List.map_congr_left fun x _ => ?_
    rw [Function.comp_apply, List.any_append, funext a.migrationKey]
    by_cases first : (s.jobsOf l).any (fun j => s.migrationKey j == x.key) <;> simp [first]
  case conditions =>
    rw [b.conditions, a.conditions, jobs, State.jobsOf_append, BitVec.or_assoc]
    by_cases warm : reason = .warmReset
    · simp [warm]
    · by_cases first : s.jobsOf l = [] <;> by_cases second : s.jobsOf l' = [] <;> simp [warm, first, second]
  case outbound => exact b.outbound.trans a.outbound
  case waiting => exact b.waiting ∘ a.waiting

theorem foldl (silent : reason.silent = true) (l : List Ctx) (distinct : l.Nodup) : ∀ s : State,
    s.EndedOn (l.foldl (fun s c => s.endSilently reason c) s) reason l := by
  induction l with
  | nil => exact fun s => refl s reason
  | cons c l ih =>
    intro s
    obtain ⟨fresh, distinct⟩ := List.nodup_cons.1 distinct
    refine (endSilently s silent c).trans (ih distinct _) fun d hd hc => fresh ?_
    rwa [← List.mem_singleton.1 hc]

theorem endAllSilently (s : State) (silent : reason.silent = true) :
    s.EndedOn (s.endAllSilently reason) reason (List.finRange 4) := foldl silent _ (List.nodup_finRange 4) s

/-- R95 to R98: what the silent ending of every context leaves, in the words of the statements, whatever of PENDING the link
takes afterwards. -/
theorem endedSilently (a : s.EndedOn u reason (List.finRange 4)) (link : t.offLink = u.offLink)
    (ctx : ∀ c, ∃ held, t.ctx c = { u.ctx c with held := held } ∧ ((u.ctx c).held = [] → held = [])) :
    s.EndedSilently t reason where
  idle c idle := by
    obtain ⟨held, hc, -⟩ := ctx c
    rw [hc, a.ctx, if_pos (List.mem_finRange c), Context.endedWith_of_idle idle]
    exact ⟨rfl, rfl, rfl⟩
  ended c st j hb := by
    obtain ⟨held, hc, empty⟩ := ctx c
    rw [a.ctx, if_pos (List.mem_finRange c), Context.endedWith_of_busy hb] at hc empty
    rw [hc]
    exact ⟨rfl, rfl, empty rfl, rfl⟩
  entries i := by
    rw [State.entry_of_offLink link, a.entry]
    cases s.entry i <;> rfl
  generation := (State.generation_of_offLink link).trans a.generation
  slots r b k := (State.slot_of_offLink link r b k).trans (a.slot r b k)
  items := (State.items_of_offLink link).trans a.items

end State.EndedOn

/-! ## The room left in OUTBOUND -/

/-- R75: the message of an IDLE context starts no timer. -/
theorem Context.queued_of_idle {x : Context} (idle : x.isIdle = true) (m : OutMsg) : x.queued m = x := by
  unfold Context.isIdle at idle
  split at idle
  · next hb => simp [Context.queued, Context.timerFor, hb]
  · cases idle

/-- R114: the refilling of OUTBOUND takes from an IDLE context nothing but messages of PENDING. -/
theorem State.refillUpTo_idle (n : Nat) : ∀ s : State, (s.ctx c).isIdle = true →
    ∃ held, (s.refillUpTo n).ctx c = { s.ctx c with held := held } ∧ ((s.ctx c).held = [] → held = []) := by
  induction n with
  | zero => exact fun s _ => ⟨(s.ctx c).held, rfl, id⟩
  | succ n ih =>
    intro s idle
    have kept : ∃ held, s.ctx c = { s.ctx c with held := held } ∧ ((s.ctx c).held = [] → held = []) := ⟨_, rfl, id⟩
    unfold State.refillUpTo
    split
    · exact kept
    · next d rest _ =>
      split
      · split
        · exact ih _ idle
        · next m ms pending =>
          let t := ((s.setWaiting rest).setCtx d { s.ctx d with held := ms }).queueTail d m
          have taken : t.ctx c = if c = d then { s.ctx c with held := ms } else s.ctx c := by
            have popped : ((s.setWaiting rest).setCtx d { s.ctx d with held := ms }).ctx c =
                if c = d then { s.ctx d with held := ms } else s.ctx c := State.setCtx_ctx ..
            by_cases hd : c = d
            · subst hd
              rw [if_pos rfl] at popped ⊢
              show ((State.queueTail _ c m).ctx c) = _
              unfold State.queueTail
              split
              · exact popped
              · rw [popped]
                exact (State.setCtx_ctx_same ..).trans (Context.queued_of_idle (x := { s.ctx c with held := ms }) idle _)
            · rw [if_neg hd] at popped ⊢
              show ((State.queueTail _ d m).ctx c) = _
              unfold State.queueTail
              split
              · exact popped
              · exact ((State.setCtx_ctx ..).trans (if_neg hd)).trans popped
          have still : (t.ctx c).isIdle = true := by
            rw [taken]
            split <;> exact idle
          obtain ⟨held, hc, empty⟩ := ih t still
          refine ⟨held, hc.trans ?_, fun quiet => empty ?_⟩
          · rw [taken]
            split <;> rfl
          · rw [taken]
            split
            · next hd =>
              subst hd
              cases quiet.symm.trans pending
            · exact quiet
      · exact kept

theorem State.purgeOutbound_idle (keep : OutMsg → Bool) (idle : (s.ctx c).isIdle = true) :
    ∃ held, (s.purgeOutbound keep).ctx c = { s.ctx c with held := held } ∧ ((s.ctx c).held = [] → held = []) :=
  State.refillUpTo_idle _ (s.setOutbound _) idle

/-- R114, R117: with nothing waiting a removal only removes. -/
theorem State.purgeOutbound_of_waiting_nil (keep : OutMsg → Bool) (h : s.sbl.waiting = []) :
    (s.purgeOutbound keep).sbl.outbound = s.sbl.outbound.filter keep := by
  rw [State.purgeOutbound, State.refill_of_waiting_nil (s.setOutbound (s.sbl.outbound.filter keep)) h]
  rfl

/-! ## The Migration Engine's part -/

@[simp] theorem State.endAllSilently_reports (reason : AbortReason) :
    (s.endAllSilently reason).mge.reports = s.mge.reports := by
  refine List.foldlRecOn (motive := fun u : State => u.mge.reports = s.mge.reports) _ _ rfl fun u hu c _ => ?_
  unfold State.endSilently
  split
  · exact hu
  · exact hu
  · exact (u.abort_reports c reason).trans hu

/-- R117: the messages of the contexts ended do not survive. -/
theorem OutMsg.survives_eq_true {ended : List Ctx} {m : OutMsg} (h : m.survives ended = true) (hc : c ∈ ended) :
    m.owner ≠ some c := by
  intro owner
  simp [OutMsg.survives, owner, hc] at h

theorem State.mem_busyContexts {st : BusyState} (hb : (s.ctx c).body = .busy st j) : c ∈ s.busyContexts := by
  simp [State.busyContexts, Context.isIdle_of_busy hb]

theorem exec_channelResetMigration (told : 0 < s.mge.channelResets) : exec .channelResetMigration s =
    .next { s with mge := { s.mge with channelResets := s.mge.channelResets - 1 } }.migrationChannelReset :=
  congrArg Host.Outcome.next (if_neg told.ne')

theorem State.migrationChannelReset_elsewhere (s : State) : s.migrationChannelReset.elsewhere = s.elsewhere := by
  rw [State.migrationChannelReset, State.elsewhere_of_offLink (State.purgeOutbound_offLink ..), State.endAllSilently_elsewhere,
    State.takeAllReports_elsewhere]

theorem State.migrationChannelReset_reports (s : State) : s.migrationChannelReset.mge.reports = [] := by
  rw [State.migrationChannelReset, State.reports_of_offLink (State.purgeOutbound_offLink ..), State.endAllSilently_reports,
    State.takeAllReports, State.takeReports_reports]
  rfl

theorem State.migrationChannelReset_isIdle (s : State) (c : Ctx) : (s.migrationChannelReset.ctx c).isIdle = true :=
  ((State.OnLink.purgeOutbound ..).isIdle c).trans (State.endAllSilently_isIdle _ rfl c)

/-- R97: with no report made before it. -/
theorem State.migrationChannelReset_of_nil (reports : s.mge.reports = []) :
    s.migrationChannelReset = (s.endAllSilently .channelReset).purgeOutbound (OutMsg.survives s.busyContexts) := by
  rw [State.migrationChannelReset, s.takeAllReports_nil reports]

theorem State.migrationChannelReset_ended (reports : s.mge.reports = []) :
    s.EndedSilently s.migrationChannelReset .channelReset := by
  rw [State.migrationChannelReset_of_nil reports]
  exact (State.EndedOn.endAllSilently s rfl).endedSilently (State.purgeOutbound_offLink ..) fun c =>
    State.purgeOutbound_idle _ (State.endAllSilently_isIdle s rfl c)

theorem State.migrationChannelReset_conditions (reports : s.mge.reports = []) :
    s.migrationChannelReset.port.conditions = s.port.conditions ||| s.failedBit := by
  rw [State.migrationChannelReset_of_nil reports]
  rw [State.conditions_of_offLink (State.purgeOutbound_offLink ..), (State.EndedOn.endAllSilently s rfl).conditions]
  simp [State.failedBit, State.activeJobs, State.jobsOf]

theorem State.migrationChannelReset_outbound (reports : s.mge.reports = []) (waiting : s.sbl.waiting = []) :
    s.migrationChannelReset.sbl.outbound = s.sbl.outbound.filter (OutMsg.survives s.busyContexts) := by
  have ended := State.EndedOn.endAllSilently s (reason := .channelReset) rfl
  rw [State.migrationChannelReset_of_nil reports, State.purgeOutbound_of_waiting_nil _ (ended.waiting waiting), ended.outbound]

/-! ## The Remap Table's part -/

theorem exec_channelResetTable (told : 0 < s.rmt.channelResets) : exec .channelResetTable s =
    .next { s with rmt := { s.rmt with channelResets := s.rmt.channelResets - 1 } }.freeAllRetiring :=
  congrArg Host.Outcome.next (if_neg told.ne')

/-- Whether an entry is RETIRING. -/
def Entry.retires : Entry → Bool
  | .retiring _ _ _ => true
  | _ => false

/-- The entry after a RETIRING one has been freed (R25). -/
def Entry.retired : Entry → Entry
  | .retiring _ _ _ => .free
  | e => e

theorem Entry.retired_of_other {e : Entry} (h : e.retires = false) : e.retired = e := by
  cases e with
  | retiring => cases h
  | _ => rfl

/-- What has changed when the RETIRING entries of a list have been freed, and no others. -/
structure State.RetiredOn (s t : State) (l : List EntryIx) : Prop where
  entry : ∀ i, t.entry i = if i ∈ l then (s.entry i).retired else s.entry i
  generation : t.rmt.generation = s.rmt.generation + BitVec.ofNat 16 (l.countP fun i => (s.entry i).retires)
  slot : ∀ i ∈ l, ∀ o k m, s.entry i = .retiring o k m → (t.slot o.rank o.bank k).state = .free
  freed : ∀ r b k, (s.slot r b k).state = .free → (t.slot r b k).state = .free
  grade : ∀ r b k, (t.slot r b k).grade = (s.slot r b k).grade
  rest : ∃ entries generation sld wls,
    t = { s with rmt := { s.rmt with entries := entries, generation := generation }, sld := sld, wls := wls }

namespace State.RetiredOn

variable {l l' : List EntryIx} {i : EntryIx}

theorem refl (s : State) : s.RetiredOn s [] where
  entry _ := by simp
  generation := by simp
  slot _ h := by cases h
  freed _ _ _ := id
  grade _ _ _ := rfl
  rest := ⟨_, _, _, _, rfl⟩

theorem freeIfRetiring (s : State) (i : EntryIx) : s.RetiredOn (s.freeIfRetiring i) [i] := by
  unfold State.freeIfRetiring
  split
  · next o k m he =>
    constructor
    case entry =>
      intro i'
      simp only [State.freeEntry_entry, List.mem_singleton]
      split
      · next hi => rw [hi, he]; rfl
      · rfl
    case generation => simp [he, Entry.retires]
    case slot =>
      intro i' hi o' k' m' he'
      obtain ⟨rfl, rfl, -⟩ := Entry.retiring.inj (he.symm.trans (List.mem_singleton.1 hi ▸ he'))
      rw [State.freeEntry_slot, if_pos ⟨rfl, rfl, rfl⟩]
    case freed =>
      intro r b n free
      rw [State.freeEntry_slot]
      split
      · rfl
      · exact free
    case grade =>
      intro r b n
      rw [State.freeEntry_slot]
      split
      · next at_ => rw [at_.1, at_.2.1, at_.2.2]
      · rfl
    case rest => exact ⟨_, _, _, _, rfl⟩
  · next other =>
    have stays : (s.entry i).retires = false := by
      cases he : s.entry i with
      | retiring o k m => exact absurd he (other o k m)
      | _ => rfl
    constructor
    case entry =>
      intro i'
      simp only [List.mem_singleton]
      split
      · next hi => rw [hi, Entry.retired_of_other stays]
      · rfl
    case generation => simp [stays]
    case slot =>
      intro i' hi o k m he
      exact absurd (List.mem_singleton.1 hi ▸ he) (other o k m)
    case freed => exact fun _ _ _ => id
    case grade => exact fun _ _ _ => rfl
    case rest => exact ⟨_, _, _, _, rfl⟩

theorem trans (a : s.RetiredOn t l) (b : t.RetiredOn u l') (apart : ∀ i ∈ l', i ∉ l) : s.RetiredOn u (l ++ l') := by
  have same (i : EntryIx) (hi : i ∈ l') : t.entry i = s.entry i := (a.entry i).trans (if_neg (apart i hi))
  constructor
  case entry =>
    intro i
    rw [b.entry, a.entry]
    by_cases second : i ∈ l'
    · simp [second, apart i second]
    · simp [second]
  case generation =>
    have counted : l'.countP (fun i => (t.entry i).retires) = l'.countP fun i => (s.entry i).retires :=
      List.countP_congr fun i hi => by rw [same i hi]
    rw [b.generation, a.generation, counted, List.countP_append, BitVec.ofNat_add, BitVec.add_assoc]
  case slot =>
    intro i hi o k m he
    rcases List.mem_append.1 hi with first | second
    · exact b.freed _ _ _ (a.slot i first o k m he)
    · exact b.slot i second o k m ((same i second).trans he)
  case freed => exact fun r n k free => b.freed r n k (a.freed r n k free)
  case grade => exact fun r n k => (b.grade r n k).trans (a.grade r n k)
  case rest =>
    obtain ⟨_, _, _, _, rfl⟩ := a.rest
    obtain ⟨_, _, _, _, rfl⟩ := b.rest
    exact ⟨_, _, _, _, rfl⟩

theorem foldl (l : List EntryIx) (distinct : l.Nodup) : ∀ s : State, s.RetiredOn (l.foldl State.freeIfRetiring s) l := by
  induction l with
  | nil => exact refl
  | cons i l ih =>
    intro s
    obtain ⟨fresh, distinct⟩ := List.nodup_cons.1 distinct
    refine (freeIfRetiring s i).trans (ih distinct _) fun d hd hi => fresh ?_
    rwa [← List.mem_singleton.1 hi]

theorem freeAllRetiring (s : State) : s.RetiredOn s.freeAllRetiring (List.finRange 96) :=
  foldl _ (List.nodup_finRange 96) s

end State.RetiredOn

/-- Settles O35: the silent ending of every context, and the freeing of every RETIRING entry, list element by list element. -/
theorem channelResetEndsMigrationsAndRetirings : Obligations.ChannelResetEndsMigrationsAndRetirings := by
  intro s
  refine ⟨fun told => ?_, fun told => ?_⟩
  · let s0 : State := { s with mge := { s.mge with channelResets := s.mge.channelResets - 1 } }
    have elsewhere := s0.migrationChannelReset_elsewhere
    have same := State.sameElsewhere_of_elsewhere elsewhere
    obtain ⟨state, badRun, retryTimer, -⟩ := same.linkState
    refine ⟨s0.migrationChannelReset, exec_channelResetMigration told, State.channelResets_of_elsewhere elsewhere,
      s0.migrationChannelReset_reports, s0.migrationChannelReset_isIdle, state, badRun, retryTimer,
      same.ctr, same.pol, same.rst, fun reports => ?_, fun reports waiting c st j hb => ?_⟩
    · obtain ⟨idle, ended, entries, generation, slots, items⟩ := State.migrationChannelReset_ended (s := s0) reports
      exact ⟨⟨idle, ended, entries, generation, slots, items⟩, State.migrationChannelReset_conditions (s := s0) reports⟩
    · obtain ⟨-, -, -, last⟩ := (State.migrationChannelReset_ended (s := s0) reports).ended c st j hb
      refine ⟨fun active => last.trans (if_neg active), fun closing => last.trans (if_pos closing), fun m hm => ?_⟩
      rw [State.migrationChannelReset_outbound (s := s0) reports waiting] at hm
      exact OutMsg.survives_eq_true (List.mem_filter.1 hm).2 (State.mem_busyContexts (s := s0) hb)
  · let s0 : State := { s with rmt := { s.rmt with channelResets := s.rmt.channelResets - 1 } }
    have retired := State.RetiredOn.freeAllRetiring s0
    obtain ⟨entries, generation, sld, wls, rest⟩ := retired.rest
    refine ⟨s0.freeAllRetiring, exec_channelResetTable told, by rw [rest], fun i => ?_, retired.generation,
      fun i o k m he => ?_, by rw [rest], by rw [rest], by rw [rest],
      by rw [rest], by rw [rest], by rw [rest]⟩
    · refine (retired.entry i).trans ((if_pos (List.mem_finRange i)).trans ?_)
      exact (rfl : (s0.entry i).retired = _)
    · have free := retired.slot i (List.mem_finRange i) o k m he
      have grade := retired.grade o.rank o.bank k
      generalize s0.freeAllRetiring.slot o.rank o.bank k = x at free grade
      obtain ⟨state, g⟩ := x
      cases free
      cases grade
      rfl

end Sys2Proof.Machine
end

section
/-! The requests on migrations and watch items: REPAIR and MOVE (R70, R71), CANCEL (R93), WATCH_CLEAR (R137). -/

namespace Sys2Proof.Machine

variable {s : State} {g : Geometry} {h : InHand} {c : Ctx} {d : Direction} {i : EntryIx} {o : Origin} {k : SlotNo}

/-! ## Operands -/

/-- R171: every physical row is one of the row field. -/
theorem Geometry.n_lt (g : Geometry) : g.n < 2 ^ 24 := by
  have width : g.w.toNat < 24 := by
    cases g.w with
    | _ => decide
  exact Nat.pow_lt_pow_right (by decide) width

theorem rankOf_ofNat (r : Rank) (configured : r.val < g.ranks.toNat) : rankOf g (BitVec.ofNat 8 r.val) = some r := by
  rw [rankOf, indexOf_ofNat r (by decide)]
  exact if_pos (decide_eq_true configured)

theorem rankOf_eq_none {r : Byte} (h : g.ranks.toNat ≤ r.toNat) : rankOf g r = none := by
  unfold rankOf
  split
  · next x hx =>
    have same : x.val = r.toNat := by
      unfold indexOf at hx
      split at hx
      · cases hx; rfl
      · cases hx
    exact if_neg fun configured => by
      have := of_decide_eq_true configured
      omega
  · rfl

theorem dataRowOf_ofNat {row : Nat} (h : row < g.n - 16) : dataRowOf g (BitVec.ofNat 24 row) = some row := by
  have small : (BitVec.ofNat 24 row).toNat = row := Nat.mod_eq_of_lt (by have := g.n_lt; omega)
  rw [dataRowOf, small]
  exact if_pos h

theorem dataRowOf_eq_none {row : RowField} (h : g.n - 16 ≤ row.toNat) : dataRowOf g row = none := if_neg (Nat.not_lt.2 h)

/-- R70: the operands that name an origin. -/
theorem originOf_ofNat (rank : o.rank.val < g.ranks.toNat) (row : o.row < g.n - 16) :
    originOf g (BitVec.ofNat 8 o.rank.val) (BitVec.ofNat 8 o.bank.val) (BitVec.ofNat 24 o.row) = some o := by
  rw [originOf, rankOf_ofNat o.rank rank, indexOf_ofNat o.bank (by decide), dataRowOf_ofNat row]

/-- R70: the operands that name none. -/
theorem originOf_eq_none {r b : Byte} {row : RowField}
    (h : g.ranks.toNat ≤ r.toNat ∨ 16 ≤ b.toNat ∨ g.n - 16 ≤ row.toNat) : originOf g r b row = none := by
  unfold originOf
  rcases h with rank | bank | row
  · rw [rankOf_eq_none rank]
  · rw [indexOf_eq_none bank]
    cases rankOf g r <;> rfl
  · rw [dataRowOf_eq_none row]
    cases rankOf g r <;> cases indexOf 16 b <;> rfl

/-! ## The launch -/

theorem State.launchNotice_record (s : State) (c : Ctx) (o : Origin) (r : Rank) (b : Bank) :
    (s.launchNotice c o).record r b =
      if r = o.rank ∧ b = o.bank then
        (s.record o.rank o.bank).map fun x => if x.issued = o.row then { x with role := .source c } else x
      else s.record r b := by
  have kept (same : (s.record o.rank o.bank).map (fun x => if x.issued = o.row then { x with role := .source c } else x) =
      s.record o.rank o.bank) : s.record r b = if r = o.rank ∧ b = o.bank then
        (s.record o.rank o.bank).map fun x => if x.issued = o.row then { x with role := .source c } else x
      else s.record r b := by
    split
    · next at_ => rw [at_.1, at_.2, same]
    · rfl
  unfold State.launchNotice
  split
  · next x hx =>
    split
    · next issued => rw [State.setRecord_record, hx, Option.map_some, if_pos issued]
    · next other => exact kept (by rw [hx, Option.map_some, if_neg other])
  · next hx => exact kept (by rw [hx]; rfl)

/-- R60: the notice changes the record of one bank. -/
theorem State.launchNotice_eq (s : State) (c : Ctx) (o : Origin) :
    ∃ records, s.launchNotice c o = { s with ctr := { s.ctr with records := records } } := by
  unfold State.launchNotice
  split
  · split
    · exact ⟨_, rfl⟩
    · exact ⟨_, rfl⟩
  · exact ⟨_, rfl⟩

/-- The last writes of a launch: its context, its watch item and OUTBOUND. -/
def State.ordering (s : State) (c : Ctx) (x : Context) (key : Key) (l : List OutMsg) : State :=
  ((s.setCtx c x).setInRepair key (some c)).setOutbound l

section
variable (s) (c) (x : Context) (key : Key) (l : List OutMsg)

theorem State.ordering_ctx (c' : Ctx) : (s.ordering c x key l).ctx c' = if c' = c then x else s.ctx c' := s.setCtx_ctx c c' x
theorem State.ordering_rmt : (s.ordering c x key l).rmt = s.rmt := rfl
theorem State.ordering_slot (r : Rank) (b : Bank) (n : SlotNo) : (s.ordering c x key l).slot r b n = s.slot r b n := rfl
theorem State.ordering_record (r : Rank) (b : Bank) : (s.ordering c x key l).record r b = s.record r b := rfl
theorem State.ordering_port : (s.ordering c x key l).port = s.port := rfl
theorem State.ordering_rest : (s.ordering c x key l).mode = s.mode ∧ (s.ordering c x key l).pol = s.pol ∧
    (s.ordering c x key l).rst = s.rst ∧ (s.ordering c x key l).pending = s.pending := ⟨rfl, rfl, rfl, rfl⟩
theorem State.ordering_items : (s.ordering c x key l).wls.items =
    s.wls.items.map fun y => if y.key = key then { y with inRepair := some c } else y := rfl

end

variable (s c d i o k) in
/-- R71, R75: a launch in one write of the context, with room for its order. -/
theorem State.launch_of_room (room : s.sbl.outbound.length < 8) (e : Entry) (key : Key) :
    s.launch c d i e o k key = (((s.setEntry i e).setSlotState o.rank o.bank k (.target i)).launchNotice c o).ordering c
      ⟨.busy .offering (firstJob s.runProfile d i o k), (s.ctx c).lastResult, (s.ctx c).held, some s.runProfile.offerTimeout⟩
      key (s.sbl.outbound ++ [.copyOrder c 1 o k (BitVec.allOnes 32)]) := by
  obtain ⟨records, noticed⟩ := ((s.setEntry i e).setSlotState o.rank o.bank k (.target i)).launchNotice_eq c o
  rw [State.launch, noticed, State.makeMsg_room _ _ _ (by exact room)]
  have entered (u : State) (x : Context) : ((u.setCtx c x).setInRepair key (some c)).ctx c = x := u.setCtx_ctx_same c x
  have again (u : State) (x y : Context) : ((u.setCtx c x).setInRepair key (some c)).setCtx c y =
      (u.setCtx c y).setInRepair key (some c) := congrArg (·.setInRepair key (some c)) (u.setCtx_setCtx c x y)
  rw [State.enterState, entered, again]
  rfl

section
variable (room : s.sbl.outbound.length < 8) (e : Entry) (key : Key)
include room

/-- R60: the records after a launch. -/
theorem State.launch_record (r : Rank) (b : Bank) :
    (s.launch c d i e o k key).record r b =
      if r = o.rank ∧ b = o.bank then
        (s.record o.rank o.bank).map fun x => if x.issued = o.row then { x with role := .source c } else x
      else s.record r b := by
  have claimed (r : Rank) (b : Bank) :
      ((s.setEntry i e).setSlotState o.rank o.bank k (.target i)).record r b = s.record r b := rfl
  rw [State.launch_of_room s c d i o k room, State.ordering_record, State.launchNotice_record, claimed, claimed]

theorem State.launch_ctx (c' : Ctx) : (s.launch c d i e o k key).ctx c' = if c' = c then
    ⟨.busy .offering (firstJob s.runProfile d i o k), (s.ctx c).lastResult, (s.ctx c).held, some s.runProfile.offerTimeout⟩
    else s.ctx c' := by
  obtain ⟨records, noticed⟩ := ((s.setEntry i e).setSlotState o.rank o.bank k (.target i)).launchNotice_eq c o
  rw [State.launch_of_room s c d i o k room, State.ordering_ctx, noticed]
  rfl

theorem State.launch_entry (i' : EntryIx) : (s.launch c d i e o k key).entry i' = if i' = i then e else s.entry i' := by
  have written : (s.launch c d i e o k key).rmt = (s.setEntry i e).rmt := by
    rw [State.launch_of_room s c d i o k room, State.ordering_rmt, State.launchNotice_rmt]
    rfl
  rw [State.entry_eq_of_rmt_eq written, State.setEntry_entry]

theorem State.launch_slot (r : Rank) (b : Bank) (n : SlotNo) : (s.launch c d i e o k key).slot r b n =
    if r = o.rank ∧ b = o.bank ∧ n = k then ⟨.target i, (s.slot o.rank o.bank k).grade⟩ else s.slot r b n := by
  obtain ⟨records, noticed⟩ := ((s.setEntry i e).setSlotState o.rank o.bank k (.target i)).launchNotice_eq c o
  rw [State.launch_of_room s c d i o k room, State.ordering_slot, noticed]
  exact (s.setEntry i e).setSlot_slot o.rank r o.bank b k n ⟨.target i, (s.slot o.rank o.bank k).grade⟩

theorem State.launch_port : (s.launch c d i e o k key).port = s.port := by
  obtain ⟨records, noticed⟩ := ((s.setEntry i e).setSlotState o.rank o.bank k (.target i)).launchNotice_eq c o
  rw [State.launch_of_room s c d i o k room, State.ordering_port, noticed]
  rfl

theorem State.launch_items : (s.launch c d i e o k key).wls.items =
    s.wls.items.map fun x => if x.key = key then { x with inRepair := some c } else x := by
  obtain ⟨records, noticed⟩ := ((s.setEntry i e).setSlotState o.rank o.bank k (.target i)).launchNotice_eq c o
  rw [State.launch_of_room s c d i o k room, State.ordering_items, noticed]
  rfl

variable {e} in
/-- R71. -/
theorem State.launched_of_launch
    (he : e = match d, s.entry i with
      | .move, .live o' old m _ => .moving o' old k c m
      | _, _ => .forming o k c) :
    s.Launched (s.launch c d i e o k key) c d i o k := by
  have entries := State.launch_entry (c := c) (d := d) (i := i) (o := o) (k := k) room e key
  have slots := State.launch_slot (c := c) (d := d) (i := i) (o := o) (k := k) room e key
  have contexts := State.launch_ctx (c := c) (d := d) (i := i) (o := o) (k := k) room e key
  have records := State.launch_record (c := c) (d := d) (i := i) (o := o) (k := k) room e key
  obtain ⟨_, noticed⟩ := ((s.setEntry i e).setSlotState o.rank o.bank k (.target i)).launchNotice_eq c o
  have written := State.launch_of_room s c d i o k room e key
  rw [noticed] at written
  constructor
  case entry => exact ((entries i).trans (if_pos rfl)).trans he
  case otherEntries => exact fun i' hi => (entries i').trans (if_neg hi)
  case slot => rw [slots, if_pos ⟨rfl, rfl, rfl⟩]
  case otherSlots =>
    intro r b n other
    rw [slots, if_neg fun ⟨hr, hb, hn⟩ => other (by rw [hr, hb, hn])]
  case body => rw [contexts, if_pos rfl]; rfl
  case timer => rw [contexts, if_pos rfl]
  case kept => rw [contexts, if_pos rfl]; exact ⟨rfl, rfl⟩
  case otherContexts => exact fun c' hc => (contexts c').trans (if_neg hc)
  case record => rw [records, if_pos ⟨rfl, rfl⟩]
  case otherRecords => exact fun r b other => (records r b).trans (if_neg fun ⟨hr, hb⟩ => other (by rw [hr, hb]))
  case generation => rw [written]; rfl
  case sbl => rw [written]; rfl
  case translator => rw [written]; exact ⟨rfl, rfl, rfl⟩
  case watch => rw [written]; exact ⟨rfl, rfl, rfl⟩
  case reports => rw [written]; exact ⟨rfl, rfl⟩
  case rest => rw [written]; exact State.ordering_rest ..

end

/-- A launch is not undone by its answer, which changes the port. -/
theorem State.Launched.decided {t : State} (l : s.Launched t c d i o k) (st : Status) (p : Payload) :
    s.Launched (t.decided h st p) c d i o k :=
  ⟨l.entry, l.otherEntries, l.generation, l.slot, l.otherSlots, l.body, l.timer, l.kept, l.otherContexts, l.sbl, l.record,
    l.otherRecords, l.translator, l.watch, l.reports, l.rest⟩

/-! ## The checks before the claim (R70) -/

theorem State.launchContext_of_down (hm : s.mode = .active g) (down : s.sbl.state ≠ .up) :
    s.launchContext = .error .linkDown := by
  simp [State.launchContext, State.geometry_of_active hm, down]

theorem State.launchContext_of_busy (hm : s.mode = .active g) (up : s.sbl.state = .up) (busy : ∀ c, (s.ctx c).isIdle = false) :
    s.launchContext = .error .noContext := by
  simp [State.launchContext, State.geometry_of_active hm, up, s.lowestIdleCtx_eq_none.2 busy]

theorem State.launchContext_of_ready (hm : s.mode = .active g) (ready : s.sbl.state = .up ∧ s.nextContext c) :
    s.launchContext = .ok c := by
  simp [State.launchContext, State.geometry_of_active hm, ready.1, (s.lowestIdleCtx_eq_some c).2 ready.2]

/-! ## FIRST (R8) -/

theorem State.launchFirst_of_error {r : LaunchRefusal} (h : s.launchContext = .error r) (o : Origin) :
    s.launchFirst o = .refused r := by
  rw [State.launchFirst, h]

section
variable (ctx : s.launchContext = .ok c) (hm : s.mode = .active g) (rank : o.rank.val < g.ranks.toNat) (row : o.row < g.n - 16)
include ctx hm rank row

/-- R8: the claim of the table for an origin in range. -/
theorem State.launchFirst_of_present (present : ¬s.holdsNo o) : s.launchFirst o = .refused .present := by
  obtain ⟨i, found⟩ := Option.ne_none_iff_exists'.1 (mt (s.lookup_eq_none o).1 present)
  have range : g.hasRank o.rank ∧ o.row < g.dataRows := ⟨decide_eq_true rank, row⟩
  simp only [State.launchFirst, ctx, State.geometry_of_active hm, found, if_pos range]

theorem State.launchFirst_of_tableFull (absent : s.holdsNo o) (full : ∀ i, s.entry i ≠ .free) :
    s.launchFirst o = .refused .tableFull := by
  have range : g.hasRank o.rank ∧ o.row < g.dataRows := ⟨decide_eq_true rank, row⟩
  simp only [State.launchFirst, ctx, State.geometry_of_active hm, (s.lookup_eq_none o).2 absent,
    s.lowestFreeEntry_eq_none.2 full, if_pos range]

theorem State.launchFirst_of_noSlot (absent : s.holdsNo o) (next : s.nextEntry i) (refuses : s.refusesSlot o.rank o.bank) :
    s.launchFirst o = .refused .noSlot := by
  have range : g.hasRank o.rank ∧ o.row < g.dataRows := ⟨decide_eq_true rank, row⟩
  simp only [State.launchFirst, ctx, State.geometry_of_active hm, (s.lookup_eq_none o).2 absent,
    (s.lowestFreeEntry_eq_some i).2 next, (s.allocate_eq_none ..).2 refuses, if_pos range]

theorem State.launchFirst_of_granted (absent : s.holdsNo o) (next : s.nextEntry i) (grants : s.grants o.rank o.bank k) :
    s.launchFirst o = .launched c (s.launch c .first i (.forming o k c) o k ⟨o, .origin⟩) := by
  have range : g.hasRank o.rank ∧ o.row < g.dataRows := ⟨decide_eq_true rank, row⟩
  simp only [State.launchFirst, ctx, State.geometry_of_active hm, (s.lookup_eq_none o).2 absent,
    (s.lowestFreeEntry_eq_some i).2 next, (s.allocate_eq_some ..).2 grants, if_pos range]

end

/-! ## MOVE (R9) -/

theorem State.launchMove_of_error {r : LaunchRefusal} (h : s.launchContext = .error r) (i : EntryIx) :
    s.launchMove i = .refused r := by
  rw [State.launchMove, h]

section
variable (ctx : s.launchContext = .ok c)
include ctx

theorem State.launchMove_of_free (free : s.entry i = .free) : s.launchMove i = .refused .notFound := by
  simp only [State.launchMove, ctx, free]

/-- R9, R11: an entry that is not LIVE, is staged or has moved three times does not move. -/
theorem State.launchMove_of_notMovable (used : s.entry i ≠ .free)
    (stays : ∀ o k m, s.entry i = .live o k m none → 3 ≤ m) : s.launchMove i = .refused .notMovable := by
  simp only [State.launchMove, ctx]
  split
  · next free => exact absurd free used
  · next o old m he => exact if_neg (Nat.not_lt.2 (stays o old m he))
  · rfl

section
variable {old : SlotNo} {m : Nat} (he : s.entry i = .live o old m none) (moves : m < 3)
include he moves

theorem State.launchMove_of_noSlot (refuses : s.refusesSlot o.rank o.bank) : s.launchMove i = .refused .noSlot := by
  simp only [State.launchMove, ctx, he, (s.allocate_eq_none ..).2 refuses]
  exact if_pos moves

theorem State.launchMove_of_granted (grants : s.grants o.rank o.bank k) :
    s.launchMove i = .launched c (s.launch c .move i (.moving o old k c m) o k ⟨o, .slot old⟩) := by
  simp only [State.launchMove, ctx, he, (s.allocate_eq_some ..).2 grants]
  exact if_pos moves

end

end

/-! ## The answers -/

section
variable {r b : Byte} {row : RowField} {x : Byte}

theorem exec_repair (hh : s.hasInHand h (.repair r b row)) (hm : s.mode = .active g) : exec (.repair r b row) s =
    .next (s.whenSome (originOf g r b row) fun o => s.answerLaunch (s.launchFirst o)) :=
  congrArg _ ((State.takeRequest_inHand hh _).trans (State.whenActive_of_active hm))

theorem exec_move (hh : s.hasInHand h (.move x)) (hm : s.mode = .active g) : exec (.move x) s =
    .next (s.whenSome (indexOf 96 x) fun i => s.answerLaunch (s.launchMove i)) :=
  congrArg _ ((State.takeRequest_inHand hh _).trans (State.whenActive_of_active hm))

theorem exec_cancel (hh : s.hasInHand h (.cancel x)) (hm : s.mode = .active g) : exec (.cancel x) s =
    .next (s.whenSome (indexOf 4 x) fun c =>
      match (s.ctx c).activeJob with
      | some _ => (s.abort c .cancelled).answer .ok ((s.abort c .cancelled).cancelPayload c)
      | none => s.refuse .state) :=
  congrArg _ ((State.takeRequest_inHand hh _).trans (State.whenActive_of_active hm))

theorem exec_watchClear (hh : s.hasInHand h (.watchClear r b row x)) (hm : s.mode = .active g) :
    exec (.watchClear r b row x) s = .next (s.whenSome (keyOf g r b row x) fun k =>
      match s.findItem k with
      | none => s.refuse .notFound
      | some i => if i.inRepair.isSome then s.refuse .state else (s.removeItem k).answer .ok .none) :=
  congrArg _ ((State.takeRequest_inHand hh _).trans (State.whenActive_of_active hm))

end

/-- R70. -/
theorem State.answerLaunch_of_refused {q : Request} (hh : s.hasInHand h q) {l : Launch} {r : LaunchRefusal}
    (hl : l = .refused r) : s.answerLaunch l = s.decided h r.status .none := by
  rw [hl]
  exact hh.refuse_eq _

/-- R71, R182: the answer to a launch, and what the launch and its answer leave together. -/
theorem State.answerLaunch_of_launched {q : Request} (hh : s.hasInHand h q) (room : s.sbl.outbound.length < 8) {e : Entry}
    {key : Key}
    (he : e = match d, s.entry i with
      | .move, .live o' old m _ => .moving o' old k c m
      | _, _ => .forming o k c) {l : Launch} (hl : l = .launched c (s.launch c d i e o k key)) :
    s.Launched (s.answerLaunch l) c d i o k ∧
      ((s.answerLaunch l).wls.items = s.wls.items.map fun x => if x.key = key then { x with inRepair := some c } else x) ∧
      (s.answerLaunch l).port = (s.decided h .ok (.launched c)).port := by
  obtain ⟨-, inHand, -, -⟩ := hh
  have port := State.launch_port (c := c) (d := d) (i := i) (o := o) (k := k) room e key
  have answered : s.answerLaunch l = (s.launch c d i e o k key).decided h .ok (.launched c) := by
    rw [hl]
    exact State.answer_eq_decided (by rw [port, inHand]) .ok (.launched c)
  rw [answered]
  exact ⟨(State.launched_of_launch room key he).decided .ok (.launched c), State.launch_items room e key,
    State.decided_port_congr port h .ok (.launched c)⟩

/-- Settles O54: each request through its checks in their order. -/
theorem launchesOnRequest : Obligations.LaunchesOnRequest := by
  intro s h g hm
  dsimp only [commandOf]
  refine ⟨fun r b row outside hh => ?_, fun x outside hh => ?_, fun o rank row => ?_, fun i => ?_⟩
  · rw [exec_repair hh hm, originOf_eq_none outside]
    exact congrArg _ (hh.refuse_eq _)
  · rw [exec_move hh hm, indexOf_eq_none outside]
    exact congrArg _ (hh.refuse_eq _)
  · have refused {r} (hl : s.launchFirst o = .refused r) (hh : s.hasInHand h
          (.repair (BitVec.ofNat 8 o.rank.val) (BitVec.ofNat 8 o.bank.val) (BitVec.ofNat 24 o.row))) :
        exec (.repair (BitVec.ofNat 8 o.rank.val) (BitVec.ofNat 8 o.bank.val) (BitVec.ofNat 24 o.row)) s =
          .next (s.decided h r.status .none) := by
      rw [exec_repair hh hm, originOf_ofNat rank row]
      exact congrArg _ (State.answerLaunch_of_refused hh hl)
    refine ⟨fun down => refused (State.launchFirst_of_error (State.launchContext_of_down hm down) o),
      fun up busy => refused (State.launchFirst_of_error (State.launchContext_of_busy hm up busy) o),
      fun c ready present => refused
        (State.launchFirst_of_present (State.launchContext_of_ready hm ready) hm rank row present),
      fun c ready absent full => refused
        (State.launchFirst_of_tableFull (State.launchContext_of_ready hm ready) hm rank row absent full),
      fun c i ready absent next refuses => refused
        (State.launchFirst_of_noSlot (State.launchContext_of_ready hm ready) hm rank row absent next refuses),
      fun c i k ready absent next grants room hh => ?_⟩
    have granted := State.launchFirst_of_granted (State.launchContext_of_ready hm ready) hm rank row absent next grants
    refine ⟨s.answerLaunch (s.launchFirst o), ?_, State.answerLaunch_of_launched hh room rfl granted⟩
    rw [exec_repair hh hm, originOf_ofNat rank row]
    rfl
  · have refused {r} (hl : s.launchMove i = .refused r) (hh : s.hasInHand h (.move (BitVec.ofNat 8 i.val))) :
        exec (.move (BitVec.ofNat 8 i.val)) s = .next (s.decided h r.status .none) := by
      rw [exec_move hh hm, indexOf_ofNat i (by decide)]
      exact congrArg _ (State.answerLaunch_of_refused hh hl)
    refine ⟨fun down => refused (State.launchMove_of_error (State.launchContext_of_down hm down) i),
      fun up busy => refused (State.launchMove_of_error (State.launchContext_of_busy hm up busy) i),
      fun c ready free => refused (State.launchMove_of_free (State.launchContext_of_ready hm ready) free),
      fun c ready used stays => refused
        (State.launchMove_of_notMovable (State.launchContext_of_ready hm ready) used stays),
      fun c o k m ready he moves refuses => refused
        (State.launchMove_of_noSlot (State.launchContext_of_ready hm ready) he moves refuses),
      fun c o k m n ready he moves grants room hh => ?_⟩
    have granted := State.launchMove_of_granted (State.launchContext_of_ready hm ready) he moves grants
    refine ⟨s.answerLaunch (s.launchMove i), ?_, State.answerLaunch_of_launched hh room (by rw [he]) granted⟩
    rw [exec_move hh hm, indexOf_ofNat i (by decide)]
    rfl

/-! ## CANCEL -/

/-- R93: the answer names the state that the abort has taken the context to. -/
theorem State.AbortedWithMessages.cancelPayload {t : State} {j : Job} {key : Key}
    (a : s.AbortedWithMessages t c j .cancelled key) : t.cancelPayload c = .cancelled (decide (j.fenced ≠ .no)) := by
  have body := a.body
  rw [State.cancelPayload, Context.isIdle, body]
  by_cases free : j.fenced = .no <;> simp [free]

/-! ## WATCH_CLEAR -/

/-- R137: the subjects that WATCH_CLEAR names. -/
theorem subjectOf_eq {x : Byte} {sub : Subject}
    (h : x = 0 ∧ sub = .origin ∨ ∃ n : SlotNo, n ≠ 0 ∧ x.toNat = n.val ∧ sub = .slot n) : subjectOf x = some sub := by
  rcases h with ⟨rfl, rfl⟩ | ⟨n, used, hx, rfl⟩
  · rfl
  · have named : indexOf 16 x = some n := by
      have small : x.toNat < 16 := hx ▸ n.isLt
      rw [indexOf, dif_pos small]
      exact congrArg some (Fin.ext hx)
    rw [subjectOf, named]
    exact if_neg used

theorem keyOf_of_badOrigin {r b x : Byte} {row : RowField} (h : originOf g r b row = none) : keyOf g r b row x = none := by
  rw [keyOf, h]

theorem keyOf_of_badSubject {r b x : Byte} {row : RowField} (h : 16 ≤ x.toNat) : keyOf g r b row x = none := by
  have unnamed : subjectOf x = none := by rw [subjectOf, indexOf_eq_none h]
  rw [keyOf, unnamed]
  cases originOf g r b row <;> rfl

theorem keyOf_eq_some {r b x : Byte} {row : RowField} {sub : Subject} (origin : originOf g r b row = some o)
    (subject : subjectOf x = some sub) : keyOf g r b row x = some ⟨o, sub⟩ := by
  rw [keyOf, origin, subject]

/-- Settles O55: CANCEL by whether its context is active, WATCH_CLEAR through its checks in their order. -/
theorem cancelAndWatchClear : Obligations.CancelAndWatchClear := by
  intro s h g hm
  dsimp only [commandOf]
  refine ⟨fun c => ⟨fun inactive hh => ?_, fun j job hh => ?_⟩, fun x outside hh => ?_, fun r b row sub outside hh => ?_,
    fun o sub rank row => ⟨fun outside hh => ?_, ?_⟩⟩
  · rw [exec_cancel hh hm, indexOf_ofNat c (by decide), State.whenSome, inactive]
    exact congrArg _ (hh.refuse_eq _)
  · obtain ⟨st, active, hb⟩ := Context.activeJob_eq_some.1 job
    have aborted := State.abort_withMessages hb active (reason := .cancelled) rfl
    obtain ⟨inHand, -⟩ := (State.sameElsewhere_of_elsewhere (s.abort_elsewhere c .cancelled)).port
    have decided := exec_cancel hh hm
    obtain ⟨-, taken, -, -⟩ := hh
    have waits : (s.abort c .cancelled).port.inHand = some h := inHand.trans taken
    refine ⟨_, s.abort c .cancelled, ?_, aborted, rfl⟩
    rw [decided, indexOf_ofNat c (by decide), State.whenSome, job, aborted.cancelPayload]
    exact congrArg _ (State.answer_eq_decided waits ..)
  · rw [exec_cancel hh hm, indexOf_eq_none outside]
    exact congrArg _ (hh.refuse_eq _)
  · rw [exec_watchClear hh hm, keyOf_of_badOrigin (originOf_eq_none outside)]
    exact congrArg _ (hh.refuse_eq _)
  · rw [exec_watchClear hh hm, keyOf_of_badSubject outside]
    exact congrArg _ (hh.refuse_eq _)
  · rintro ⟨_, subject⟩ rfl named
    have key := keyOf_eq_some (originOf_ofNat rank row) (subjectOf_eq named)
    refine ⟨fun absent hh => ?_, fun x found claimed hh => ?_, fun x found free hh => ?_⟩
    · have absent : s.findItem _ = none := absent
      rw [exec_watchClear hh hm, key, State.whenSome, absent]
      exact congrArg _ (hh.refuse_eq _)
    · have found : s.findItem _ = some x := found
      rw [exec_watchClear hh hm, key, State.whenSome, found]
      exact congrArg _ ((if_pos (Option.isSome_iff_ne_none.2 claimed)).trans (hh.refuse_eq _))
    · have found : s.findItem _ = some x := found
      rw [exec_watchClear hh hm, key, State.whenSome, found]
      refine congrArg _ ((if_neg (by simp [free])).trans ?_)
      obtain ⟨-, inHand, -, -⟩ := hh
      exact State.answer_eq_decided (s := s.removeItem _) inHand .ok .none

end Sys2Proof.Machine
end

section
/-!
The frames of the sideband link: what `parseSideband` makes of good bytes and of each kind of bad ones (R109, section 11.3), and the
commands that a frame stands for (R101, R111).
-/

namespace Sys2Proof.Machine

variable {s : State} {bytes : List Byte} {kind header len code cls rep : Byte} {payload : List Byte} {m : InMsg}

/-! ## Fields with a list of values -/

theorem noteClassOf_eq_none (h1 : cls ≠ 0x01) (h2 : cls ≠ 0x02) : noteClassOf cls = none := by
  unfold noteClassOf
  split
  · next h => exact absurd (BitVec.eq_of_toNat_eq h) h1
  · next h => exact absurd (BitVec.eq_of_toNat_eq h) h2
  · rfl

theorem refuseReasonOf_eq_none (h1 : code ≠ 0x01) (h2 : code ≠ 0x02) : refuseReasonOf code = none := by
  unfold refuseReasonOf
  split
  · next h => exact absurd (BitVec.eq_of_toNat_eq h) h1
  · next h => exact absurd (BitVec.eq_of_toNat_eq h) h2
  · rfl

theorem fenceActionOf_eq_none (h1 : code ≠ 0x01) (h2 : code ≠ 0x02) : fenceActionOf code = none := by
  unfold fenceActionOf
  split
  · next h => exact absurd (BitVec.eq_of_toNat_eq h) h1
  · next h => exact absurd (BitVec.eq_of_toNat_eq h) h2
  · rfl

theorem errorNoteOf_eq_none (rank bank r2 r1 r0 column : Byte) (h : (cls ≠ 0x01 ∧ cls ≠ 0x02) ∨ rep = 0) :
    errorNoteOf rank bank r2 r1 r0 column cls rep = none := by
  unfold errorNoteOf
  rcases h with ⟨h1, h2⟩ | silent
  · rw [noteClassOf_eq_none h1 h2]
  · cases noteClassOf cls with
    | none => rfl
    | some c => exact if_pos silent

/-! ## The header byte -/

theorem headerCtx_pack (c : Ctx) (round : RoundField) : headerCtx (BitVec.ofNat 8 (c.val * 64 + round.toNat)) = c := by
  ext
  simp only [headerCtx, BitVec.toNat_ofNat, Fin.val_ofNat]
  omega

theorem headerRound_pack (c : Ctx) (round : RoundField) :
    headerRound (BitVec.ofNat 8 (c.val * 64 + round.toNat)) = round := by
  refine BitVec.eq_of_toNat_eq ?_
  simp only [headerRound, BitVec.toNat_setWidth, BitVec.toNat_ofNat]
  omega

/-! ## Whole frames -/

/-- A frame with a good check byte has the message of its kind, if its LENGTH tells its payload. -/
theorem parseSideband_withCheck (kind header len : Byte) (payload : List Byte) :
    parseSideband (withCheck (kind :: header :: len :: payload)) =
      if payload.length = len.toNat then messageOf kind header payload else none := by
  simp [withCheck, parseSideband]

theorem parseSideband_eq_some (length : payload.length = len.toNat) (message : messageOf kind header payload = some m) :
    parseSideband (withCheck (kind :: header :: len :: payload)) = some m := by
  rw [parseSideband_withCheck, if_pos length, message]

theorem parseSideband_eq_none (message : messageOf kind header payload = none) :
    parseSideband (withCheck (kind :: header :: len :: payload)) = none := by
  rw [parseSideband_withCheck, message, ite_self]

theorem parseSideband_of_badCheck {body : List Byte} {check : Byte} (h : check ≠ checkByte body) :
    parseSideband (body ++ [check]) = none := by
  match body with
  | [] | [_] => rfl
  | [_, _] => simp [parseSideband]
  | _ :: _ :: _ :: _ => simp [parseSideband, h]

theorem parseSideband_of_short (h : bytes.length < 4) : parseSideband bytes = none := by
  match bytes with
  | [] | [_] | [_, _] => rfl
  | [_, _, _] => simp [parseSideband]
  | _ :: _ :: _ :: _ :: _ => simp only [List.length_cons] at h; omega

theorem parseSideband_of_badLength (kind header : Byte) {rest : List Byte} (h : rest.length ≠ len.toNat + 1) :
    parseSideband (kind :: header :: len :: rest) = none := by
  rw [parseSideband, if_pos h]

set_option smartUnfolding false in
/-- A kind that is none of the seven (section 11.3). The splitter of `messageOf` is too large for `split`, so its tests of the kind,
a chain of conditionals once its match unfolds as it stands, are taken one by one. -/
theorem messageOf_of_otherKind (other : ∀ k ∈ [0x01#8, 0x02#8, 0x10#8, 0x21#8, 0x22#8, 0x23#8, 0x31#8], kind ≠ k) :
    messageOf kind header payload = none := by
  have differs {k : Byte} (hk : kind ≠ k) : kind.toNat ≠ k.toNat := mt BitVec.eq_of_toNat_eq hk
  simp only [List.forall_mem_cons, List.not_mem_nil, false_imp_iff, implies_true, and_true] at other
  obtain ⟨hello, helloAck, note, accept, refuse, done, fence⟩ := other
  refine (dif_neg (differs hello)).trans ?_
  refine (dif_neg (differs helloAck)).trans ?_
  refine (dif_neg (differs note)).trans ?_
  refine (dif_neg (differs accept)).trans ?_
  refine (dif_neg (differs refuse)).trans ?_
  refine (dif_neg (differs done)).trans ?_
  exact dif_neg (differs fence)

/-- The seven kinds, each with its payload length (section 11.3). -/
theorem messageOf_eq_none_of_kind
    (h : (kind, payload.length) ∉
      [(0x01#8, 2), (0x02#8, 2), (0x10#8, 8), (0x21#8, 0), (0x22#8, 1), (0x23#8, 0), (0x31#8, 1)]) :
    messageOf kind header payload = none := by
  by_cases known : kind ∈ [0x01#8, 0x02#8, 0x10#8, 0x21#8, 0x22#8, 0x23#8, 0x31#8]
  · simp only [List.mem_cons, List.not_mem_nil, or_false] at known
    simp only [List.mem_cons, Prod.mk.injEq, List.not_mem_nil, or_false, not_or, not_and] at h
    obtain ⟨hello, helloAck, note, accept, refuse, done, fence⟩ := h
    rcases known with rfl | rfl | rfl | rfl | rfl | rfl | rfl
    · match payload, hello rfl with
      | [_, _], wrong => exact absurd rfl wrong
      | [], _ | [_], _ | _ :: _ :: _ :: _, _ => rfl
    · match payload, helloAck rfl with
      | [_, _], wrong => exact absurd rfl wrong
      | [], _ | [_], _ | _ :: _ :: _ :: _, _ => rfl
    · match payload, note rfl with
      | [_, _, _, _, _, _, _, _], wrong => exact absurd rfl wrong
      | [], _ | [_], _ | [_, _], _ | [_, _, _], _ | [_, _, _, _], _ | [_, _, _, _, _], _ | [_, _, _, _, _, _], _
      | [_, _, _, _, _, _, _], _ | _ :: _ :: _ :: _ :: _ :: _ :: _ :: _ :: _ :: _, _ => rfl
    · match payload, accept rfl with
      | [], wrong => exact absurd rfl wrong
      | _ :: _, _ => rfl
    · match payload, refuse rfl with
      | [_], wrong => exact absurd rfl wrong
      | [], _ | _ :: _ :: _, _ => rfl
    · match payload, done rfl with
      | [], wrong => exact absurd rfl wrong
      | _ :: _, _ => rfl
    · match payload, fence rfl with
      | [_], wrong => exact absurd rfl wrong
      | [], _ | _ :: _ :: _, _ => rfl
  · exact messageOf_of_otherKind fun k hk same => known (same ▸ hk)

/-! ## Taking a frame -/

theorem withCheck_ne_nil (body : List Byte) : withCheck body ≠ [] := List.concat_ne_nil _ _

theorem State.receiving_eq_true (held : s.powerHeld = false) (link : s.sbl.state ≠ .down) : s.receiving = true := by
  simp [State.receiving, held, link]

theorem State.receiving_eq_false (h : s.powerHeld = true ∨ s.sbl.state = .down) : s.receiving = false := by
  rcases h with held | link
  · simp [State.receiving, held]
  · simp [State.receiving, link]

theorem State.receive_of_deaf (h : s.receiving = false) (m : InMsg) : s.receive m = s := by
  exact if_neg (Bool.eq_false_iff.1 h)

theorem State.badFrame_of_deaf (h : s.receiving = false) : s.badFrame = s := by
  rw [State.badFrame, if_neg (Bool.eq_false_iff.1 h)]

theorem exec_badFrame (s : State) : exec .badFrame s = .next s.badFrame := rfl

theorem exec_goodFrame (h : parseSideband bytes = some m) : exec (.inboundFrame bytes) s = .next (s.receive m) := by
  refine congrArg Host.Outcome.next ?_
  rw [h, if_neg]
  intro empty
  rw [List.isEmpty_iff.1 empty] at h
  cases h

theorem exec_frame_of_bad (received : bytes ≠ []) (h : parseSideband bytes = none) :
    exec (.inboundFrame bytes) s = exec .badFrame s := by
  refine congrArg Host.Outcome.next ?_
  rw [h, if_neg (mt List.isEmpty_iff.1 received)]

theorem exec_frame_of_deaf (h : s.receiving = false) (bytes : List Byte) : exec (.inboundFrame bytes) s = .next s := by
  refine congrArg Host.Outcome.next ?_
  split
  · rfl
  · split
    · exact State.receive_of_deaf h _
    · exact State.badFrame_of_deaf h

theorem State.receive_errorNote (h : s.receiving = true) (n : ErrorNote) : s.receive (.errorNote n) =
    if s.sbl.state = .up then { s.goodFrame with wls := { s.wls with notes := s.wls.notes ++ [n] } } else s.goodFrame := by
  exact if_pos h

theorem State.receive_reply (h : s.receiving = true) (r : Reply) : s.receive (.reply r) =
    if s.sbl.state = .up then { s.goodFrame with mge := { s.mge with replies := s.mge.replies ++ [r] } } else s.goodFrame := by
  exact if_pos h

/-- Settles O36: the message of each good frame, and no message for each kind of bad one. -/
theorem framesAreDispatched : Obligations.FramesAreDispatched := by
  intro s
  refine ⟨fun bytes deaf => exec_frame_of_deaf (State.receiving_eq_false deaf) bytes, fun held link => ?_⟩
  have hears := State.receiving_eq_true held link
  refine ⟨fun rank bank r2 r1 r0 column rep counted cls => ?_, fun c round b => ?_, fun level count => ⟨?_, ?_⟩,
    fun body check bad => ?_, fun bytes received short => ?_, fun kind header len rest bad => ?_,
    fun kind header len payload bad => ?_, fun header rank bank r2 r1 r0 column cls rep bad => ?_,
    fun header code h1 h2 => ⟨?_, ?_⟩⟩
  · refine (exec_goodFrame ?_).trans (congrArg _ (State.receive_errorNote hears _))
    cases cls <;> exact parseSideband_eq_some rfl (if_neg counted)
  · refine (exec_goodFrame (m := .reply ⟨c, round, b⟩) ?_).trans (congrArg _ (State.receive_reply hears _))
    have packed : (⟨c, round, b⟩ : Reply) = ⟨headerCtx _, headerRound _, b⟩ :=
      congrArg₂ (Reply.mk · · b) (headerCtx_pack c round).symm (headerRound_pack c round).symm
    rw [packed]
    match b with
    | .copyAccept | .copyRefuse .busy | .copyRefuse .unsupported | .copyDone | .fenceAck .set | .fenceAck .release =>
      exact parseSideband_eq_some rfl rfl
  · exact exec_goodFrame (parseSideband_eq_some rfl rfl)
  · exact exec_goodFrame (parseSideband_eq_some rfl rfl)
  · exact exec_frame_of_bad (List.concat_ne_nil _ _) (parseSideband_of_badCheck bad)
  · exact exec_frame_of_bad received (parseSideband_of_short short)
  · exact exec_frame_of_bad (List.cons_ne_nil _ _) (parseSideband_of_badLength kind header bad)
  · exact exec_frame_of_bad (withCheck_ne_nil _) (parseSideband_eq_none (messageOf_eq_none_of_kind bad))
  · exact exec_frame_of_bad (withCheck_ne_nil _) (parseSideband_eq_none (errorNoteOf_eq_none _ _ _ _ _ _ bad))
  · exact exec_frame_of_bad (withCheck_ne_nil _)
      (parseSideband_eq_none (congrArg (Option.map _) (refuseReasonOf_eq_none h1 h2)))
  · exact exec_frame_of_bad (withCheck_ne_nil _)
      (parseSideband_eq_none (congrArg (Option.map _) (fenceActionOf_eq_none h1 h2)))

end Sys2Proof.Machine
end

section
/-!
The end of a conversation: every migration ends silently and every PENDING is emptied (R95, R96, R110), and the fourth bad frame
that brings it about (R110, R102).
-/

namespace Sys2Proof.Machine

variable {s t u : State} {reason : AbortReason}

/-! ## What silent endings read of a state -/

/-- `t` differs from `s` at most in the messages to be sent: OUTBOUND, WAITING and PENDING of the contexts. -/
structure State.SameButMessages (s t : State) : Prop where
  offLink : t.offLink = s.offLink
  ctx : ∀ c, ∃ held, t.ctx c = { s.ctx c with held := held }

namespace State.SameButMessages

theorem refl (s : State) : s.SameButMessages s := ⟨rfl, fun c => ⟨(s.ctx c).held, rfl⟩⟩

theorem trans (a : s.SameButMessages t) (b : t.SameButMessages u) : s.SameButMessages u where
  offLink := b.offLink.trans a.offLink
  ctx c := by
    obtain ⟨held, hb⟩ := b.ctx c
    obtain ⟨_, ha⟩ := a.ctx c
    exact ⟨held, by rw [hb, ha]⟩

theorem setOutbound (s : State) (l : List OutMsg) : s.SameButMessages (s.setOutbound l) := ⟨rfl, (refl s).ctx⟩
theorem setWaiting (s : State) (l : List Ctx) : s.SameButMessages (s.setWaiting l) := ⟨rfl, (refl s).ctx⟩

theorem setHeld (s : State) (c : Ctx) (l : List HeldMsg) :
    s.SameButMessages (s.setCtx c { s.ctx c with held := l }) where
  offLink := rfl
  ctx d := by
    rw [State.setCtx_ctx]
    split
    · next hd => exact ⟨l, by rw [hd]⟩
    · exact (refl s).ctx d

/-- R115: what a displaced message leaves alone. -/
theorem displaceTail (s : State) : s.SameButMessages s.displaceTail := by
  unfold State.displaceTail
  split
  · exact refl s
  · dsimp only
    split
    · exact ((setOutbound s _).trans (setHeld _ _ _)).trans (setWaiting _ _)
    · exact setOutbound s _

/-- R103, R115: what a greeting leaves alone. -/
theorem queueGreeting (s : State) (m : OutMsg) : s.SameButMessages (s.queueGreeting m) := by
  unfold State.queueGreeting
  split
  · exact refl s
  · dsimp only
    split
    · exact setOutbound s _
    · exact (displaceTail s).trans (setOutbound _ _)

theorem body (a : s.SameButMessages t) (c : Ctx) : (t.ctx c).body = (s.ctx c).body := by
  obtain ⟨_, hc⟩ := a.ctx c
  rw [hc]

theorem activeJobs (a : s.SameButMessages t) : t.activeJobs = s.activeJobs :=
  List.filterMap_congr fun c _ => by rw [Context.activeJob, Context.activeJob, a.body]

theorem failedBit (a : s.SameButMessages t) : t.failedBit = s.failedBit := by
  rw [State.failedBit, State.failedBit, a.activeJobs]

theorem migrationKey (a : s.SameButMessages t) (j : Job) : t.migrationKey j = s.migrationKey j := by
  rw [State.migrationKey, State.migrationKey, State.entry_of_offLink a.offLink]

/-- A silent ending does not read the messages to be sent. -/
theorem endedSilently (a : s.SameButMessages t) (h : t.EndedSilently u reason) : s.EndedSilently u reason where
  idle c idle := by
    obtain ⟨_, hc⟩ := a.ctx c
    simpa only [hc] using h.idle c (by rw [hc]; exact idle)
  ended c st j hb := by
    obtain ⟨_, hc⟩ := a.ctx c
    simpa only [hc] using h.ended c st j ((a.body c).trans hb)
  entries i := by
    rw [h.entries, a.activeJobs, State.entry_of_offLink a.offLink]
  generation := h.generation.trans (State.generation_of_offLink a.offLink)
  slots r b k := by
    rw [h.slots, a.activeJobs, State.slot_of_offLink a.offLink]
  items := by
    rw [h.items, a.activeJobs, State.items_of_offLink a.offLink, funext a.migrationKey]

end State.SameButMessages

/-! ## The end of a conversation -/

/-- A silent ending does not read the link. -/
theorem State.EndedSilently.ofSbl {x : Link} (h : ({ s with sbl := x } : State).EndedSilently t reason) :
    s.EndedSilently t reason :=
  ⟨h.idle, h.ended, h.entries, h.generation, h.slots, h.items⟩

/-- What follows a silent ending on the link and the port is not part of it. -/
theorem State.EndedSilently.congr (h : s.EndedSilently t reason) (mge : u.mge = t.mge) (rmt : u.rmt = t.rmt)
    (sld : u.sld = t.sld) (wls : u.wls = t.wls) : s.EndedSilently u reason := by
  have ctx (c : Ctx) : u.ctx c = t.ctx c := congrArg (·.contexts[c]) mge
  have entry (i : EntryIx) : u.entry i = t.entry i := congrArg (·.entries[i]) rmt
  have slot (r : Rank) (b : Bank) (k : SlotNo) : u.slot r b k = t.slot r b k := congrArg (·[r][b][k]) sld
  obtain ⟨idle, ended, entries, generation, slots, items⟩ := h
  exact ⟨by simpa only [ctx] using idle, by simpa only [ctx] using ended, by simpa only [entry] using entries,
    by rw [rmt, generation], by simpa only [slot] using slots, by rw [wls, items]⟩

theorem State.clearAllHeld_ctx (s : State) (c : Ctx) : s.clearAllHeld.ctx c = { s.ctx c with held := [] } := by
  simp [State.ctx, State.clearAllHeld]

theorem State.clearAllHeld_offLink (s : State) : s.clearAllHeld.offLink = s.offLink := rfl

/-- R95, R96: every migration ends silently, and every PENDING is emptied. -/
theorem State.endConversation_endedSilently (s : State) (silent : reason.silent = true) :
    s.EndedSilently (s.endAllSilently reason).clearAllHeld reason :=
  (State.EndedOn.endAllSilently s silent).endedSilently (State.clearAllHeld_offLink _) fun c =>
    ⟨[], State.clearAllHeld_ctx _ c, fun _ => rfl⟩

/-- R88: MIGRATION_FAILED is raised when a migration was active. -/
theorem State.endAllSilently_conditions (s : State) (silent : reason.silent = true) (raises : reason ≠ .warmReset) :
    (s.endAllSilently reason).port.conditions = s.port.conditions ||| s.failedBit := by
  rw [(State.EndedOn.endAllSilently s silent).conditions]
  simp only [raises, or_false]
  rfl

/-- What the end of every migration leaves alone. -/
theorem State.endAllSilently_sameElsewhere (s : State) (reason : AbortReason) :
    s.SameElsewhere (s.endAllSilently reason) :=
  State.sameElsewhere_of_elsewhere (s.endAllSilently_elsewhere reason)

/-! ## The failure of the link -/

/-- R95, R110: the failure of the link, event by event. -/
theorem State.linkFail_endedSilently (s : State) : s.EndedSilently s.linkFail .linkDown :=
  .ofSbl (.congr (s.linkDown.endConversation_endedSilently rfl) (by simp [State.linkFail]) (by simp [State.linkFail])
    (by simp [State.linkFail]) (by simp [State.linkFail]))

theorem State.linkFail_conditions (s : State) :
    s.linkFail.port.conditions = s.port.conditions ||| s.failedBit ||| conditionBit .linkFault :=
  have after (v : State) : (v.clearAllHeld.raise .linkFault).enterGreeting.port.conditions =
    v.port.conditions ||| conditionBit .linkFault := rfl
  (after _).trans (congrArg (· ||| _) (s.linkDown.endAllSilently_conditions rfl nofun))

theorem State.linkFail_held (s : State) (c : Ctx) : (s.linkFail.ctx c).held = [] :=
  have after (v : State) : ((v.clearAllHeld.raise .linkFault).enterGreeting.ctx c).held = [] :=
    congrArg Context.held (v.clearAllHeld_ctx c)
  after _

/-- R102: what has begun on the wire is finished. -/
theorem State.linkFail_sbl (s : State) : s.linkFail.sbl =
    { s.sbl with state := .greeting, badRun := 0, retryTimer := some 100, outbound := [.hello], waiting := [] } := by
  obtain ⟨-, -, -, wire⟩ := (s.linkDown.endAllSilently_sameElsewhere .linkDown).linkState
  exact congrArg (Link.mk .greeting 0 (some 100) [.hello] []) wire

/-- R110: a bad frame by what BAD_RUN has reached. -/
theorem State.badFrame_of_receiving (h : s.receiving = true) : s.badFrame =
    if 3 ≤ s.sbl.badRun then s.linkFail else { s with sbl := { s.sbl with badRun := s.sbl.badRun + 1 } } := by
  simp [State.badFrame, h, Config.badRunLimit]

/-- Settles O37: the count below its limit, and the failure of the link at it. -/
theorem badFramesFailTheLink : Obligations.BadFramesFailTheLink := by
  intro s
  refine ⟨fun deaf => congrArg _ (State.badFrame_of_deaf (State.receiving_eq_false deaf)), fun held link below => ?_,
    fun held link reached =>
      ⟨s.linkFail, ?_, s.linkFail_endedSilently, s.linkFail_held, s.linkFail_sbl, s.linkFail_conditions, ?_⟩⟩
  · rw [exec_badFrame, State.badFrame_of_receiving (State.receiving_eq_true held link), if_neg (Nat.not_le.2 below)]
  · rw [exec_badFrame, State.badFrame_of_receiving (State.receiving_eq_true held link), if_pos reached]
  · have same := s.linkDown.endAllSilently_sameElsewhere .linkDown
    simp [State.linkFail, same.ctr, same.pol, same.rst, same.mode, same.ready]

end Sys2Proof.Machine
end

section
/-! The greetings: HELLO and HELLO_ACK by the state of the link, the level and the context count (R104 to R107, R96). -/

namespace Sys2Proof.Machine

variable {s : State} {m : OutMsg} {level count : Byte} {reason : AbortReason}

/-! ## A greeting at the head of OUTBOUND -/

theorem State.queueGreeting_of_mem (h : m ∈ s.sbl.outbound) : s.queueGreeting m = s :=
  if_pos (List.contains_iff_mem.2 h)

theorem State.queueGreeting_of_room (h : m ∉ s.sbl.outbound) (room : s.sbl.outbound.length < 8) :
    s.queueGreeting m = s.setOutbound (m :: s.sbl.outbound) := by
  have roomy : s.outboundRoom = true := by simp [State.outboundRoom, Config.outboundCapacity, room]
  rw [State.queueGreeting, if_neg (mt List.contains_iff_mem.1 h), if_pos roomy]

/-- R103, R115: with room in OUTBOUND a greeting is queued at the head, unless it waits there unsent. -/
theorem State.queueGreeting_eq (room : s.sbl.outbound.length < 8) :
    s.queueGreeting m = s.setOutbound (if m ∈ s.sbl.outbound then s.sbl.outbound else m :: s.sbl.outbound) := by
  by_cases h : m ∈ s.sbl.outbound
  · rw [State.queueGreeting_of_mem h, if_pos h]
    rfl
  · rw [State.queueGreeting_of_room h room, if_neg h]

/-- R104, R105: with nothing waiting, the completed greeting leaves all of OUTBOUND but an unsent HELLO. -/
theorem State.linkUp_of_waiting_nil (waiting : s.sbl.waiting = []) : s.linkUp =
    { s with sbl := { s.sbl with
        state := .up, retryTimer := none, outbound := s.sbl.outbound.filter fun m => decide (m ≠ .hello) } } := by
  have kept : (fun m : OutMsg => m != .hello) = fun m => decide (m ≠ .hello) := by
    funext m
    by_cases h : m = .hello <;> simp [h]
  rw [← kept]
  exact State.refill_of_waiting_nil _ waiting

/-- R95: with every context IDLE there is nothing to end. -/
theorem State.endAllSilently_of_idle (idle : ∀ c, (s.ctx c).isIdle = true) : s.endAllSilently reason = s := by
  refine List.foldlRecOn (motive := fun u : State => u = s) _ _ rfl fun u hu c _ => ?_
  rw [hu, State.endSilently]
  have quiet := idle c
  unfold Context.isIdle at quiet
  split at quiet
  · next hb => rw [hb]
  · cases quiet

/-! ## Taking a greeting -/

theorem mismatched_eq_true (h : level ≠ 1 ∨ count ≠ 4) : mismatched level count = true := by
  simpa [mismatched, Config.protocolLevel, Config.contextCount] using h

theorem exec_hello (h : s.receiving = true) : exec (.hello level count) s = .next (s.goodFrame.takeHello level count) :=
  congrArg Host.Outcome.next (if_pos h)

theorem exec_helloAck (h : s.receiving = true) :
    exec (.helloAck level count) s = .next (s.goodFrame.takeHelloAck level count) :=
  congrArg Host.Outcome.next (if_pos h)

theorem State.takeHello_of_mismatch (h : level ≠ 1 ∨ count ≠ 4) : s.takeHello level count = s.raise .linkFault :=
  if_pos (mismatched_eq_true h)

theorem State.takeHelloAck_of_mismatch (h : level ≠ 1 ∨ count ≠ 4) : s.takeHelloAck level count = s.raise .linkFault :=
  if_pos (mismatched_eq_true h)

theorem State.takeHello_greeting (h : s.sbl.state = .greeting) :
    s.takeHello 1 4 = (s.linkUp.queueGreeting .helloAck).endAllSilently .linkReset := by
  rw [State.takeHello, if_neg (by decide), h]

theorem State.takeHello_up (h : s.sbl.state = .up) : s.takeHello 1 4 = s.greetAnew := by
  rw [State.takeHello, if_neg (by decide), h]

theorem State.takeHelloAck_greeting (h : s.sbl.state = .greeting) : s.takeHelloAck 1 4 = s.linkUp := by
  rw [State.takeHelloAck, if_neg (by decide), h]

theorem State.takeHelloAck_up (h : s.sbl.state = .up) : s.takeHelloAck 1 4 = s := by
  rw [State.takeHelloAck, if_neg (by decide), h]

/-- R105: a HELLO that completes the greeting is answered ahead of what OUTBOUND keeps. -/
theorem State.takeHello_greeting_of_idle (greeting : s.sbl.state = .greeting) (waiting : s.sbl.waiting = [])
    (room : s.sbl.outbound.length < 8) (idle : ∀ c, (s.ctx c).isIdle = true) :
    s.takeHello 1 4 = { s with sbl := { s.sbl with
      state := .up, retryTimer := none,
      outbound := if .helloAck ∈ s.sbl.outbound then s.sbl.outbound.filter fun m => decide (m ≠ .hello)
        else .helloAck :: s.sbl.outbound.filter fun m => decide (m ≠ .hello) } } := by
  have left : (s.sbl.outbound.filter fun m => decide (m ≠ .hello)).length < 8 := (List.length_filter_le ..).trans_lt room
  have still (c : Ctx) : ((s.linkUp.queueGreeting .helloAck).ctx c).isIdle = true :=
    (((State.OnLink.linkUp s).trans (.queueGreeting ..)).isIdle c).trans (idle c)
  rw [State.takeHello_greeting greeting, State.endAllSilently_of_idle still, State.linkUp_of_waiting_nil waiting,
    State.queueGreeting_eq left]
  simp [State.setOutbound]

/-! ## A conversation begun anew -/

/-- R106, R96: a HELLO taken while UP ends every migration. -/
theorem State.greetAnew_endedSilently (s : State) : s.EndedSilently s.greetAnew .linkReset :=
  (State.SameButMessages.queueGreeting s .helloAck).endedSilently
    (.congr (State.endConversation_endedSilently _ rfl) (by simp [State.greetAnew]) (by simp [State.greetAnew])
      (by simp [State.greetAnew]) (by simp [State.greetAnew]))

theorem State.greetAnew_held (s : State) (c : Ctx) : (s.greetAnew.ctx c).held = [] :=
  have after (v : State) : (v.clearAllHeld.onlyHelloAck.ctx c).held = [] := congrArg Context.held (v.clearAllHeld_ctx c)
  after _

/-- R106: whatever stays of the old conversation on the link and in the blocks that took no part in it. -/
theorem State.greetAnew_sameElsewhere (s : State) : s.SameElsewhere s.greetAnew :=
  have after (v : State) : v.clearAllHeld.onlyHelloAck.elsewhere = v.elsewhere := rfl
  have before := State.elsewhere_of_offLink (State.SameButMessages.queueGreeting s .helloAck).offLink
  State.sameElsewhere_of_elsewhere ((after _).trans ((State.endAllSilently_elsewhere ..).trans before))

/-- R106: OUTBOUND holds the HELLO_ACK alone. -/
theorem State.greetAnew_sbl (s : State) : s.greetAnew.sbl = { s.sbl with outbound := [.helloAck], waiting := [] } := by
  obtain ⟨state, badRun, retryTimer, wire⟩ := s.greetAnew_sameElsewhere.linkState
  have after (v : State) : v.onlyHelloAck.sbl = { v.onlyHelloAck.sbl with outbound := [.helloAck], waiting := [] } := rfl
  calc
    s.greetAnew.sbl = { s.greetAnew.sbl with outbound := [.helloAck], waiting := [] } := after _
    _ = { s.sbl with outbound := [.helloAck], waiting := [] } := by simp only [state, badRun, retryTimer, wire]

theorem State.greetAnew_conditions (s : State) : s.greetAnew.port.conditions = s.port.conditions ||| s.failedBit := by
  have queued := State.SameButMessages.queueGreeting s .helloAck
  have after (v : State) : v.clearAllHeld.onlyHelloAck.port.conditions = v.port.conditions := rfl
  rw [State.greetAnew, after, State.endAllSilently_conditions (reason := .linkReset) _ rfl nofun, queued.failedBit,
    State.conditions_of_offLink queued.offLink]

/-- Settles O38: the greetings that differ, then the good ones by the state of the link. -/
theorem greetingsAreTaken : Obligations.GreetingsAreTaken := by
  intro s held link
  have hears := State.receiving_eq_true held link
  refine ⟨fun level count differs => ⟨?_, ?_⟩, fun greeting waiting => ?_, fun greeting waiting room idle => ?_, fun up => ?_,
    fun up => ⟨s.goodFrame.greetAnew, ?_, .ofSbl (State.greetAnew_endedSilently _), State.greetAnew_held _,
      State.greetAnew_sbl _, State.greetAnew_conditions _, ?_⟩⟩
  · exact (exec_hello hears).trans (congrArg _ (State.takeHello_of_mismatch differs))
  · exact (exec_helloAck hears).trans (congrArg _ (State.takeHelloAck_of_mismatch differs))
  · exact (exec_helloAck hears).trans (congrArg _
      ((State.takeHelloAck_greeting (s := s.goodFrame) greeting).trans (State.linkUp_of_waiting_nil waiting)))
  · exact (exec_hello hears).trans (congrArg _
      (State.takeHello_greeting_of_idle (s := s.goodFrame) greeting waiting room idle))
  · exact (exec_helloAck hears).trans (congrArg _ (State.takeHelloAck_up (s := s.goodFrame) up))
  · exact (exec_hello hears).trans (congrArg _ (State.takeHello_up (s := s.goodFrame) up))
  · have same := s.goodFrame.greetAnew_sameElsewhere
    exact ⟨same.ctr, same.pol, same.rst, same.mode⟩

end Sys2Proof.Machine
end

section
/-! The retry timer (R103), and the transmission of the head of OUTBOUND with the use of the room it leaves (R113, R114). -/

namespace Sys2Proof.Machine

variable {s : State} {c d : Ctx} {h : HeldMsg} {hs : List HeldMsg} {ws : List Ctx} {m : OutMsg} {rest : List OutMsg}

/-! ## The retry timer -/

theorem State.retry_of_room (room : s.sbl.outbound.length < 8) : s.retry = { s with sbl := { s.sbl with
    retryTimer := some 100, outbound := if .hello ∈ s.sbl.outbound then s.sbl.outbound else .hello :: s.sbl.outbound } } := by
  rw [State.retry, State.queueGreeting_eq room]
  rfl

/-! ## Room for a waiting message -/

/-- R114: without room nothing that waits is queued. -/
theorem State.refillUpTo_of_full (full : s.outboundRoom = false) (n : Nat) : s.refillUpTo n = s := by
  cases n with
  | zero => rfl
  | succ n =>
    unfold State.refillUpTo
    split
    · rfl
    · exact if_neg (Bool.eq_false_iff.1 full)

/-- R114: with room the first of WAITING has its oldest message queued. -/
theorem State.refillUpTo_succ (n : Nat) (waiting : s.sbl.waiting = c :: ws) (room : s.outboundRoom = true)
    (held : (s.ctx c).held = h :: hs) : s.refillUpTo (n + 1) =
      (((s.setWaiting ws).setCtx c { s.ctx c with held := hs }).queueTail c h).refillUpTo n := by
  simp [State.refillUpTo, waiting, room, held]

/-- R76: a message joins OUTBOUND at the tail. -/
theorem State.queueTail_sbl (s : State) (c : Ctx) (h : HeldMsg) :
    (s.queueTail c h).sbl = { s.sbl with outbound := s.sbl.outbound ++ [h.msg] } := by
  unfold State.queueTail
  split <;> rfl

/-- R75: the timer a message starts when it is queued, if any, replaces the one that runs. -/
theorem Context.queued_eq (x : Context) (m : OutMsg) : x.queued m = { x with timer := (x.timerFor m).or x.timer } := by
  unfold Context.queued
  split
  · next timed => rw [timed]; rfl
  · next untimed => rw [untimed]; rfl

/-- R75, R76: a message that had not started its timer before starts it now. -/
theorem State.queueTail_ctx_same (s : State) (c : Ctx) (h : HeldMsg) : (s.queueTail c h).ctx c =
    { s.ctx c with timer := if h.started then (s.ctx c).timer else ((s.ctx c).timerFor h.msg).or (s.ctx c).timer } := by
  unfold State.queueTail
  split
  · rfl
  · exact (State.setCtx_ctx_same s c _).trans (Context.queued_eq ..)

theorem State.queueTail_ctx_other (s : State) (h : HeldMsg) (other : d ≠ c) : (s.queueTail c h).ctx d = s.ctx d := by
  unfold State.queueTail
  split
  · rfl
  · exact (State.setCtx_ctx s c d _).trans (if_neg other)

/-- R114: room for one more message takes the oldest message of the first of WAITING, and no other. -/
theorem State.refill_of_seven (waiting : s.sbl.waiting = c :: ws) (held : (s.ctx c).held = h :: hs)
    (seven : s.sbl.outbound.length = 7) :
    s.refill = ((s.setWaiting ws).setCtx c { s.ctx c with held := hs }).queueTail c h := by
  have room : s.outboundRoom = true := by simp [State.outboundRoom, Config.outboundCapacity, seven]
  have full : (((s.setWaiting ws).setCtx c { s.ctx c with held := hs }).queueTail c h).outboundRoom = false := by
    rw [State.outboundRoom, State.queueTail_sbl]
    simp [State.setWaiting, Config.outboundCapacity, seven]
  rw [State.refill, waiting, List.length_cons, State.refillUpTo_succ _ waiting room held, State.refillUpTo_of_full full]

/-! ## Transmission -/

theorem exec_transmitBegin (hears : s.receiving = true) : exec .transmitBegin s = .next s.transmitHead :=
  congrArg Host.Outcome.next (if_pos hears)

theorem State.transmitHead_of_cons (queue : s.sbl.outbound = m :: rest) :
    s.transmitHead = ({ s with sbl := { s.sbl with outbound := rest, wire := some m } } : State).refill := by
  rw [State.transmitHead, queue]

theorem State.transmitHead_of_nil (empty : s.sbl.outbound = []) : s.transmitHead = s := by
  rw [State.transmitHead, empty]

/-- Settles O39: the retry timer by the link's state and its own, and a transmission by what waits for the room. -/
theorem linkSendsAndRetries : Obligations.LinkSendsAndRetries := by
  intro s
  refine ⟨fun greeting timed room => ?_, fun stopped => ?_, fun m rest held link queue => ?_, fun silent => ?_⟩
  · exact congrArg _ ((if_pos ⟨greeting, Option.isSome_iff_ne_none.2 timed⟩).trans (State.retry_of_room room))
  · refine congrArg _ (if_neg ?_)
    rintro ⟨greeting, timed⟩
    exact stopped.elim (· greeting) (Option.isSome_iff_ne_none.1 timed)
  · rw [exec_transmitBegin (State.receiving_eq_true held link), State.transmitHead_of_cons queue]
    refine ⟨fun waiting => congrArg _ (State.refill_of_waiting_nil _ waiting), fun c ws x hs waiting pending seven => ?_⟩
    let sent : State := { s with sbl := { s.sbl with outbound := rest, wire := some m } }
    let popped : State := (sent.setWaiting ws).setCtx c { s.ctx c with held := hs }
    have taken : popped.ctx c = { s.ctx c with held := hs } := State.setCtx_ctx_same ..
    have offLink : (popped.queueTail c x).offLink = sent.offLink := popped.queueTail_offLink c x
    refine ⟨popped.queueTail c x, congrArg _ (State.refill_of_seven (s := sent) waiting pending seven), ?_, ?_, fun d hd => ?_,
      (congrArg State.rmt offLink :), (congrArg State.sld offLink :), (congrArg State.ctr offLink :),
      (congrArg State.wls offLink :), (congrArg State.port offLink :)⟩
    · exact State.queueTail_sbl ..
    · have asks : ({ s.ctx c with held := hs } : Context).timerFor x.msg = (s.ctx c).timerFor x.msg := rfl
      rw [State.queueTail_ctx_same, taken, asks]
      cases (s.ctx c).timerFor x.msg <;> rfl
    · exact (State.queueTail_ctx_other _ _ hd).trans ((State.setCtx_ctx ..).trans (if_neg hd))
  · by_cases hears : s.receiving = true
    · have empty : s.sbl.outbound = [] := silent.resolve_right fun deaf =>
        Bool.eq_false_iff.1 (State.receiving_eq_false deaf.symm) hears
      rw [exec_transmitBegin hears, State.transmitHead_of_nil empty]
    · exact congrArg _ (if_neg hears)

end Sys2Proof.Machine
end

section
/-!
The error notes as the Watch List takes them (R123 to R125): one lost, one out of range, one on a data row and one on a spare row,
which goes by the state of its slot (R37).
-/

namespace Sys2Proof.Machine

variable {s : State} {g : Geometry} {n : ErrorNote} {rest : List ErrorNote} {r : Rank} {b : Bank} {k : SlotNo} {c : Ctx} {j : Job}

/-! ## The note taken -/

/-- R101, R123: the note that the link has passed on first is taken. -/
theorem exec_errorNote (h : s.hasNote n rest) : exec (.errorNote n) s = .next ((s.withNotes rest).takeNote n) := by
  obtain ⟨powered, passed⟩ := h
  have head : s.wls.notes.head? = some n := by rw [passed]; rfl
  have taken : s.takePassedNote n = (s.withNotes rest).takeNote n := by
    rw [State.takePassedNote, passed]
    exact if_pos rfl
  exact congrArg Host.Outcome.next ((if_neg (Bool.eq_false_iff.1 powered)).trans ((if_pos head).trans taken))

theorem indexOf_eq_some {m : Nat} {x : Byte} {i : Fin m} (h : x.toNat = i.val) : indexOf m x = some i :=
  (dif_pos (h ▸ i.isLt)).trans (congrArg some (Fin.ext h))

theorem rankOf_eq_some {x : Byte} (h : x.toNat = r.val) (configured : r.val < g.ranks.toNat) : rankOf g x = some r := by
  rw [rankOf, indexOf_eq_some h]
  exact if_pos (decide_eq_true configured)

theorem State.takeNote_of_inactive (inactive : ∀ g, s.mode ≠ .active g) (n : ErrorNote) : s.takeNote n = s := by
  rw [State.takeNote, State.geometry_of_inactive inactive]

/-- R124: the checks of a note, each way it is out of range. -/
theorem State.takeNote_of_badRange (hm : s.mode = .active g)
    (bad : g.ranks.toNat ≤ n.rank.toNat ∨ 16 ≤ n.bank.toNat ∨ g.n ≤ n.row.toNat ∨ 127 < n.column.toNat) :
    s.takeNote n = s.raise .badNote := by
  simp only [State.takeNote, State.geometry_of_active hm]
  split
  · next r b rank bank =>
    rcases bad with noRank | noBank | outside
    · rw [rankOf_eq_none noRank] at rank; cases rank
    · rw [indexOf_eq_none noBank] at bank; cases bank
    · exact if_neg (by omega)
  · rfl

/-- R124, R125: a note in range goes by its row. -/
theorem State.takeNote_of_place (hm : s.mode = .active g) (rank : n.rank.toNat = r.val) (bank : n.bank.toNat = b.val)
    (configured : r.val < g.ranks.toNat) (row : n.row.toNat < g.n) (column : n.column.toNat ≤ 127) : s.takeNote n =
      if n.row.toNat < g.dataRows then s.dataNote ⟨r, b, n.row.toNat⟩ n.cls n.rep
      else s.slotNote r b (g.slotOf n.row.toNat) := by
  simp only [State.takeNote, State.geometry_of_active hm, rankOf_eq_some rank configured, indexOf_eq_some bank]
  exact if_pos ⟨row, column⟩

/-- R26: a bank has room for its sixteen spare rows. -/
theorem Geometry.spareRows_le_n (g : Geometry) : 16 ≤ g.n := by
  have width : 4 ≤ g.w.toNat := by
    cases g.w with
    | _ => decide
  exact Nat.pow_le_pow_right (n := 2) (by decide) width

theorem State.takeNote_of_spareRow (hm : s.mode = .active g) (rank : n.rank.toNat = r.val) (bank : n.bank.toNat = b.val)
    (configured : r.val < g.ranks.toNat) (row : n.row.toNat = g.n - 16 + k.val) (column : n.column.toNat ≤ 127) :
    s.takeNote n = s.slotNote r b k := by
  have spare := g.spareRows_le_n
  have spareRow : n.row.toNat = g.slotRow k := row
  rw [State.takeNote_of_place hm rank bank configured (by omega) column, if_neg, spareRow, Geometry.slotOf_slotRow]
  rw [spareRow, Geometry.slotRow]
  omega

/-! ## A note on a spare row -/

/-- R37: the context found is the lowest-numbered one that fills the entry. -/
theorem State.activeCtxOf_eq_some (job : (s.ctx c).activeJob = some j)
    (first : ∀ d j', d < c → (s.ctx d).activeJob = some j' → j'.entry ≠ j.entry) : s.activeCtxOf j.entry = some c := by
  refine (find?_finRange_eq_some _ c).2 ⟨by simp [job], fun d below => ?_⟩
  cases other : (s.ctx d).activeJob with
  | none => rfl
  | some j' => exact beq_eq_false_iff_ne.2 (first d j' below other)

theorem State.slotNote_of_free (h : (s.slot r b k).state = .free) : s.slotNote r b k = s.setSlot r b k ⟨.free, .bad⟩ := by
  rw [State.slotNote, h]
  rfl

theorem State.slotNote_of_testing {f : Bool} (h : (s.slot r b k).state = .testing f) :
    s.slotNote r b k = s.setSlot r b k ⟨.testing true, (s.slot r b k).grade⟩ := by
  rw [State.slotNote, h]
  rfl

theorem State.slotNote_of_target (h : (s.slot r b k).state = .target j.entry) (filled : s.activeCtxOf j.entry = some c) :
    s.slotNote r b k = s.abort c .targetFault := by
  simp only [State.slotNote, h, filled]

theorem State.slotNote_of_unexpected (h : (s.slot r b k).state = .sink ∨ (∃ i, (s.slot r b k).state = .mapped i) ∨
    ∃ i, (s.slot r b k).state = .permanent i) : s.slotNote r b k = s.raise .badNote := by
  rw [State.slotNote]
  rcases h with sink | ⟨i, mapped⟩ | ⟨i, permanent⟩
  · rw [sink]
  · rw [mapped]
  · rw [permanent]

/-- Settles O46: a lost note, one out of range, then one on a spare row by the state of its slot. -/
theorem spareRowNotesGoBySlot : Obligations.SpareRowNotesGoBySlot := by
  intro s n rest h
  have taken {t : State} (after : (s.withNotes rest).takeNote n = t) : exec (.errorNote n) s = .next t :=
    (exec_errorNote h).trans (congrArg _ after)
  refine ⟨fun inactive => taken (State.takeNote_of_inactive (s := s.withNotes rest) inactive n), fun g hm =>
    ⟨fun bad => taken (State.takeNote_of_badRange hm bad), fun r b k rank bank configured row column => ?_⟩⟩
  have onSlot : (s.withNotes rest).takeNote n = (s.withNotes rest).slotNote r b k :=
    State.takeNote_of_spareRow hm rank bank configured row column
  refine ⟨fun free => taken (onSlot.trans (State.slotNote_of_free free)),
    fun f testing => taken (onSlot.trans (State.slotNote_of_testing testing)), fun i c j target job entry first => ?_,
    fun unexpected => taken (onSlot.trans (State.slotNote_of_unexpected unexpected))⟩
  subst entry
  have filled : (s.withNotes rest).activeCtxOf j.entry = some c := State.activeCtxOf_eq_some job first
  obtain ⟨st, active, hb⟩ := Context.activeJob_eq_some.1 job
  have replies := (congrArg (·.mge.replies) ((s.withNotes rest).abort_elsewhere c .targetFault) :)
  exact ⟨_, taken (onSlot.trans (State.slotNote_of_target target filled)), replies,
    State.abort_withMessages (s := s.withNotes rest) hb active rfl⟩

end Sys2Proof.Machine
end

section
/-!
The scoring of a note (R127 to R131): the victim of an eviction, the nomination test, and the four ends of `State.scoreNote` as
`Scored` tells them apart.
-/

namespace Sys2Proof.Machine

variable {s : State} {key : Key} {cls : NoteClass} {w : Nat} {run : Option Ctx} {l : List WatchItem} {v x : WatchItem}

/-! ## The victim (R130) -/

theorem nominated_of_victimOf_eq_none (h : victimOf l = none) : ∀ x ∈ l, x.nominated = true := by
  induction l with
  | nil => exact nofun
  | cons i l ih =>
    unfold victimOf at h
    split at h
    · next nominated => exact List.forall_mem_cons.2 ⟨nominated, ih h⟩
    · split at h
      · cases h
      · split at h <;> cases h

/-- The victim with one older item: that item when it may be evicted and no victim of the rest scores less, else the latter. -/
theorem victimOf_cons_cases {i : WatchItem} (h : victimOf (i :: l) = some v) :
    (i.nominated = true ∧ victimOf l = some v) ∨
    (i.nominated = false ∧ v = i ∧ ∀ u, victimOf l = some u → i.score ≤ u.score) ∨
    (i.nominated = false ∧ victimOf l = some v ∧ v.score < i.score) := by
  unfold victimOf at h
  split at h
  · next nominated => exact .inl ⟨nominated, h⟩
  · next evictable =>
    have evictable := Bool.eq_false_iff.2 evictable
    split at h
    · next allNominated =>
      cases h
      exact .inr (.inl ⟨evictable, rfl, fun u found => by rw [allNominated] at found; cases found⟩)
    · next u found =>
      split at h
      · next le =>
        cases h
        refine .inr (.inl ⟨evictable, rfl, fun u' found' => ?_⟩)
        cases found.symm.trans found'
        exact le
      · next gt =>
        cases h
        exact .inr (.inr ⟨evictable, found, Nat.lt_of_not_le gt⟩)

/-- No item that may be evicted scores less than the victim. -/
theorem victimOf_least (h : victimOf l = some v) : ∀ x ∈ l, x.nominated = false → v.score ≤ x.score := by
  induction l generalizing v with
  | nil => exact nofun
  | cons i l ih =>
    rcases victimOf_cons_cases h with ⟨nominated, found⟩ | ⟨-, rfl, least⟩ | ⟨-, found, lower⟩
    · exact List.forall_mem_cons.2 ⟨fun evictable => absurd nominated (Bool.eq_false_iff.1 evictable), ih found⟩
    · refine List.forall_mem_cons.2 ⟨fun _ => le_rfl, fun x hx evictable => ?_⟩
      cases found : victimOf l with
      | none => exact absurd (nominated_of_victimOf_eq_none found x hx) (Bool.eq_false_iff.1 evictable)
      | some u => exact (least u found).trans (ih found x hx evictable)
    · exact List.forall_mem_cons.2 ⟨fun _ => lower.le, ih found⟩

/-- The victim is the oldest of its score among the items that may be evicted. -/
theorem find?_of_victimOf (h : victimOf l = some v) : l.find? (fun x => !x.nominated && x.score == v.score) = some v := by
  induction l generalizing v with
  | nil => cases h
  | cons i l ih =>
    rcases victimOf_cons_cases h with ⟨nominated, found⟩ | ⟨evictable, rfl, -⟩ | ⟨-, found, lower⟩
    · exact (List.find?_cons_of_neg (by simp [nominated])).trans (ih found)
    · exact List.find?_cons_of_pos (by simp [evictable])
    · exact (List.find?_cons_of_neg (by simp [lower.ne'])).trans (ih found)

theorem evictable_of_victimOf (h : victimOf l = some v) : v.nominated = false := by
  obtain ⟨evictable, -⟩ := Bool.and_eq_true_iff.1 (List.find?_some (find?_of_victimOf h) :)
  simpa using evictable

/-! ## Nomination (R131, R148) -/

/-- What a note scored under a key leaves: the items and the creation counter given, NOMINATION raised and the key handed on when
the item is newly nominated, WATCH_FULL raised when there was no room for it. -/
def State.scoredAs (s : State) (key : Key) (items : List WatchItem) (counter : BitVec 32) (nom full : Bool) : State :=
  let u : State := { s with wls := { s.wls with items := items, counter := counter } }
  (if nom then (u.raise .nomination).handNomination key else u).raiseIf full .watchFull

/-- R148: a key is not queued twice, nor in a full queue. -/
theorem State.handNomination_eq (s : State) (key : Key) : s.handNomination key = { s with pol := { s.pol with nominations :=
    if key ∉ s.pol.nominations ∧ s.pol.nominations.length < 32 then s.pol.nominations ++ [key] else s.pol.nominations } } := by
  by_cases h : key ∉ s.pol.nominations ∧ s.pol.nominations.length < 32
  · rw [if_pos h]
    obtain ⟨fresh, room⟩ := h
    exact if_neg (not_or.2 ⟨mt List.contains_iff_mem.1 fresh, Nat.not_le.2 room⟩)
  · rw [if_neg h]
    have barred := Decidable.not_and_iff_not_or_not.1 h
    exact if_pos (barred.imp (fun queued => List.contains_iff_mem.2 (not_not.1 queued)) Nat.not_lt.1)

/-- What a scored note leaves, block by block. -/
theorem State.scoredAs_eq (s : State) (key : Key) (items : List WatchItem) (counter : BitVec 32) (nom full : Bool) :
    s.scoredAs key items counter nom full = { s with
      wls := { s.wls with items := items, counter := counter }
      pol := { s.pol with nominations :=
        if nom = true ∧ key ∉ s.pol.nominations ∧ s.pol.nominations.length < 32 then s.pol.nominations ++ [key]
        else s.pol.nominations }
      port := ((s.raiseIf nom .nomination).raiseIf full .watchFull).port } := by
  cases nom with
  | false => cases full <;> rfl
  | true =>
    simp only [State.scoredAs, if_true, State.handNomination_eq, true_and]
    cases full <;> rfl

theorem State.raiseIf_conditions (s : State) (raised : Bool) (k : Condition) :
    (s.raiseIf raised k).port.conditions = s.port.conditions ||| if raised then conditionBit k else 0 := by
  cases raised with
  | false => exact BitVec.or_zero.symm
  | true => rfl

/-- R131: the test on the item found, which nominates at the threshold and only once. -/
theorem State.testNomination_eq (found : s.findItem key = some x) {nom : Bool}
    (test : nom = (!x.nominated && decide (s.runProfile.nominateThreshold ≤ x.score))) : s.testNomination key =
    s.scoredAs key (s.wls.items.map fun i => if i.key = key then { i with nominated := i.nominated || nom } else i)
      s.wls.counter nom false := by
  have reached : nom = true ↔ s.runProfile.nominateThreshold ≤ x.score ∧ x.nominated = false := by
    rw [test, Bool.and_comm, Bool.and_eq_true, decide_eq_true_iff, Bool.not_eq_true']
  cases nom with
  | true =>
    simp only [State.testNomination, found, if_pos (reached.1 rfl), Bool.or_true]
    rfl
  | false =>
    simp only [State.testNomination, found, if_neg (mt reached.2 nofun), Bool.or_false, ite_self, List.map_id']
    rfl

/-! ## The items of a key -/

/-- R128: an item changed in place is found under its key as before. -/
theorem State.findItem_changeItem {f : WatchItem → WatchItem} (keeps : ∀ i, (f i).key = i.key)
    (found : s.findItem key = some x) : (s.changeItem key f).findItem key = some (f x) := by
  have test : ((fun i : WatchItem => i.key == key) ∘ fun i => if i.key = key then f i else i) = fun i => i.key == key := by
    funext i
    dsimp only [Function.comp]
    split
    · rw [keeps]
    · rfl
  have held : x.key = key := beq_iff_eq.1 (List.find?_some found :)
  have list : s.wls.items.find? (fun i => i.key == key) = some x := found
  refine (List.find?_map ..).trans ?_
  rw [test, list, Option.map_some, if_pos held]

/-- R128, R131: a note on an item that is there, scored and tested. -/
theorem State.testNomination_scored (found : s.findItem key = some x) {nom : Bool}
    (test : nom = (!x.nominated && decide (s.runProfile.nominateThreshold ≤ min 1023 (x.score + w)))) :
    (s.changeItem key fun i => i.scored cls w).testNomination key =
      s.scoredAs key (s.wls.items.map fun i => if i.key = key then { i with
        score := min 1023 (i.score + w), notes := min 65535 (i.notes + 1), lastClass := cls,
        nominated := i.nominated || nom } else i) s.wls.counter nom false := by
  refine (State.testNomination_eq (State.findItem_changeItem (f := fun i => i.scored cls w) (fun _ => rfl) found) test).trans ?_
  refine congrArg (s.scoredAs key · s.wls.counter nom false) ((List.map_map ..).trans (List.map_congr_left fun i _ => ?_))
  by_cases held : i.key = key
  · have held' : (i.scored cls w).key = key := held
    simp only [Function.comp_apply, if_pos held, if_pos held']
    rfl
  · simp only [Function.comp_apply, if_neg held]

/-- R129, R131: a new item under a fresh key is the one that the nomination test finds. -/
theorem State.testNomination_createItem (fresh : s.findItem key = none) {nom : Bool}
    (test : nom = decide (s.runProfile.nominateThreshold ≤ w)) : (s.createItem key cls w run).testNomination key =
      s.scoredAs key (s.wls.items ++ [⟨key, w, 1, cls, nom, run, none, s.wls.counter⟩]) (s.wls.counter + 1) nom false := by
  have absent : s.wls.items.find? (fun i => i.key == key) = none := fresh
  have found : (s.createItem key cls w run).findItem key = some ⟨key, w, 1, cls, false, run, none, s.wls.counter⟩ := by
    refine (List.find?_append ..).trans ?_
    rw [absent]
    exact List.find?_cons_of_pos (p := fun i : WatchItem => i.key == key) (beq_self_eq_true key)
  refine (State.testNomination_eq found test).trans (congrArg (s.scoredAs key · (s.wls.counter + 1) nom false) ?_)
  refine (List.map_append ..).trans (congrArg₂ (· ++ ·) ?_ (congrArg (· :: []) (if_pos rfl)))
  refine (List.map_congr_left fun i hi => if_neg ?_).trans (List.map_id _)
  simpa using List.find?_eq_none.1 absent i hi

/-! ## Scoring -/

/-- R127 to R131: each end of the scoring is one of those that `Scored` tells apart. -/
theorem State.scoreNote_scored (s : State) (key : Key) (cls : NoteClass) (w : Nat) (run : Option Ctx) :
    ∃ items counter nom full, Scored s key cls w run items counter nom full ∧
      s.scoreNote key cls w run = s.scoredAs key items counter nom full := by
  unfold State.scoreNote
  split
  · next x found => exact ⟨_, _, _, _, .existing x _ found rfl, State.testNomination_scored found rfl⟩
  · next fresh =>
    split
    · next weightless => exact ⟨_, _, _, _, .ignored fresh weightless, rfl⟩
    · next weighs =>
      have weighs := Nat.pos_of_ne_zero weighs
      split
      · next room => exact ⟨_, _, _, _, .created _ fresh weighs room rfl, State.testNomination_createItem fresh rfl⟩
      · next noRoom =>
        have crowded : 32 ≤ s.wls.items.length := Nat.not_lt.1 noRoom
        split
        · next v victim =>
          have least := victimOf_least victim
          split
          · next lower =>
            have still : (s.removeItem v.key).findItem key = none := by
              rw [State.findItem_eq_none] at fresh ⊢
              exact fun h => fresh ((List.filter_sublist.map _).mem h)
            exact ⟨_, _, _, _, .evicted v _ fresh crowded (Kept.victim_mem victim) (evictable_of_victimOf victim) least
              (find?_of_victimOf victim) lower rfl, State.testNomination_createItem still rfl⟩
          · next higher =>
            exact ⟨_, _, _, _, .dropped fresh weighs crowded fun x hx evictable =>
              (Nat.not_lt.1 higher).trans (least x hx evictable), rfl⟩
        · next allNominated =>
          exact ⟨_, _, _, _, .dropped fresh weighs crowded fun x hx evictable =>
            absurd (nominated_of_victimOf_eq_none allNominated x hx) (Bool.eq_false_iff.1 evictable), rfl⟩

end Sys2Proof.Machine
end

section
/-! A note on a data row: what it is charged to, the claim on the stage, and its score (R125 to R131, R161). -/

namespace Sys2Proof.Machine

variable {s t : State} {key : Key} {cls : NoteClass} {w : Nat} {run : Option Ctx} {items : List WatchItem} {counter : BitVec 32}
  {nom full : Bool} {o : Origin} {i : EntryIx}

/-! ## What a note is charged to -/

/-- R125: the key of a note on a data row, the spare in service or the origin by the entry found. -/
def State.noteKey (s : State) (o : Origin) : Key :=
  ⟨o, match (s.lookup o).bind fun i => (s.entry i).slot with | some k => .slot k | none => .origin⟩

/-- R129: the context of a migration already running for the entry found. -/
def State.noteContext (s : State) (o : Origin) : Option Ctx :=
  match s.lookup o with
  | some i => s.runningFor i
  | none => none

/-- R126: the claim of a note on the stage held for the entry found. -/
def State.noteClaims (s : State) (o : Origin) : State :=
  match s.lookup o with
  | some i => s.noteOnStage i
  | none => s

theorem State.dataNote_eq (s : State) (o : Origin) (cls : NoteClass) (rep : Byte) : s.dataNote o cls rep =
    (s.noteClaims o).scoreNote (s.noteKey o) cls (s.runProfile.noteWeight cls rep) (s.noteContext o) := by
  unfold State.dataNote State.noteClaims State.noteKey State.noteContext
  cases s.lookup o with
  | none => rfl
  | some i => rfl

/-! ## The claim on the stage -/

/-- R126: a note on an entry whose stage is not held, or is held unmarked, claims nothing. -/
theorem State.noteClaims_of_unstaged
    (unstaged : ∀ i, s.lookup o = some i → s.rst.stage.cancellable ≠ some i ∨ (s.entry i).staged ≠ some true) :
    s.noteClaims o = s := by
  unfold State.noteClaims
  split
  · next i found =>
    refine if_neg fun ⟨held, staged⟩ => ?_
    exact (unstaged i found).elim (· ((Stage.heldFor_iff ..).1 held)) (· staged)
  · rfl

/-- R126, R161: a note on a staged entry cancels its stage. -/
theorem State.noteClaims_of_staged (found : s.lookup o = some i) (held : s.rst.stage.cancellable = some i)
    (staged : (s.entry i).staged = some true) : s.noteClaims o = (s.dropStage i).raise .stageCancelled := by
  rw [State.noteClaims, found]
  exact if_pos ⟨(Stage.heldFor_iff ..).2 held, staged⟩

/-- A claim changes nothing but the table, the store and the conditions. -/
theorem State.noteClaims_cases (s : State) (o : Origin) :
    s.noteClaims o = s ∨ ∃ i, s.noteClaims o = (s.dropStage i).raise .stageCancelled := by
  unfold State.noteClaims
  split
  · next i _ =>
    unfold State.noteOnStage
    split
    · exact .inr ⟨i, rfl⟩
    · exact .inl rfl
  · exact .inl rfl

/-- The blocks that take no part in a claim on the stage. -/
structure State.SameButStage (s t : State) : Prop where
  wls : t.wls = s.wls
  pol : t.pol = s.pol
  sld : t.sld = s.sld
  ctr : t.ctr = s.ctr
  mge : t.mge = s.mge
  sbl : t.sbl = s.sbl
  mode : t.mode = s.mode

theorem State.noteClaims_sameButStage (s : State) (o : Origin) : s.SameButStage (s.noteClaims o) := by
  rcases s.noteClaims_cases o with kept | ⟨i, dropped⟩
  · rw [kept]
    exact ⟨rfl, rfl, rfl, rfl, rfl, rfl, rfl⟩
  · rw [dropped]
    exact ⟨rfl, rfl, rfl, rfl, rfl, rfl, rfl⟩

/-- Scoring reads the items, the creation counter and the run profile alone. -/
theorem Scored.congr (h : Scored t key cls w run items counter nom full) (same : t.wls.items = s.wls.items)
    (count : t.wls.counter = s.wls.counter) (pol : t.pol = s.pol) : Scored s key cls w run items counter nom full := by
  have profile : t.runProfile = s.runProfile := congrArg (fun p : Policy => p.profiles[p.run]) pol
  cases h with
  | existing x _ found nominates =>
    rw [same, count]
    exact .existing x _ (same ▸ found) (profile ▸ nominates)
  | ignored fresh weightless =>
    rw [same, count]
    exact .ignored (same ▸ fresh) weightless
  | created _ fresh weighs room nominates =>
    rw [same, count]
    exact .created _ (same ▸ fresh) weighs (same ▸ room) (profile ▸ nominates)
  | evicted v _ fresh crowded member evictable least first lower nominates =>
    rw [same, count]
    exact .evicted v _ (same ▸ fresh) (same ▸ crowded) (same ▸ member) evictable (same ▸ least) (same ▸ first) lower
      (profile ▸ nominates)
  | dropped fresh weighs crowded higher =>
    rw [same, count]
    exact .dropped (same ▸ fresh) weighs (same ▸ crowded) (same ▸ higher)

/-- Settles O45: the claim on the stage, then the score on the state it leaves, whose items and profile are as before. -/
theorem dataRowNotesAreScored : Obligations.DataRowNotesAreScored := by
  intro s n rest g o h hm rank bank row configured data column key w running
  let taken := s.withNotes rest
  have inRange : n.row.toNat < g.n := by omega
  have onOrigin : taken.takeNote n = taken.dataNote o n.cls n.rep := by
    rw [State.takeNote_of_place (s := taken) hm rank bank configured inRange column, row]
    exact if_pos data
  obtain ⟨items, counter, nom, full, scored, after⟩ := (taken.noteClaims o).scoreNote_scored key n.cls w running
  have same := taken.noteClaims_sameButStage o
  have conditions : ((taken.noteClaims o).scoredAs key items counter nom full).port.conditions =
      (taken.noteClaims o).port.conditions ||| (if nom then conditionBit .nomination else 0) |||
        (if full then conditionBit .watchFull else 0) := by
    rw [State.scoredAs_eq, State.raiseIf_conditions, State.raiseIf_conditions]
  refine ⟨(taken.noteClaims o).scoredAs key items counter nom full, items, counter, nom, full,
    (exec_errorNote h).trans (congrArg _ (onOrigin.trans ((taken.dataNote_eq ..).trans after))),
    scored.congr (congrArg (·.items) same.wls :) (congrArg (·.counter) same.wls :) same.pol, ?_⟩
  rw [conditions]
  simp only [State.scoredAs_eq, same.wls, same.pol, same.sld, same.ctr, same.mge, same.sbl, same.mode]
  refine ⟨rfl, rfl, rfl, rfl, rfl, rfl, rfl, fun unstaged => ?_, fun i k m x found live held => ?_⟩
  · rw [State.noteClaims_of_unstaged (s := taken) unstaged]
    exact ⟨rfl, rfl, rfl⟩
  · have staged : (taken.entry i).staged = some true := congrArg Entry.staged live
    rw [State.noteClaims_of_staged (s := taken) found held staged]
    exact ⟨rfl, (State.setEntry_entry_same (taken.setStage .empty) i _).trans (congrArg Entry.unstaged live),
      fun i' other => (State.setEntry_entry (taken.setStage .empty) ..).trans (if_neg other), rfl⟩

end Sys2Proof.Machine
end

section
/-! The decay boundary (R134): decay, the pending selection (R145), the timer and the order of a retry pass (R149). -/

namespace Sys2Proof.Machine

variable {s : State}

/-! ## The order of a retry pass -/

/-- The order of a retry pass: an item stands before those of lower or equal score (R149). -/
abbrev WatchItem.ranksBefore (a b : WatchItem) : Prop := b.score ≤ a.score

theorem insertByScore_eq_orderedInsert (i : WatchItem) (l : List WatchItem) :
    insertByScore i l = l.orderedInsert WatchItem.ranksBefore i := by
  induction l with
  | nil => rfl
  | cons j l ih => rw [insertByScore, ih]; rfl

theorem sortByScore_eq_insertionSort (l : List WatchItem) : sortByScore l = l.insertionSort WatchItem.ranksBefore := by
  induction l with
  | nil => rfl
  | cons i l ih => rw [sortByScore, ih, insertByScore_eq_orderedInsert]; rfl

theorem sortByScore_perm (l : List WatchItem) : (sortByScore l).Perm l := by
  rw [sortByScore_eq_insertionSort]
  exact List.perm_insertionSort ..

theorem sortByScore_pairwise (l : List WatchItem) : (sortByScore l).Pairwise WatchItem.ranksBefore := by
  have total : Std.Total WatchItem.ranksBefore := ⟨fun a b => Nat.le_total b.score a.score⟩
  have trans : IsTrans WatchItem WatchItem.ranksBefore := ⟨fun _ _ _ ab bc => Nat.le_trans bc ab⟩
  rw [sortByScore_eq_insertionSort]
  exact List.pairwise_insertionSort ..

/-- The sort is stable: the items of one score keep their order, since in the list before it they rank before one another both
ways. -/
theorem sortByScore_filter (l : List WatchItem) (n : Nat) :
    (sortByScore l).filter (fun i => i.score == n) = l.filter fun i => i.score == n := by
  have equals : (l.filter fun i => i.score == n).Pairwise WatchItem.ranksBefore :=
    List.pairwise_of_forall_mem_list fun a ha b hb => by
      rw [List.mem_filter, beq_iff_eq] at ha hb
      exact (hb.2.trans ha.2.symm).le
  have kept : (l.filter fun i => i.score == n).Sublist (sortByScore l) := by
    rw [sortByScore_eq_insertionSort]
    exact List.sublist_insertionSort equals List.filter_sublist
  have inOrder := kept.filter fun i => i.score == n
  simp only [List.filter_filter, Bool.and_self] at inOrder
  exact (inOrder.eq_of_length (((sortByScore_perm l).filter _).length_eq).symm).symm

/-! ## The boundary -/

/-- R145: with nothing pending the selection stays as it is. -/
theorem State.applyPendingRun_eq (s : State) : s.applyPendingRun =
    { s with pol := { s.pol with run := s.pol.pendingRun.getD s.pol.run, pendingRun := none } } := by
  unfold State.applyPendingRun
  split
  · next p pending => rw [pending]; rfl
  · next pending => rw [pending, Option.getD_none, ← pending]

/-- R134, R145, R149: what the four steps leave, with `selected` the state in which the new run profile is in force. -/
theorem State.decayBoundary_eq (s : State) :
    let selected : State := { s with pol := { s.pol with run := s.pol.pendingRun.getD s.pol.run, pendingRun := none } }
    let items := (s.wls.items.map fun i => i.decayed s.runProfile.decayStep).filter WatchItem.stays
    s.decayBoundary = { s with
      wls := { s.wls with items := items, decayTimer := some selected.runProfile.decayInterval }
      pol := { selected.pol with passOrder := if selected.runProfile.autoRepair then passOrderOf items else [] } } := by
  rw [State.decayBoundary, State.applyPendingRun_eq]
  rfl

/-- Settles O47: the stopped timer, then the boundary with its retry pass in the stable order of the scores. -/
theorem decayBoundaryInOrder : Obligations.DecayBoundaryInOrder := by
  intro s
  refine ⟨fun stopped => congrArg _ (if_neg (by simp [stopped])), fun runs => ⟨s.decayBoundary,
    congrArg _ (if_pos (Option.isSome_iff_ne_none.2 runs)), ?_⟩⟩
  rw [State.decayBoundary_eq]
  exact ⟨rfl, rfl, rfl, rfl, fun off => if_neg (Bool.eq_false_iff.1 off),
    fun on => ⟨_, if_pos on, sortByScore_perm _, sortByScore_pairwise _, sortByScore_filter _⟩,
    rfl, rfl, rfl, rfl, rfl, rfl, rfl, rfl, rfl, rfl, rfl, rfl⟩

end Sys2Proof.Machine
end

section
/-! The requests on the policy: PROFILE_EDIT_SELECT (R142), PROFILE_WRITE (R143) and PROFILE_RUN_SELECT (R144). -/

namespace Sys2Proof.Machine

/-! ## The fields of a profile (R139, section 11.4) -/

section
variable {v lo hi : Nat}

theorem rangeOf_eq_some (h : lo ≤ v ∧ v ≤ hi) : rangeOf lo hi v = some v := if_pos h

theorem rangeOf_eq_none (h : v < lo ∨ hi < v) : rangeOf lo hi v = none := if_neg (by omega)

theorem switchOf_eq_some (h : v ≤ 1) : switchOf v = some (decide (v = 1)) := by
  have two : v = 0 ∨ v = 1 := by omega
  rcases two with rfl | rfl <;> rfl

theorem switchOf_eq_none (h : v < 0 ∨ 1 < v) : switchOf v = none := by
  unfold switchOf
  split
  case h_3 => rfl
  all_goals omega

end

/-- The range of each field's value, by its number. -/
def profileFields : List (Byte × Nat × Nat) :=
  [(1, 0, 255), (2, 0, 1023), (3, 1, 1023), (4, 10, 60000), (5, 0, 1023), (6, 0, 1), (7, 0, 1), (8, 1, 6), (9, 1, 255),
    (10, 1, 65535), (11, 1, 255)]

/-- A write to a field sets it to the value that its range or its switch admits. -/
theorem Profile.write_eq_map {x : Byte × Nat × Nat} (field : x ∈ profileFields) (p : Profile) (v : BitVec 16) :
    (∃ f : Nat → Profile, p.write x.1 v = (rangeOf x.2.1 x.2.2 v.toNat).map f) ∨
      (x.2 = (0, 1) ∧ ∃ f : Bool → Profile, p.write x.1 v = (switchOf v.toNat).map f) := by
  simp only [profileFields, List.mem_cons, List.not_mem_nil, or_false] at field
  rcases field with rfl | rfl | rfl | rfl | rfl | rfl | rfl | rfl | rfl | rfl | rfl
  case inr.inr.inr.inr.inr.inl => exact .inr ⟨rfl, _, rfl⟩
  case inr.inr.inr.inr.inr.inr.inl => exact .inr ⟨rfl, _, rfl⟩
  all_goals exact .inl ⟨_, rfl⟩

theorem Profile.write_of_outside {x : Byte × Nat × Nat} (field : x ∈ profileFields) (p : Profile) {v : BitVec 16}
    (outside : v.toNat < x.2.1 ∨ x.2.2 < v.toNat) : p.write x.1 v = none := by
  rcases p.write_eq_map field v with ⟨f, written⟩ | ⟨switch, f, written⟩
  · rw [written, rangeOf_eq_none outside, Option.map_none]
  · rw [switch] at outside
    rw [written, switchOf_eq_none outside, Option.map_none]

theorem Profile.write_of_inside {x : Byte × Nat × Nat} (field : x ∈ profileFields) (p : Profile) {v : BitVec 16}
    (low : x.2.1 ≤ v.toNat) (high : v.toNat ≤ x.2.2) : ∃ p', p.write x.1 v = some p' := by
  rcases p.write_eq_map field v with ⟨f, written⟩ | ⟨switch, f, written⟩
  · exact ⟨_, by rw [written, rangeOf_eq_some ⟨low, high⟩, Option.map_some]⟩
  · rw [switch] at high
    exact ⟨_, by rw [written, switchOf_eq_some high, Option.map_some]⟩

theorem Profile.write_of_unknown {f : Byte} (unknown : f = 0 ∨ 11 < f.toNat) (p : Profile) (v : BitVec 16) :
    p.write f v = none := by
  have number : f.toNat = 0 ∨ 11 < f.toNat := unknown.imp_left (congrArg BitVec.toNat)
  unfold Profile.write
  dsimp only
  split
  case h_12 => rfl
  all_goals omega

/-! ## The decisions -/

section
variable {s t : State} {h : InHand} {q : Request} {p f : Byte} {v : BitVec 16}

theorem State.whenLoaded_of_loading (hm : s.mode = .loading) : s.whenLoaded t = s.refuse .notReady := if_pos hm

theorem State.whenLoaded_of_loaded (hm : s.mode ≠ .loading) : s.whenLoaded t = t := if_neg hm

/-- R182: the answer to the request in hand once the Policy Unit has been written. -/
theorem State.hasInHand.answer_pol (hh : s.hasInHand h q) (x : Policy) (st : Status) (y : Payload) :
    { s with pol := x }.answer st y = { s with pol := x }.decided h st y := by
  obtain ⟨-, inHand, -, -⟩ := hh
  exact State.answer_eq_decided (s := { s with pol := x }) inHand st y

/-! ### PROFILE_EDIT_SELECT (R142) -/

section
variable (hh : s.hasInHand h (.profileEditSelect p))
include hh

theorem exec_profileEditSelect : exec (commandOf (.profileEditSelect p)) s = .next (s.decideEditSelect p) :=
  congrArg _ (State.takeRequest_inHand hh _)

theorem exec_profileEditSelect_of_loading (hm : s.mode = .loading) :
    exec (commandOf (.profileEditSelect p)) s = .next (s.decided h .notReady .none) := by
  rw [exec_profileEditSelect hh, State.decideEditSelect, State.whenLoaded_of_loading hm, hh.refuse_eq]

theorem exec_profileEditSelect_of_none (hm : s.mode ≠ .loading) (none : indexOf 2 p = none) :
    exec (commandOf (.profileEditSelect p)) s = .next (s.decided h .badArgument .none) := by
  rw [exec_profileEditSelect hh, State.decideEditSelect, State.whenLoaded_of_loaded hm, none, State.whenSome, hh.refuse_eq]

theorem exec_profileEditSelect_of_some {k : ProfileNo} (hm : s.mode ≠ .loading) (some : indexOf 2 p = some k) :
    exec (commandOf (.profileEditSelect p)) s = .next ({ s with pol := { s.pol with edit := k } }.decided h .ok .none) := by
  rw [exec_profileEditSelect hh, State.decideEditSelect, State.whenLoaded_of_loaded hm, some, State.whenSome, hh.answer_pol]

end

/-! ### PROFILE_RUN_SELECT (R144) -/

section
variable (hh : s.hasInHand h (.profileRunSelect p))
include hh

theorem exec_profileRunSelect : exec (commandOf (.profileRunSelect p)) s = .next (s.decideRunSelect p) :=
  congrArg _ (State.takeRequest_inHand hh _)

theorem exec_profileRunSelect_of_loading (hm : s.mode = .loading) :
    exec (commandOf (.profileRunSelect p)) s = .next (s.decided h .notReady .none) := by
  rw [exec_profileRunSelect hh, State.decideRunSelect, State.whenLoaded_of_loading hm, hh.refuse_eq]

theorem exec_profileRunSelect_of_none (hm : s.mode ≠ .loading) (none : indexOf 2 p = none) :
    exec (commandOf (.profileRunSelect p)) s = .next (s.decided h .badArgument .none) := by
  rw [exec_profileRunSelect hh, State.decideRunSelect, State.whenLoaded_of_loaded hm, none, State.whenSome, hh.refuse_eq]

theorem exec_profileRunSelect_of_some {k : ProfileNo} (hm : s.mode ≠ .loading) (named : indexOf 2 p = some k) :
    exec (commandOf (.profileRunSelect p)) s =
      .next ({ s with pol := { s.pol with pendingRun := some k } }.decided h .ok .none) := by
  rw [exec_profileRunSelect hh, State.decideRunSelect, State.whenLoaded_of_loaded hm, named, State.whenSome, hh.answer_pol]

end

/-! ### PROFILE_WRITE (R143) -/

section
variable (hh : s.hasInHand h (.profileWrite f v))
include hh

theorem exec_profileWrite : exec (commandOf (.profileWrite f v)) s = .next (s.decideProfileWrite f v) :=
  congrArg _ (State.takeRequest_inHand hh _)

theorem exec_profileWrite_of_loading (hm : s.mode = .loading) :
    exec (commandOf (.profileWrite f v)) s = .next (s.decided h .notReady .none) := by
  rw [exec_profileWrite hh, State.decideProfileWrite, State.whenLoaded_of_loading hm, hh.refuse_eq]

theorem exec_profileWrite_of_none (hm : s.mode ≠ .loading) (none : s.pol.profiles[s.pol.edit].write f v = none) :
    exec (commandOf (.profileWrite f v)) s = .next (s.decided h .badArgument .none) := by
  rw [exec_profileWrite hh, State.decideProfileWrite, State.whenLoaded_of_loaded hm, none, State.whenSome, hh.refuse_eq]

theorem exec_profileWrite_of_running {x : Profile} (hm : s.mode ≠ .loading)
    (some : s.pol.profiles[s.pol.edit].write f v = some x) (running : s.pol.edit = s.pol.run) :
    exec (commandOf (.profileWrite f v)) s = .next (s.decided h .state .none) := by
  rw [exec_profileWrite hh, State.decideProfileWrite, State.whenLoaded_of_loaded hm, some, State.whenSome, if_pos running,
    hh.refuse_eq]

theorem exec_profileWrite_of_some {x : Profile} (hm : s.mode ≠ .loading)
    (some : s.pol.profiles[s.pol.edit].write f v = some x) (apart : s.pol.edit ≠ s.pol.run) :
    exec (commandOf (.profileWrite f v)) s = .next ((s.setEditProfile x).decided h .ok .none) := by
  rw [exec_profileWrite hh, State.decideProfileWrite, State.whenLoaded_of_loaded hm, some, State.whenSome, if_neg apart,
    State.setEditProfile, hh.answer_pol]

end

end

/-- Settles O56: the two selections by their operand, a write by its field, its value and the run profile. -/
theorem profileRequestsChangeThePolicy : Obligations.ProfileRequestsChangeThePolicy := by
  intro s h
  refine ⟨fun loading p f v => ⟨(exec_profileEditSelect_of_loading · loading), (exec_profileRunSelect_of_loading · loading),
    (exec_profileWrite_of_loading · loading)⟩, fun loaded => ⟨fun p outside => ?_, fun k => ?_, fun f v => ?_⟩⟩
  · have unnamed : indexOf 2 p = none := indexOf_eq_none outside
    exact ⟨(exec_profileEditSelect_of_none · loaded unnamed), (exec_profileRunSelect_of_none · loaded unnamed)⟩
  · have named : indexOf 2 (BitVec.ofNat 8 k.val) = some k := indexOf_ofNat k (by decide)
    exact ⟨(exec_profileEditSelect_of_some · loaded named), (exec_profileRunSelect_of_some · loaded named)⟩
  · refine ⟨fun unknown hh => exec_profileWrite_of_none hh loaded (Profile.write_of_unknown unknown _ v),
      fun x field => ⟨fun outside hh => exec_profileWrite_of_none hh loaded (Profile.write_of_outside field _ outside),
        fun low high running hh => ?_⟩, fun apart => ?_⟩
    · obtain ⟨_, written⟩ := Profile.write_of_inside field s.pol.profiles[s.pol.edit] low high
      exact exec_profileWrite_of_running hh loaded written running
    · have written {f x} (field : s.pol.profiles[s.pol.edit].write f v = some x) (hh : s.hasInHand h (.profileWrite f v)) :=
        exec_profileWrite_of_some hh loaded field apart
      have ranged {f lo hi x} {set : Nat → Profile} (inside : lo ≤ v.toNat ∧ v.toNat ≤ hi)
          (field : s.pol.profiles[s.pol.edit].write f v = (rangeOf lo hi v.toNat).map set) (value : set v.toNat = x) :=
        written (field.trans ((congrArg _ (rangeOf_eq_some inside)).trans (congrArg some value)))
      have one : decide (v.toNat = 1) = decide (v = 1) :=
        decide_eq_decide.2 ⟨fun h => BitVec.eq_of_toNat_eq h, congrArg BitVec.toNat⟩
      have switched {f x} {set : Bool → Profile} (inside : v.toNat ≤ 1)
          (field : s.pol.profiles[s.pol.edit].write f v = (switchOf v.toNat).map set) (value : set (decide (v = 1)) = x) :=
        written (field.trans ((congrArg _ ((switchOf_eq_some inside).trans (congrArg some one))).trans (congrArg some value)))
      exact ⟨fun high => ranged ⟨Nat.zero_le _, high⟩ rfl rfl, fun high => ranged ⟨Nat.zero_le _, high⟩ rfl rfl,
        fun inside => ranged inside rfl rfl, fun inside => ranged inside rfl rfl,
        fun high => ranged ⟨Nat.zero_le _, high⟩ rfl rfl, fun high => ⟨switched high rfl rfl, switched high rfl rfl⟩,
        fun inside => ranged inside rfl rfl, fun inside => ranged inside rfl rfl,
        fun low => ranged (hi := 65535) ⟨low, Nat.le_of_lt_succ v.isLt⟩ rfl rfl, fun inside => ranged inside rfl rfl⟩

end Sys2Proof.Machine
end

section
/-!
The requests that read (R22, R23, R41, R94, R136, R146, R169, R188): each is its owner's decision on the state as it stands, and the
answer is all that the decision changes.
-/

namespace Sys2Proof.Machine

variable {s : State} {h : InHand} {g : Geometry} {r b k x : Byte} {row : RowField}

/-! ## What every mode but LOADING reads -/

/-- Section 10.3: a decision by the request's own checks, once LOADING is over. -/
theorem State.takeRequest_of_loaded {q : Request} (hh : s.hasInHand h q) (loaded : s.mode ≠ .loading) {f : State → State}
    {t : State} (decision : f s = s.whenLoaded t) : s.takeRequest q f = t :=
  (State.takeRequest_inHand hh f).trans (decision.trans (State.whenLoaded_of_loaded loaded))

theorem exec_profileRead_of_loading (loading : s.mode = .loading) (hh : s.hasInHand h (.profileRead x)) :
    exec (commandOf (.profileRead x)) s = .next (s.decided h .notReady .none) :=
  congrArg Host.Outcome.next ((State.takeRequest_inHand hh (State.decideProfileRead x)).trans
    ((State.whenLoaded_of_loading loading).trans (hh.refuse_eq _)))

section
variable (loaded : s.mode ≠ .loading)
include loaded

theorem exec_profileRead (hh : s.hasInHand h (.profileRead x)) : exec (commandOf (.profileRead x)) s =
    .next (s.whenSome (indexOf 2 x) fun k =>
      s.answer .ok (.profile s.pol.profiles[k] s.pol.run s.pol.edit s.pol.pendingRun)) :=
  congrArg Host.Outcome.next (State.takeRequest_of_loaded hh loaded rfl)

theorem exec_tableRead (hh : s.hasInHand h (.tableRead x)) : exec (commandOf (.tableRead x)) s =
    .next (s.whenSome (indexOf 96 x) fun i => s.answer .ok (.entry i (s.entry i) s.rmt.generation)) :=
  congrArg Host.Outcome.next (State.takeRequest_of_loaded hh loaded rfl)

theorem exec_contextRead (hh : s.hasInHand h (.contextRead x)) : exec (commandOf (.contextRead x)) s =
    .next (s.whenSome (indexOf 4 x) fun c => s.answer .ok (.context c (s.ctx c))) :=
  congrArg Host.Outcome.next (State.takeRequest_of_loaded hh loaded rfl)

theorem exec_storeRead (hh : s.hasInHand h (.storeRead x)) : exec (commandOf (.storeRead x)) s =
    .next (s.whenSome (indexOf 40 x) fun k => s.answer .ok (.storeRecord (s.storeRecord k) s.rst.loadResults[k])) :=
  congrArg Host.Outcome.next (State.takeRequest_of_loaded hh loaded rfl)

theorem exec_storeStatus (hh : s.hasInHand h .storeStatus) :
    exec (commandOf .storeStatus) s = .next (s.answer .ok s.statusPayload) :=
  congrArg Host.Outcome.next (State.takeRequest_of_loaded hh loaded rfl)

theorem exec_conditionRead (hh : s.hasInHand h .conditionRead) :
    exec (commandOf .conditionRead) s = .next (s.answer .ok s.conditionPayload) :=
  congrArg Host.Outcome.next (State.takeRequest_of_loaded hh loaded rfl)

/-- R136: the item at a position, if the list reaches that far. -/
theorem exec_watchRead (hh : s.hasInHand h (.watchRead x)) : exec (commandOf (.watchRead x)) s =
    .next (s.whenSome (indexOf 32 x) fun p => (s.wls.items[p.val]?).elim
      (s.answer .notFound (.itemCount s.wls.items.length)) fun i => s.answer .ok (.item i s.wls.items.length)) := by
  have decided : exec (commandOf (.watchRead x)) s = .next (s.decideWatchRead x) := congrArg _ (State.takeRequest_inHand hh _)
  rw [decided, State.decideWatchRead, State.whenLoaded_of_loaded loaded]
  congr 2
  funext p
  cases s.wls.items[p.val]? <;> rfl

end

/-! ## What ACTIVE alone reads -/

section
variable (hm : s.mode = .active g)
include hm

theorem exec_slotRead (hh : s.hasInHand h (.slotRead r b k)) : exec (commandOf (.slotRead r b k)) s =
    .next (s.whenSome (slotPlaceOf g r b k) fun p =>
      s.answer .ok (.slot p.rank p.bank p.slot (s.slot p.rank p.bank p.slot))) :=
  congrArg _ ((State.takeRequest_inHand hh _).trans (State.whenActive_of_active hm))

/-- R23: the entry that the lookup finds. -/
theorem exec_tableFind (hh : s.hasInHand h (.tableFind r b row)) : exec (commandOf (.tableFind r b row)) s =
    .next (s.whenSome (originOf g r b row) fun o => (s.lookup o).elim
      (s.answer .notFound (.generation s.rmt.generation)) fun i => s.answer .ok (.entry i (s.entry i) s.rmt.generation)) := by
  refine congrArg _ ((State.takeRequest_inHand hh _).trans ((State.whenActive_of_active hm).trans ?_))
  congr 1
  funext o
  cases s.lookup o <;> rfl

end

/-! ## Answers -/

section
variable {q : Request} {α : Type} {o : Option α} {a : α} {f : α → State} {st : Status} {p : Payload}

theorem State.hasInHand.answer_eq (hh : s.hasInHand h q) (st : Status) (p : Payload) : s.answer st p = s.decided h st p := by
  obtain ⟨-, inHand, -, -⟩ := hh
  exact State.answer_eq_decided inHand st p

/-- The answer about what an operand in range names. -/
theorem State.hasInHand.whenSome_of_some (hh : s.hasInHand h q) (named : o = some a) (answered : f a = s.answer st p) :
    s.whenSome o f = s.decided h st p := by
  rw [named, State.whenSome, answered, hh.answer_eq]

theorem State.hasInHand.whenSome_of_none (hh : s.hasInHand h q) (unnamed : o = none) :
    s.whenSome o f = s.decided h .badArgument .none := by
  rw [unnamed, State.whenSome, hh.refuse_eq]

end

/-- R146, section 11.1: a profile's answer ends in PENDING_RUN, and an absent one reads FFh. -/
theorem Payload.profile_bytes_getLast? (p : Profile) (run edit : ProfileNo) :
    (Payload.profile p run edit Option.none).bytes.getLast? = some 0xFF#8 := List.getLast?_concat

/-- Settles O51: each read by its mode and its operands. -/
theorem readsReportAndChangeNothing : Obligations.ReadsReportAndChangeNothing := by
  intro s h
  refine ⟨fun p loading hh => exec_profileRead_of_loading loading hh, Payload.profile_bytes_getLast?, fun loaded => ?_,
    fun g hm => ?_⟩
  · refine ⟨fun k hh => (exec_profileRead loaded hh).trans (congrArg _ (hh.whenSome_of_some (indexOf_ofNat k (by decide)) rfl)),
      fun p outside hh => (exec_profileRead loaded hh).trans (congrArg _ (hh.whenSome_of_none (indexOf_eq_none outside))),
      fun i hh => (exec_tableRead loaded hh).trans (congrArg _ (hh.whenSome_of_some (indexOf_ofNat i (by decide)) rfl)),
      fun x outside hh => (exec_tableRead loaded hh).trans (congrArg _ (hh.whenSome_of_none (indexOf_eq_none outside))),
      fun c hh => (exec_contextRead loaded hh).trans (congrArg _ (hh.whenSome_of_some (indexOf_ofNat c (by decide)) rfl)),
      fun x outside hh => (exec_contextRead loaded hh).trans (congrArg _ (hh.whenSome_of_none (indexOf_eq_none outside))),
      fun x i inside at_ hh => (exec_watchRead loaded hh).trans (congrArg _ (hh.whenSome_of_some (dif_pos inside) ?_)),
      fun x inside beyond hh => (exec_watchRead loaded hh).trans (congrArg _ (hh.whenSome_of_some (dif_pos inside) ?_)),
      fun x outside hh => (exec_watchRead loaded hh).trans (congrArg _ (hh.whenSome_of_none (indexOf_eq_none outside))),
      fun k hh => (exec_storeRead loaded hh).trans (congrArg _ (hh.whenSome_of_some (indexOf_ofNat k (by decide)) rfl)),
      fun x outside hh => (exec_storeRead loaded hh).trans (congrArg _ (hh.whenSome_of_none (indexOf_eq_none outside))),
      fun hh => (exec_storeStatus loaded hh).trans (congrArg _ (hh.answer_eq ..)),
      fun hh => (exec_conditionRead loaded hh).trans (congrArg _ (hh.answer_eq ..))⟩
    · rw [at_]
      rfl
    · rw [List.getElem?_eq_none beyond]
      rfl
  · refine ⟨fun r b k rank hh => (exec_slotRead hm hh).trans
        (congrArg _ (hh.whenSome_of_some (slotPlaceOf_ofNat rank b k) rfl)),
      fun r b k outside hh => (exec_slotRead hm hh).trans (congrArg _ (hh.whenSome_of_none (slotPlaceOf_eq_none outside))),
      fun o rank row => ⟨fun i found hh => (exec_tableFind hm hh).trans
          (congrArg _ (hh.whenSome_of_some (originOf_ofNat rank row) ?_)),
        fun absent hh => (exec_tableFind hm hh).trans (congrArg _ (hh.whenSome_of_some (originOf_ofNat rank row) ?_))⟩,
      fun r b row outside hh => (exec_tableFind hm hh).trans (congrArg _ (hh.whenSome_of_none (originOf_eq_none outside)))⟩
    · rw [found]
      rfl
    · rw [absent]
      rfl

end Sys2Proof.Machine
end

section
/-! The Policy Unit's turn on an item (R147 to R151): what the item calls for, and how the attempt ends. -/

namespace Sys2Proof.Machine

variable {s s1 u : State} {cmd : Instr} {k : Key} {g : Geometry} {c : Ctx} {i : EntryIx} {n : SlotNo} {x : WatchItem}

/-! ## The turn (R148, R149) -/

/-- The state with other keys waiting in the Policy Unit. -/
def State.withPolicyQueues (s : State) (nominations passOrder : List Key) : State :=
  { s with pol := { s.pol with nominations := nominations, passOrder := passOrder } }

/-- R148, R149: the key of the turn is considered on a state that differs in the queues of the Policy Unit alone. -/
theorem exec_of_policyTurn (turn : s.policyTurn cmd k s1) :
    exec cmd s = .next (s1.consider k) ∧ ∃ nominations passOrder, s1 = s.withPolicyQueues nominations passOrder := by
  rcases turn with ⟨rest, rfl, queued, on, rfl⟩ | ⟨rest, rfl, queued, rfl⟩
  · refine ⟨?_, rest, s.pol.passOrder, rfl⟩
    refine congrArg Host.Outcome.next ?_
    rw [State.takeNomination, queued]
    exact if_pos on
  · refine ⟨?_, s.pol.nominations, rest, rfl⟩
    refine congrArg Host.Outcome.next ?_
    rw [State.passStep, queued]

/-- R148: with AUTO_REPAIR OFF a nomination is only taken. -/
theorem exec_nominationTake_of_off {rest : List Key} (queued : s.pol.nominations = k :: rest)
    (off : s.runProfile.autoRepair = false) :
    exec .nominationTake s = .next { s with pol := { s.pol with nominations := rest } } := by
  refine congrArg Host.Outcome.next ?_
  rw [State.takeNomination, queued]
  exact if_neg (Bool.eq_false_iff.1 off)

/-! ## The item (R147) -/

theorem State.consider_of_unready (unready : ∀ x, u.findItem k = some x → x.nominated = false ∨ x.inRepair ≠ none) :
    u.consider k = u := by
  unfold State.consider
  split
  · next x found =>
    refine if_neg fun ⟨nominated, free⟩ => ?_
    rcases unready x found with not | claimed
    · exact Bool.eq_false_iff.1 not nominated
    · exact claimed free
  · rfl

theorem State.consider_of_ready (found : u.findItem k = some x) (nominated : x.nominated = true) (free : x.inRepair = none) :
    u.consider k = u.actOn k x.lastFailure (u.decisionFor k) := by
  rw [State.consider, found]
  exact if_pos ⟨nominated, free⟩

/-! ## What it calls for (R147) -/

theorem State.decisionFor_of_origin (subject : k.subject = .origin) (absent : u.lookup k.origin = none) :
    u.decisionFor k = .first k.origin := by
  rw [State.decisionFor, subject, absent]

theorem State.decisionFor_of_repaired (subject : k.subject = .origin) (found : u.lookup k.origin = some i) :
    u.decisionFor k = .skip := by
  rw [State.decisionFor, subject, found]

theorem State.decisionFor_of_unmapped (subject : k.subject = .slot n) (absent : u.lookup k.origin = none) :
    u.decisionFor k = .skip := by
  rw [State.decisionFor, subject, absent]

theorem State.decisionFor_of_slot (subject : k.subject = .slot n) (found : u.lookup k.origin = some i) :
    u.decisionFor k = slotDecision n i (u.entry i) := by
  rw [State.decisionFor, subject, found]

theorem slotDecision_of_movable {o : Origin} {m : Nat} (moves : m < 3) : slotDecision n i (.live o n m none) = .move i :=
  (if_pos rfl).trans ((if_pos moves).trans (if_neg Bool.false_ne_true))

theorem slotDecision_of_staged {o : Origin} {m : Nat} {r : RecIx} (moves : m < 3) :
    slotDecision n i (.live o n m (some r)) = .skip :=
  (if_pos rfl).trans ((if_pos moves).trans (if_pos rfl))

theorem slotDecision_of_worn {o : Origin} {m : Nat} {st : Option RecIx} (worn : 3 ≤ m) :
    slotDecision n i (.live o n m st) = .worn :=
  (if_pos rfl).trans (if_neg (Nat.not_lt.2 worn))

theorem slotDecision_of_permanent {o : Origin} {m : Nat} {r : RecIx} : slotDecision n i (.permanent o n m r) = .worn :=
  if_pos rfl

/-- R147: an entry that another slot serves calls for nothing. -/
theorem slotDecision_of_other {e : Entry} (other : e.slot ≠ some n) : slotDecision n i e = .skip := by
  cases e with
  | live o k m st => exact if_neg fun same => other (congrArg some same)
  | permanent o k m r => exact if_neg fun same => other (congrArg some same)
  | _ => rfl

/-! ## How an attempt ends (R150, R151) -/

/-- R150: a failure's condition and its mark on the item, unless the item's last failure was the same. -/
def State.failed (u : State) (k : Key) (last : Option FailureKind) (f : FailureKind) (cond : Condition) : State :=
  if last = some f then u else
    (u.raise cond).setItems (u.wls.items.map fun i => if i.key = k then { i with lastFailure := some f } else i)

theorem State.launchFailed_eq (u : State) (k : Key) (last : Option FailureKind) (f : FailureKind) (cond : Condition) :
    u.launchFailed k last f cond = u.failed k last f cond := rfl

/-- The end of a launch does not depend on the mark on its item. -/
theorem State.Launched.setItems {t : State} {d : Direction} {o : Origin} (l : u.Launched t c d i o n) (items : List WatchItem) :
    u.Launched (t.setItems items) c d i o n :=
  ⟨l.entry, l.otherEntries, l.generation, l.slot, l.otherSlots, l.body, l.timer, l.kept, l.otherContexts, l.sbl, l.record,
    l.otherRecords, l.translator, l.watch, l.reports, l.rest⟩

/-- R71, R150: what a granted launch and the clearing of the item's failure leave together. -/
theorem State.afterLaunch_of_launched {d : Direction} {o : Origin} {e : Entry} (room : u.sbl.outbound.length < 8)
    (he : e = match d, u.entry i with
      | .move, .live o' old m _ => .moving o' old n c m
      | _, _ => .forming o n c) (last : Option FailureKind) {l : Launch} (granted : l = .launched c (u.launch c d i e o n k)) :
    u.Launched (u.afterLaunch k last l) c d i o n ∧ (u.afterLaunch k last l).port = u.port ∧
      (u.afterLaunch k last l).wls.items = u.wls.items.map fun i =>
        if i.key = k then { i with inRepair := some c, lastFailure := none } else i := by
  have cleared : u.afterLaunch k last l = (u.launch c d i e o n k).setLastFailure k none := by rw [granted]; rfl
  have items := State.launch_items (c := c) (d := d) (i := i) (o := o) (k := n) room e k
  rw [cleared]
  refine ⟨(State.launched_of_launch room k he).setItems _, State.launch_port room e k, ?_⟩
  have marked : ((u.launch c d i e o n k).setLastFailure k none).wls.items = (u.launch c d i e o n k).wls.items.map fun i =>
      if i.key = k then { i with lastFailure := none } else i := rfl
  rw [marked, items, List.map_map]
  refine List.map_congr_left fun y _ => ?_
  by_cases same : y.key = k <;> simp [same]

theorem Key.eq_of_subject {sub : Subject} (subject : k.subject = sub) : k = ⟨k.origin, sub⟩ := by rw [← subject]

/-- R151: with the link down or no context idle a launch of either kind is refused without an effect. -/
theorem State.launchContext_of_waiting (hm : u.mode = .active g)
    (waits : u.sbl.state ≠ .up ∨ ∀ c, (u.ctx c).isIdle = false) :
    ∃ r, u.launchContext = .error r ∧ ∀ k last, u.afterLaunch k last (.refused r) = u := by
  by_cases up : u.sbl.state = .up
  · exact ⟨_, State.launchContext_of_busy hm up (waits.resolve_left (not_not_intro up)), fun _ _ => rfl⟩
  · exact ⟨_, State.launchContext_of_down hm up, fun _ _ => rfl⟩

/-! ## The item's turn, by what it calls for -/

section
variable (found : u.findItem k = some x) (nominated : x.nominated = true) (free : x.inRepair = none)
include found nominated free

theorem State.consider_of_skip (calls : u.decisionFor k = .skip) : u.consider k = u := by
  rw [State.consider_of_ready found nominated free, calls]
  rfl

theorem State.consider_of_worn (calls : u.decisionFor k = .worn) : u.consider k = u.failed k x.lastFailure .worn .worn := by
  rw [State.consider_of_ready found nominated free, calls]
  exact u.launchFailed_eq ..

section
variable (subject : k.subject = .origin) (absent : u.holdsNo k.origin)
include subject absent

theorem State.consider_of_first : u.consider k = u.afterLaunch k x.lastFailure (u.launchFirst k.origin) := by
  rw [State.consider_of_ready found nominated free,
    State.decisionFor_of_origin subject ((u.lookup_eq_none k.origin).2 absent)]
  rfl

/-- R151: the launch waits, and nothing is recorded. -/
theorem State.consider_first_of_waiting (hm : u.mode = .active g)
    (waits : u.sbl.state ≠ .up ∨ ∀ c, (u.ctx c).isIdle = false) : u.consider k = u := by
  obtain ⟨r, error, ends⟩ := State.launchContext_of_waiting hm waits
  rw [State.consider_of_first found nominated free subject absent, State.launchFirst_of_error error, ends]

variable (hm : u.mode = .active g) (rank : k.origin.rank.val < g.ranks.toNat) (row : k.origin.row < g.n - 16)
  (ready : u.sbl.state = .up ∧ u.nextContext c)
include hm rank row ready

theorem State.consider_first_of_tableFull (full : ∀ i, u.entry i ≠ .free) :
    u.consider k = u.failed k x.lastFailure .tableFull .tableFull := by
  rw [State.consider_of_first found nominated free subject absent,
    State.launchFirst_of_tableFull (State.launchContext_of_ready hm ready) hm rank row absent full]
  exact u.launchFailed_eq ..

variable (next : u.nextEntry i)
include next

theorem State.consider_first_of_noSlot (refuses : u.refusesSlot k.origin.rank k.origin.bank) :
    u.consider k = u.failed k x.lastFailure .noSlot .noSlot := by
  rw [State.consider_of_first found nominated free subject absent,
    State.launchFirst_of_noSlot (State.launchContext_of_ready hm ready) hm rank row absent next refuses]
  exact u.launchFailed_eq ..

theorem State.consider_first_of_granted (grants : u.grants k.origin.rank k.origin.bank n) (room : u.sbl.outbound.length < 8) :
    u.Launched (u.consider k) c .first i k.origin n ∧ (u.consider k).port = u.port ∧
      (u.consider k).wls.items = u.wls.items.map fun i =>
        if i.key = k then { i with inRepair := some c, lastFailure := none } else i := by
  have granted := State.launchFirst_of_granted (State.launchContext_of_ready hm ready) hm rank row absent next grants
  rw [← Key.eq_of_subject subject] at granted
  rw [State.consider_of_first found nominated free subject absent]
  exact State.afterLaunch_of_launched room rfl x.lastFailure granted

end

section
variable (subject : k.subject = .slot n) (served : u.lookup k.origin = some i) {m : Nat}
  (live : u.entry i = .live k.origin n m none) (moves : m < 3)
include subject served live moves

theorem State.consider_of_move : u.consider k = u.afterLaunch k x.lastFailure (u.launchMove i) := by
  rw [State.consider_of_ready found nominated free, State.decisionFor_of_slot subject served, live,
    slotDecision_of_movable moves]
  rfl

/-- R151: the launch waits, and nothing is recorded. -/
theorem State.consider_move_of_waiting (hm : u.mode = .active g)
    (waits : u.sbl.state ≠ .up ∨ ∀ c, (u.ctx c).isIdle = false) : u.consider k = u := by
  obtain ⟨r, error, ends⟩ := State.launchContext_of_waiting hm waits
  rw [State.consider_of_move found nominated free subject served live moves, State.launchMove_of_error error, ends]

variable (hm : u.mode = .active g) (ready : u.sbl.state = .up ∧ u.nextContext c)
include hm ready

theorem State.consider_move_of_noSlot (refuses : u.refusesSlot k.origin.rank k.origin.bank) :
    u.consider k = u.failed k x.lastFailure .noSlot .noSlot := by
  rw [State.consider_of_move found nominated free subject served live moves,
    State.launchMove_of_noSlot (State.launchContext_of_ready hm ready) live moves refuses]
  exact u.launchFailed_eq ..

theorem State.consider_move_of_granted {n' : SlotNo} (grants : u.grants k.origin.rank k.origin.bank n')
    (room : u.sbl.outbound.length < 8) :
    u.Launched (u.consider k) c .move i k.origin n' ∧ (u.consider k).port = u.port ∧
      (u.consider k).wls.items = u.wls.items.map fun i =>
        if i.key = k then { i with inRepair := some c, lastFailure := none } else i := by
  have granted := State.launchMove_of_granted (State.launchContext_of_ready hm ready) live moves grants
  rw [← Key.eq_of_subject subject] at granted
  rw [State.consider_of_move found nominated free subject served live moves]
  exact State.afterLaunch_of_launched room (by rw [live]) x.lastFailure granted

end

end

/-- Settles O48: the turn considers the item on a state that differs from `s` in the Policy Unit's queues alone. -/
theorem policyActsOnItems : Obligations.PolicyActsOnItems := by
  intro s s1 cmd k
  refine ⟨fun rest queued off => exec_nominationTake_of_off queued off, fun turn => ?_⟩
  obtain ⟨taken, nominations, passOrder, rfl⟩ := exec_of_policyTurn turn
  clear turn
  rw [taken]
  let u := s.withPolicyQueues nominations passOrder
  refine ⟨fun unready => congrArg _ (State.consider_of_unready (u := u) unready),
    fun x g found nominated free hm rank row => ?_⟩
  have found : u.findItem k = some x := found
  have hm : u.mode = .active g := hm
  refine ⟨fun subject absent => ?_, fun i subject served => congrArg _ ?_, fun i n m subject served live moves => ?_,
    fun n subject other => congrArg _ ?_, fun i n subject served worn => congrArg _ ?_⟩
  · have absent : u.holdsNo k.origin := absent
    refine ⟨fun c i n ready next grants room => ⟨u.consider k, rfl, ?_⟩, fun c ready full => congrArg _ ?_,
      fun c i ready next refuses => congrArg _ ?_, fun waits => congrArg _ ?_⟩
    · exact State.consider_first_of_granted found nominated free subject absent hm rank row ready next grants room
    · exact State.consider_first_of_tableFull found nominated free subject absent hm rank row ready full
    · exact State.consider_first_of_noSlot found nominated free subject absent hm rank row ready next refuses
    · exact State.consider_first_of_waiting found nominated free subject absent hm waits
  · exact State.consider_of_skip found nominated free (State.decisionFor_of_repaired subject served)
  · have served : u.lookup k.origin = some i := served
    have live : u.entry i = .live k.origin n m none := live
    refine ⟨fun c n' ready grants room => ⟨u.consider k, rfl, ?_⟩, fun c ready refuses => congrArg _ ?_,
      fun waits => congrArg _ ?_⟩
    · exact State.consider_move_of_granted found nominated free subject served live moves hm ready grants room
    · exact State.consider_move_of_noSlot found nominated free subject served live moves hm ready refuses
    · exact State.consider_move_of_waiting found nominated free subject served live moves hm waits
  · refine State.consider_of_skip found nominated free ?_
    rcases other with absent | ⟨i, served, other⟩
    · exact State.decisionFor_of_unmapped subject absent
    · refine (State.decisionFor_of_slot (u := u) subject served).trans (?_ : slotDecision n i (s.entry i) = .skip)
      rcases other with apart | ⟨m, r, staged, moves⟩ | ⟨a, c, m, moving⟩ | ⟨m, retiring⟩
      · exact slotDecision_of_other apart
      · rw [staged, slotDecision_of_staged moves]
      · rw [moving]; rfl
      · rw [retiring]; rfl
  · refine State.consider_of_worn found nominated free ?_
    refine (State.decisionFor_of_slot (u := u) subject served).trans (?_ : slotDecision n i (s.entry i) = .worn)
    rcases worn with ⟨m, st, live, moved⟩ | ⟨m, r, permanent⟩
    · rw [live, slotDecision_of_worn moved]
    · rw [permanent, slotDecision_of_permanent]

end Sys2Proof.Machine
end

section
/-!
The profiles and RUN_PROFILE through every command (R139, R145). `State.setting` is the two together. Only PROFILE_WRITE, the decay
boundary, the entry to ACTIVE and the power events change it; one lemma for each operation of the others.
-/

namespace Sys2Proof.Machine

/-- The profiles and the selection in force (R139, R140). -/
def State.setting (s : State) : Vector Profile 2 × ProfileNo := (s.pol.profiles, s.pol.run)

section
variable {s t : State}

theorem State.profiles_of_setting (h : t.setting = s.setting) : t.pol.profiles = s.pol.profiles := congrArg Prod.fst h
theorem State.run_of_setting (h : t.setting = s.setting) : t.pol.run = s.pol.run := congrArg Prod.snd h

theorem State.setting_of_pol (h : t.pol = s.pol) : t.setting = s.setting := congrArg (fun p : Policy => (p.profiles, p.run)) h
theorem State.setting_of_offLink (h : t.offLink = s.offLink) : t.setting = s.setting := (congrArg State.setting h :)
theorem State.setting_of_elsewhere (h : t.elsewhere = s.elsewhere) : t.setting = s.setting := (congrArg State.setting h :)
theorem State.setting_of_queueBlocks (h : t.queueBlocks = s.queueBlocks) : t.setting = s.setting :=
  congrArg (fun b : Migration × Link × WatchList × Policy => (b.2.2.2.profiles, b.2.2.2.run)) h

end

namespace State

variable (s : State)

/-! ## The link -/

theorem raiseIf_setting (b : Bool) (k : Condition) : (s.raiseIf b k).setting = s.setting :=
  setting_of_elsewhere (s.raiseIf_elsewhere b k)

theorem makeMsg_setting (c : Ctx) (m : OutMsg) : (s.makeMsg c m).setting = s.setting :=
  setting_of_offLink (s.makeMsg_offLink c m)

theorem queueGreeting_setting (m : OutMsg) : (s.queueGreeting m).setting = s.setting :=
  setting_of_offLink (SameButMessages.queueGreeting s m).offLink

theorem purgeOutbound_setting (keep : OutMsg → Bool) : (s.purgeOutbound keep).setting = s.setting :=
  setting_of_offLink (s.purgeOutbound_offLink keep)

theorem answerStale_setting (r : Reply) : (s.answerStale r).setting = s.setting := by
  unfold answerStale sendStale; split <;> rfl

theorem refill_setting : s.refill.setting = s.setting := setting_of_offLink (refillUpTo_offLink ..)

theorem transmitHead_setting : s.transmitHead.setting = s.setting := by
  unfold transmitHead; split
  · exact refill_setting _
  · rfl

theorem endAllSilently_setting (r : AbortReason) : (s.endAllSilently r).setting = s.setting :=
  setting_of_elsewhere (s.endAllSilently_elsewhere r)

theorem linkFail_setting : s.linkFail.setting = s.setting := by
  have greeted (u : State) : ((u.clearAllHeld.raise .linkFault).enterGreeting).setting = u.setting := rfl
  exact (greeted _).trans (s.linkDown.endAllSilently_setting .linkDown)

theorem badFrame_setting : s.badFrame.setting = s.setting := by
  unfold badFrame; split
  · split
    · exact s.linkFail_setting
    · rfl
  · rfl

theorem linkUp_setting : s.linkUp.setting = s.setting :=
  purgeOutbound_setting { s with sbl := { s.sbl with state := .up, retryTimer := none } } _

theorem greetAnew_setting : s.greetAnew.setting = s.setting := by
  have emptied (u : State) : u.clearAllHeld.onlyHelloAck.setting = u.setting := rfl
  exact (emptied _).trans ((endAllSilently_setting ..).trans (s.queueGreeting_setting .helloAck))

theorem takeHello_setting (level count : Byte) : (s.takeHello level count).setting = s.setting := by
  unfold takeHello; split
  · rfl
  · split
    · rfl
    · exact (endAllSilently_setting ..).trans ((queueGreeting_setting ..).trans s.linkUp_setting)
    · exact s.greetAnew_setting

theorem takeHelloAck_setting (level count : Byte) : (s.takeHelloAck level count).setting = s.setting := by
  unfold takeHelloAck; split
  · rfl
  · split
    · rfl
    · exact s.linkUp_setting
    · rfl

theorem passNote_setting (n : ErrorNote) : (s.passNote n).setting = s.setting := by
  unfold passNote; split <;> rfl

theorem passReply_setting (r : Reply) : (s.passReply r).setting = s.setting := by
  unfold passReply; split <;> rfl

theorem receive_setting (m : InMsg) : (s.receive m).setting = s.setting := by
  unfold receive; split
  · cases m with
    | errorNote n => exact s.goodFrame.passNote_setting n
    | reply r => exact s.goodFrame.passReply_setting r
    | hello level count => exact s.goodFrame.takeHello_setting level count
    | helloAck level count => exact s.goodFrame.takeHelloAck_setting level count
  · rfl

/-! ## Migrations, replies and reports -/

theorem abort_setting (c : Ctx) (r : AbortReason) : (s.abort c r).setting = s.setting :=
  setting_of_elsewhere (s.abort_elsewhere c r)

theorem startRound_setting (c : Ctx) (j : Job) : (s.startRound c j).setting = s.setting :=
  setting_of_offLink (s.startRound_offLink c j)

theorem takeAllReports_setting : s.takeAllReports.setting = s.setting := setting_of_elsewhere s.takeAllReports_elsewhere

theorem armOrCutover_setting (c : Ctx) (j : Job) : (s.armOrCutover c j).setting = s.setting := by
  unfold armOrCutover; split
  · rfl
  · exact setting_of_elsewhere (s.cutover_elsewhere c j)

theorem endRound_setting (c : Ctx) (j : Job) : (s.endRound c j).setting = s.setting := by
  unfold endRound afterUncleanRound; split
  · exact s.armOrCutover_setting c j
  · split
    · exact s.startRound_setting c j
    · split
      · exact setting_of_offLink (s.requestFence_offLink c j)
      · exact s.abort_setting c _

theorem fencedTest_setting (c : Ctx) : (s.fencedTest c).setting = s.setting := by
  unfold fencedTest; dsimp only; split
  · exact (armOrCutover_setting ..).trans s.takeAllReports_setting
  · exact s.takeAllReports_setting

theorem takeReplyBody_setting (r : Reply) : (s.takeReplyBody r).setting = s.setting := by
  unfold takeReplyBody; split
  · unfold takeAccept; split
    · rfl
    · exact s.answerStale_setting r
  · unfold takeRefuse; split
    · exact s.abort_setting ..
    · exact s.answerStale_setting r
  · unfold takeDone; split
    · dsimp only; split
      · exact (endRound_setting ..).trans s.takeAllReports_setting
      · exact (answerStale_setting ..).trans s.takeAllReports_setting
    · exact s.answerStale_setting r
  · unfold takeFenceSet; split
    · dsimp only; split
      · exact fencedTest_setting ..
      · exact s.startRound_setting ..
    · exact s.answerStale_setting r
  · unfold takeFenceRelease; split
    · exact setting_of_offLink (s.enterIdle_offLink ..)
    · exact s.answerStale_setting r

theorem takePassedReply_setting (r : Reply) : (s.takePassedReply r).setting = s.setting := by
  unfold takePassedReply; split
  · split
    · dsimp only; split
      · exact takeReplyBody_setting ..
      · rfl
    · rfl
  · rfl

theorem takeReply_setting (r : Reply) : (s.takeReply r).setting = s.setting := by
  unfold takeReply; split
  · rfl
  · split
    · exact s.takePassedReply_setting r
    · exact (takePassedReply_setting ..).trans (s.receive_setting _)

theorem takeHeadReport_setting : s.takeHeadReport.setting = s.setting := by
  unfold takeHeadReport; split
  · rfl
  · split
    · exact s.takeAllReports_setting
    · exact setting_of_elsewhere (takeReports_elsewhere ..)

theorem takeHeadIf_setting (kind : Report → Bool) : (s.takeHeadIf kind).setting = s.setting := by
  unfold takeHeadIf; split
  · split
    · exact s.takeHeadReport_setting
    · rfl
  · rfl

theorem makeReport_setting (x : Report) : (s.makeReport x).setting = s.setting := by
  unfold makeReport; dsimp only; split
  · rfl
  · exact s.takeHeadReport_setting

/-! ## The Remap Table -/

theorem freeIfRetiring_setting (i : EntryIx) : (s.freeIfRetiring i).setting = s.setting := by
  unfold freeIfRetiring; split <;> rfl

theorem tableClose_setting (x : CloseReport) : (s.tableClose x).setting = s.setting := by
  unfold tableClose; split
  · split
    · exact s.freeIfRetiring_setting _
    · rfl
  · rfl

theorem foldl_setting {α : Type} {f : State → α → State} (hf : ∀ u a, (f u a).setting = u.setting) (l : List α) :
    (l.foldl f s).setting = s.setting :=
  List.foldlRecOn (motive := fun u : State => u.setting = s.setting) l f rfl fun u hu a _ => (hf u a).trans hu

theorem tableTakesCloses_setting : s.tableTakesCloses.setting = s.setting := foldl_setting _ tableClose_setting _

/-! ## The command path -/

theorem closeBank_setting (r : Rank) (b : Bank) : (s.closeBank r b).setting = s.setting := by
  have closed (u : State) (x : CloseReport) : ((u.reportCloseToTable x).setRecord r b none).setting = u.setting := rfl
  unfold closeBank; split
  · exact (closed ..).trans (s.makeReport_setting _)
  · rfl

theorem closeRank_setting (r : Rank) : (s.closeRank r).setting = s.setting :=
  s.foldl_setting (fun u b => u.closeBank_setting r b) _

theorem reportWrite_setting (g : Geometry) (r : Rank) (b : Bank) (col : Column) :
    (s.reportWrite g r b col).setting = s.setting := by
  unfold reportWrite; split
  · exact s.makeReport_setting _
  · exact s.makeReport_setting _
  · rfl

theorem activateData_setting (g : Geometry) (o : Origin) : (s.activateData g o).setting = s.setting := by
  have closed : (s.closeBeforeLookup o.rank o.bank).setting = s.setting := by
    unfold closeBeforeLookup; split
    · exact (tableTakesCloses_setting _).trans (s.closeBank_setting ..)
    · rfl
  exact closed

theorem activateAlias_setting (g : Geometry) (r : Rank) (b : Bank) (issued : Nat) :
    (s.activateAlias g r b issued).setting = s.setting := by
  unfold activateAlias; dsimp only; split <;> exact s.closeBank_setting r b

/-! ## Error notes -/

theorem slotNote_setting (r : Rank) (b : Bank) (k : SlotNo) : (s.slotNote r b k).setting = s.setting := by
  unfold slotNote; split
  case h_3 =>
    split
    · exact s.abort_setting ..
    · rfl
  all_goals rfl

theorem dataNote_setting (o : Origin) (cls : NoteClass) (rep : Byte) : (s.dataNote o cls rep).setting = s.setting := by
  obtain ⟨items, counter, nom, full, -, scored⟩ :=
    (s.noteClaims o).scoreNote_scored (s.noteKey o) cls (s.runProfile.noteWeight cls rep) (s.noteContext o)
  have claimed : (s.noteClaims o).setting = s.setting := setting_of_pol (s.noteClaims_sameButStage o).pol
  rw [dataNote_eq, scored, scoredAs_eq]
  exact claimed

theorem takeNote_setting (n : ErrorNote) : (s.takeNote n).setting = s.setting := by
  unfold takeNote; split
  · rfl
  · split
    · split
      · split
        · exact s.dataNote_setting ..
        · exact s.slotNote_setting ..
      · rfl
    · rfl

theorem takePassedNote_setting (n : ErrorNote) : (s.takePassedNote n).setting = s.setting := by
  unfold takePassedNote; split
  · split
    · exact takeNote_setting ..
    · rfl
  · rfl

/-! ## Launches and the Policy Unit -/

theorem launch_setting (c : Ctx) (d : Direction) (i : EntryIx) (e : Entry) (o : Origin) (k : SlotNo) (key : Key) :
    (s.launch c d i e o k key).setting = s.setting := by
  obtain ⟨records, noticed⟩ := ((s.setEntry i e).setSlotState o.rank o.bank k (.target i)).launchNotice_eq c o
  refine (makeMsg_setting ..).trans ?_
  rw [noticed]
  rfl

variable {s} {t : State} {c : Ctx}

theorem launchFirst_setting {o : Origin} (h : s.launchFirst o = .launched c t) : t.setting = s.setting := by
  unfold launchFirst at h
  repeat' split at h
  all_goals cases h
  exact launch_setting ..

theorem launchMove_setting {i : EntryIx} (h : s.launchMove i = .launched c t) : t.setting = s.setting := by
  unfold launchMove at h
  repeat' split at h
  all_goals cases h
  exact launch_setting ..

variable (s)

theorem launchFailed_setting (k : Key) (last : Option FailureKind) (f : FailureKind) (cond : Condition) :
    (s.launchFailed k last f cond).setting = s.setting := by
  unfold launchFailed; split <;> rfl

theorem afterLaunch_setting (k : Key) (last : Option FailureKind) {l : Launch}
    (h : ∀ c t, l = .launched c t → t.setting = s.setting) : (s.afterLaunch k last l).setting = s.setting := by
  unfold afterLaunch; split
  · next c t =>
    have marked : (t.setLastFailure k none).setting = t.setting := rfl
    exact marked.trans (h c t rfl)
  · exact s.launchFailed_setting ..
  · exact s.launchFailed_setting ..
  · rfl

theorem consider_setting (k : Key) : (s.consider k).setting = s.setting := by
  unfold consider; split
  · split
    · unfold actOn; split
      · exact s.afterLaunch_setting k _ fun _ _ => launchFirst_setting
      · exact s.afterLaunch_setting k _ fun _ _ => launchMove_setting
      · exact s.launchFailed_setting ..
      · rfl
    · rfl
  · rfl

theorem passStep_setting : s.passStep.setting = s.setting := by
  unfold passStep; split
  · exact consider_setting ..
  · rfl

theorem takeNomination_setting : s.takeNomination.setting = s.setting := by
  unfold takeNomination; split
  · dsimp only; split
    · exact consider_setting ..
    · rfl
  · rfl

end State

end Sys2Proof.Machine
end

section
/-! Where the profiles and RUN_PROFILE change (R139, R145): the requests, the entry to ACTIVE, and every command together. -/

namespace Sys2Proof.Machine

namespace State

/-! ## Requests -/

section
variable (s : State)

theorem answer_pol (st : Status) (p : Payload) : (s.answer st p).pol = s.pol := by
  unfold answer compose; split
  · split <;> rfl
  · rfl

theorem answer_setting (st : Status) (p : Payload) : (s.answer st p).setting = s.setting := setting_of_pol (s.answer_pol st p)
theorem refuse_setting (st : Status) : (s.refuse st).setting = s.setting := s.answer_setting st .none

theorem acceptRequest_pol (tag : Byte) (q : Request) : (s.acceptRequest tag q).pol = s.pol := by
  unfold acceptRequest; split <;> rfl

/-- What a request's decision keeps of the Policy Unit, its frame and its decision keep. -/
theorem takeRequest_keeps {α : Type} (read : Policy → α) (q : Request) {f : State → State}
    (hf : ∀ u : State, read (f u).pol = read u.pol) : read (s.takeRequest q f).pol = read s.pol := by
  unfold takeRequest; split
  · rfl
  · have taken : read (if s.port.awaits q then s else s.acceptRequest 0 q).pol = read s.pol := by
      split
      · rfl
      · rw [acceptRequest_pol]
    dsimp only
    generalize (if s.port.awaits q then s else s.acceptRequest 0 q) = u at taken
    split
    · exact (hf _).trans taken
    · exact taken

theorem takeRequest_setting (q : Request) {f : State → State} (hf : ∀ u : State, (f u).setting = u.setting) :
    (s.takeRequest q f).setting = s.setting := s.takeRequest_keeps (fun p => (p.profiles, p.run)) q hf

theorem takeFrame_setting (bytes : List Byte) : (s.takeFrame bytes).setting = s.setting := by
  unfold takeFrame; split
  · rfl
  · exact setting_of_pol (s.acceptRequest_pol ..)

variable {s}

theorem whenLoaded_setting {t : State} (h : t.setting = s.setting) : (s.whenLoaded t).setting = s.setting := by
  unfold whenLoaded; split
  · exact s.refuse_setting _
  · exact h

theorem whenActive_setting {f : Geometry → State} (h : ∀ g, (f g).setting = s.setting) :
    (s.whenActive f).setting = s.setting := by
  unfold whenActive; split
  · exact h _
  · exact s.refuse_setting _

theorem whenSome_setting {α : Type} {o : Option α} {f : α → State} (h : ∀ a, (f a).setting = s.setting) :
    (s.whenSome o f).setting = s.setting := by
  unfold whenSome; split
  · exact h _
  · exact s.refuse_setting _

theorem whenEngineFree_setting {t : State} (h : t.setting = s.setting) : (s.whenEngineFree t).setting = s.setting := by
  unfold whenEngineFree; split
  · exact s.refuse_setting _
  · split
    · exact s.refuse_setting _
    · exact h

variable (s)

/-! ### The Remap Table and the Slot Directory -/

theorem decideTableRead_setting (x : Byte) : (s.decideTableRead x).setting = s.setting :=
  whenLoaded_setting (whenSome_setting fun _ => s.answer_setting ..)

theorem decideTableFind_setting (r b : Byte) (row : RowField) : (s.decideTableFind r b row).setting = s.setting :=
  whenActive_setting fun _ => whenSome_setting fun _ => by split <;> exact s.answer_setting ..

theorem release_setting (g : Geometry) (i : EntryIx) (o : Origin) (k : SlotNo) (m : Nat) :
    (s.release g i o k m).setting = s.setting := by
  have cancelled : (s.cancelStageFor i).setting = s.setting := setting_of_pol (s.cancelStageFor_pol i)
  unfold release; dsimp only; split <;> exact (answer_setting ..).trans cancelled

theorem decideRelease_setting (x : Byte) : (s.decideRelease x).setting = s.setting :=
  whenActive_setting fun _ => whenSome_setting fun i => by
    split
    · exact s.refuse_setting _
    · split
      · exact s.refuse_setting _
      · exact s.release_setting ..
    · exact s.refuse_setting _

theorem decideSlotRead_setting (r b k : Byte) : (s.decideSlotRead r b k).setting = s.setting :=
  whenActive_setting fun _ => whenSome_setting fun _ => s.answer_setting ..

theorem decideTestBegin_setting (r b k : Byte) : (s.decideTestBegin r b k).setting = s.setting :=
  whenActive_setting fun _ => whenSome_setting fun _ => by
    split
    · exact answer_setting ..
    · exact s.refuse_setting _

theorem decideTestEnd_setting (r b k v : Byte) : (s.decideTestEnd r b k v).setting = s.setting :=
  whenActive_setting fun _ => whenSome_setting fun _ => by
    split
    · exact answer_setting ..
    · exact s.refuse_setting _

theorem decideSlotGrade_setting (r b k v : Byte) : (s.decideSlotGrade r b k v).setting = s.setting :=
  whenActive_setting fun _ => whenSome_setting fun _ => by
    split
    · exact answer_setting ..
    · exact s.refuse_setting _

/-! ### The Migration Engine, the Watch List and the Policy Unit -/

theorem decideContextRead_setting (x : Byte) : (s.decideContextRead x).setting = s.setting :=
  whenLoaded_setting (whenSome_setting fun _ => s.answer_setting ..)

theorem answerLaunch_setting {l : Launch} (h : ∀ c t, l = .launched c t → t.setting = s.setting) :
    (s.answerLaunch l).setting = s.setting := by
  unfold answerLaunch; split
  · exact (answer_setting ..).trans (h _ _ rfl)
  · exact s.refuse_setting _

theorem decideRepair_setting (r b : Byte) (row : RowField) : (s.decideRepair r b row).setting = s.setting :=
  whenActive_setting fun _ => whenSome_setting fun _ => s.answerLaunch_setting fun _ _ => launchFirst_setting

theorem decideMove_setting (x : Byte) : (s.decideMove x).setting = s.setting :=
  whenActive_setting fun _ => whenSome_setting fun _ => s.answerLaunch_setting fun _ _ => launchMove_setting

theorem decideCancel_setting (x : Byte) : (s.decideCancel x).setting = s.setting :=
  whenActive_setting fun _ => whenSome_setting fun _ => by
    split
    · exact (answer_setting ..).trans (s.abort_setting ..)
    · exact s.refuse_setting _

theorem decideWatchRead_setting (x : Byte) : (s.decideWatchRead x).setting = s.setting :=
  whenLoaded_setting (whenSome_setting fun _ => by split <;> exact s.answer_setting ..)

theorem decideWatchClear_setting (r b : Byte) (row : RowField) (x : Byte) :
    (s.decideWatchClear r b row x).setting = s.setting :=
  whenActive_setting fun _ => whenSome_setting fun _ => by
    split
    · exact s.refuse_setting _
    · split
      · exact s.refuse_setting _
      · exact answer_setting ..

theorem decideProfileRead_setting (x : Byte) : (s.decideProfileRead x).setting = s.setting :=
  whenLoaded_setting (whenSome_setting fun _ => s.answer_setting ..)

theorem decideEditSelect_setting (x : Byte) : (s.decideEditSelect x).setting = s.setting :=
  whenLoaded_setting (whenSome_setting fun _ => answer_setting ..)

theorem decideRunSelect_setting (x : Byte) : (s.decideRunSelect x).setting = s.setting :=
  whenLoaded_setting (whenSome_setting fun _ => answer_setting ..)

/-- R143: a write selects no profile. -/
theorem decideProfileWrite_run (f : Byte) (v : BitVec 16) : (s.decideProfileWrite f v).pol.run = s.pol.run := by
  have answered (u : State) (st : Status) : (u.answer st .none).pol.run = u.pol.run := congrArg Policy.run (u.answer_pol st .none)
  unfold decideProfileWrite whenLoaded whenSome; split
  · exact answered s _
  · split
    · split
      · exact answered s _
      · exact answered ..
    · exact answered s _

/-! ### The Repair Store and the port -/

theorem stageEntry_setting (i : EntryIx) : (s.stageEntry i).setting = s.setting := by
  unfold stageEntry; split
  · exact s.refuse_setting _
  · split
    · exact s.refuse_setting _
    · split
      · exact answer_setting ..
      · exact s.refuse_setting _
  · exact s.refuse_setting _

theorem decideStage_setting (x : Byte) : (s.decideStage x).setting = s.setting :=
  whenActive_setting fun _ => whenSome_setting fun _ => whenEngineFree_setting (by
    split
    · exact s.stageEntry_setting _
    · exact s.refuse_setting _)

theorem beginOperation_setting (x : Operation) : (s.beginOperation x).setting = s.setting := answer_setting ..

theorem decideBurn_setting : s.decideBurn.setting = s.setting :=
  whenActive_setting fun _ => whenEngineFree_setting (by
    split
    · split
      · exact beginOperation_setting ..
      · exact s.refuse_setting _
    all_goals exact s.refuse_setting _)

theorem decideRevoke_setting (x : Byte) : (s.decideRevoke x).setting = s.setting :=
  whenActive_setting fun _ => whenSome_setting fun _ => whenEngineFree_setting (by
    split
    · exact s.beginOperation_setting _
    · exact s.refuse_setting _)

theorem decideBurnGeometry_setting : s.decideBurnGeometry.setting = s.setting :=
  whenLoaded_setting (whenEngineFree_setting (by
    split
    · split
      · exact s.beginOperation_setting _
      · exact s.refuse_setting _
    · exact s.refuse_setting _))

theorem cancelStage_setting : s.cancelStage.setting = s.setting := by
  unfold cancelStage; split <;> rfl

theorem decideLockStore_setting : s.decideLockStore.setting = s.setting :=
  whenLoaded_setting ((answer_setting ..).trans s.setLock.cancelStage_setting)

theorem decideStoreRead_setting (x : Byte) : (s.decideStoreRead x).setting = s.setting :=
  whenLoaded_setting (whenSome_setting fun _ => s.answer_setting ..)

theorem decideStoreStatus_setting : s.decideStoreStatus.setting = s.setting := whenLoaded_setting (s.answer_setting ..)

theorem decideConditionRead_setting : s.decideConditionRead.setting = s.setting := whenLoaded_setting (s.answer_setting ..)

theorem decideConditionClear_setting (x : BitVec 32) : (s.decideConditionClear x).setting = s.setting :=
  whenLoaded_setting (whenSome_setting fun _ => answer_setting ..)

theorem decideAlertMask_setting (x : BitVec 32) : (s.decideAlertMask x).setting = s.setting :=
  whenLoaded_setting (whenSome_setting fun _ => answer_setting ..)

theorem decideWarmReset_setting : s.decideWarmReset.setting = s.setting :=
  whenLoaded_setting (s.answer_setting .ok .none)

/-! ### The parts of a warm reset (R191) -/

theorem takeWarmPart_setting (p : WarmPart) {f : State → State} (h : (f s).setting = s.setting) :
    (s.takeWarmPart p f).setting = s.setting := by
  unfold takeWarmPart; split
  · exact h
  · rfl

theorem warmMigration_setting : s.warmMigration.setting = s.setting := by
  unfold warmMigration; dsimp only; split
  · exact s.endAllSilently_setting _
  · exact (purgeOutbound_setting ..).trans (s.endAllSilently_setting _)

theorem warmLink_setting : s.warmLink.setting = s.setting := by
  have greeted (u : State) : u.clearAllHeld.enterGreeting.setting = u.setting := rfl
  exact (greeted _).trans (s.linkDown.endAllSilently_setting .warmReset)

/-! ## The entry to ACTIVE (R145) -/

theorem applyPendingRun_profiles : s.applyPendingRun.pol.profiles = s.pol.profiles := by
  rw [applyPendingRun_eq]

theorem enterActive_profiles (g : Geometry) : (s.enterActive g).pol.profiles = s.pol.profiles := by
  have loaded : (s.load g).state.setting = s.setting := setting_of_queueBlocks (s.load_queueBlocks g)
  unfold enterActive
  generalize (s.load g).state = u at loaded ⊢
  exact u.applyPendingRun_profiles.trans (profiles_of_setting loaded)

theorem afterRead_profiles : s.afterRead.pol.profiles = s.pol.profiles := by
  unfold afterRead; split
  · exact s.enterActive_profiles _
  · rfl
  · rfl

theorem decideConfigure_profiles (r w : Byte) : (s.decideConfigure r w).pol.profiles = s.pol.profiles := by
  have answered (u : State) (st : Status) (p : Payload) : (u.answer st p).pol.profiles = u.pol.profiles :=
    congrArg Policy.profiles (u.answer_pol st p)
  unfold decideConfigure whenSome; split
  · exact answered s ..
  · exact answered s ..
  · split
    · exact (answered ..).trans (s.enterActive_profiles _)
    · exact answered s ..

end

end State

end Sys2Proof.Machine
end

section
/-! The frame of the profiles and of RUN_PROFILE over every command (R139, R145). -/

namespace Sys2Proof.Machine

variable {s t u : State}

/-- The commands that may change the profiles or RUN_PROFILE: the power events, the end of the load, the decay boundary, CONFIGURE
and PROFILE_WRITE. -/
def changesSetting : Instr → Bool
  | .powerOn => true
  | .powerOnResetAssert => true
  | .loadComplete => true
  | .decayBoundary => true
  | .configure _ _ => true
  | .profileWrite _ _ => true
  | _ => false

namespace State

theorem setting_ofNext (h : (.next u : Host.Outcome State Fault Refusal) = .next t) (k : u.setting = s.setting) :
    t.setting = s.setting := Host.Outcome.next.inj h ▸ k

theorem passThrough_setting (x : ChannelCommand) : (s.passThrough x).setting = s.setting :=
  (s.forward x).raiseIf_setting ..

/-! ## The command path -/

/-- A command of the channel passes through, or is forwarded with its reports and closes. -/
theorem channelCommand_setting (x : ChannelCommand) (h : exec x.instr s = .next t) : t.setting = s.setting := by
  cases x with
  | read => exact setting_ofNext h (s.passThrough_setting _)
  | other => exact setting_ofNext h (s.passThrough_setting _)
  | activate =>
    refine setting_ofNext h ?_
    split
    · exact s.passThrough_setting _
    · dsimp only; split
      · exact s.activateData_setting ..
      · exact s.activateAlias_setting ..
  | write r b col =>
    refine setting_ofNext h ?_
    split
    · exact s.passThrough_setting _
    · exact (s.forward (.write r b col)).reportWrite_setting ..
  | readAp r b col =>
    refine setting_ofNext h ?_
    split
    · exact s.passThrough_setting _
    · exact (s.forward (.readAp r b col)).closeBank_setting ..
  | writeAp r b col =>
    refine setting_ofNext h ?_
    split
    · exact s.passThrough_setting _
    · exact (closeBank_setting ..).trans ((s.forward (.writeAp r b col)).reportWrite_setting ..)
  | precharge r b =>
    refine setting_ofNext h ?_
    split
    · exact s.passThrough_setting _
    · exact (s.forward (.precharge r b)).closeBank_setting ..
  | prechargeAll r =>
    refine setting_ofNext h ?_
    split
    · exact s.passThrough_setting _
    · exact (s.forward (.prechargeAll r)).closeRank_setting r
  | refresh r =>
    refine setting_ofNext h ?_
    split
    · exact s.passThrough_setting _
    · exact (s.forward (.refresh r)).closeRank_setting r

theorem execChannelReset_setting (h : execChannelReset s = .next t) : t.setting = s.setting := by
  refine setting_ofNext h ?_
  split
  · rfl
  · split
    · split <;> rfl
    · rfl

/-! ## Reports, messages and timers -/

theorem migrationChannelReset_setting (s : State) : s.migrationChannelReset.setting = s.setting :=
  setting_of_elsewhere s.migrationChannelReset_elsewhere

theorem execChannelResetMigration_setting (h : execChannelResetMigration s = .next t) : t.setting = s.setting := by
  refine setting_ofNext h ?_
  split
  · rfl
  · exact migrationChannelReset_setting _

theorem execChannelResetTable_setting (h : execChannelResetTable s = .next t) : t.setting = s.setting := by
  refine setting_ofNext h ?_
  split
  · rfl
  · exact foldl_setting _ freeIfRetiring_setting _

theorem execCloseReportTable_setting (h : execCloseReportTable s = .next t) : t.setting = s.setting := by
  refine setting_ofNext h ?_
  split
  · rfl
  · exact tableClose_setting ..

theorem execInboundFrame_setting {bytes : List Byte} (h : execInboundFrame bytes s = .next t) : t.setting = s.setting := by
  refine setting_ofNext h ?_
  split
  · rfl
  · split
    · exact s.receive_setting _
    · exact s.badFrame_setting

theorem execErrorNote_setting {n : ErrorNote} (h : execErrorNote n s = .next t) : t.setting = s.setting := by
  refine setting_ofNext h ?_
  split
  · rfl
  · split
    · exact s.takePassedNote_setting n
    · split
      · exact s.badFrame_setting
      · exact (takePassedNote_setting ..).trans (s.receive_setting _)

theorem execTransmitBegin_setting (h : execTransmitBegin s = .next t) : t.setting = s.setting := by
  refine setting_ofNext h ?_
  split
  · exact s.transmitHead_setting
  · rfl

theorem execRetryTimerExpiry_setting (h : execRetryTimerExpiry s = .next t) : t.setting = s.setting := by
  refine setting_ofNext h ?_
  split
  · exact s.queueGreeting_setting .hello
  · rfl

variable (s)

theorem expire_setting (c : Ctx) (st : BusyState) (r : AbortReason) : (s.expire c st r).setting = s.setting := by
  unfold expire; split
  · exact s.abort_setting c r
  · rfl

theorem closingExpiry_setting (c : Ctx) : (s.closingExpiry c).setting = s.setting := by
  unfold closingExpiry; split
  · split <;> rfl
  · rfl

theorem stageExpiry_setting : s.stageExpiry.setting = s.setting := by
  unfold stageExpiry; split <;> rfl

variable {s}

theorem execRequestFrame_setting {bytes : List Byte} (h : execRequestFrame bytes s = .next t) : t.setting = s.setting := by
  refine setting_ofNext h ?_
  split
  · rfl
  · exact s.takeFrame_setting bytes

end State

/-! ## Every command -/

open State in
/-- R139, R145: every other command keeps the profiles and RUN_PROFILE. -/
theorem exec_keepsSetting {c : Instr} (other : changesSetting c = false) (h : exec c s = .next t) : t.setting = s.setting := by
  cases c with
  | powerOn => cases other
  | powerOnResetAssert => cases other
  | loadComplete => cases other
  | decayBoundary => cases other
  | configure => cases other
  | profileWrite => cases other
  -- the command path
  | activate r b row => exact channelCommand_setting (.activate r b row) h
  | read r b col => exact channelCommand_setting (.read r b col) h
  | write r b col => exact channelCommand_setting (.write r b col) h
  | readAp r b col => exact channelCommand_setting (.readAp r b col) h
  | writeAp r b col => exact channelCommand_setting (.writeAp r b col) h
  | precharge r b => exact channelCommand_setting (.precharge r b) h
  | prechargeAll r => exact channelCommand_setting (.prechargeAll r) h
  | refresh r => exact channelCommand_setting (.refresh r) h
  | otherCommand code => exact channelCommand_setting (.other code) h
  | channelReset => exact execChannelReset_setting h
  | channelResetDeassert => exact setting_ofNext h rfl
  -- reports
  | channelResetMigration => exact execChannelResetMigration_setting h
  | channelResetTable => exact execChannelResetTable_setting h
  | sourceWriteReport => exact setting_ofNext h (s.takeHeadIf_setting _)
  | destWriteReport => exact setting_ofNext h (s.takeHeadIf_setting _)
  | closeReportMigration => exact setting_ofNext h (s.takeHeadIf_setting _)
  | closeReportTable => exact execCloseReportTable_setting h
  -- the link
  | inboundFrame => exact execInboundFrame_setting h
  | badFrame => exact setting_ofNext h s.badFrame_setting
  | errorNote => exact execErrorNote_setting h
  | copyAccept => exact setting_ofNext h (s.takeReply_setting _)
  | copyRefuse => exact setting_ofNext h (s.takeReply_setting _)
  | copyDone => exact setting_ofNext h (s.takeReply_setting _)
  | fenceAckSet => exact setting_ofNext h (s.takeReply_setting _)
  | fenceAckRelease => exact setting_ofNext h (s.takeReply_setting _)
  | hello => exact setting_ofNext h (s.receive_setting _)
  | helloAck => exact setting_ofNext h (s.receive_setting _)
  | transmitBegin => exact execTransmitBegin_setting h
  -- timers
  | retryTimerExpiry => exact execRetryTimerExpiry_setting h
  | offerTimerExpiry => exact setting_ofNext h (s.expire_setting ..)
  | roundTimerExpiry => exact setting_ofNext h (s.expire_setting ..)
  | armTimerExpiry => exact setting_ofNext h (s.expire_setting ..)
  | fenceTimerExpiry => exact setting_ofNext h (s.expire_setting ..)
  | closingFenceTimerExpiry => exact setting_ofNext h (s.closingExpiry_setting _)
  | probationTimerExpiry => exact setting_ofNext h rfl
  | stageExpired => exact setting_ofNext h s.stageExpiry_setting
  -- the Policy Unit
  | retryPassStep => exact setting_ofNext h s.passStep_setting
  | nominationTake => exact setting_ofNext h s.takeNomination_setting
  -- the burn engine
  | burnComplete v => exact setting_ofNext h (setting_of_queueBlocks (s.burnCompletes_queueBlocks v))
  | revokeComplete v => exact setting_ofNext h (setting_of_queueBlocks (s.revokeCompletes_queueBlocks v))
  | burnGeometryComplete v => exact setting_ofNext h (setting_of_queueBlocks (s.geometryCompletes_queueBlocks v))
  -- requests
  | requestFrame => exact execRequestFrame_setting h
  | tableRead => exact setting_ofNext h (s.takeRequest_setting _ (decideTableRead_setting · _))
  | tableFind => exact setting_ofNext h (s.takeRequest_setting _ (decideTableFind_setting · _ _ _))
  | release => exact setting_ofNext h (s.takeRequest_setting _ (decideRelease_setting · _))
  | slotRead => exact setting_ofNext h (s.takeRequest_setting _ (decideSlotRead_setting · _ _ _))
  | slotTestBegin => exact setting_ofNext h (s.takeRequest_setting _ (decideTestBegin_setting · _ _ _))
  | slotTestEnd => exact setting_ofNext h (s.takeRequest_setting _ (decideTestEnd_setting · _ _ _ _))
  | slotGrade => exact setting_ofNext h (s.takeRequest_setting _ (decideSlotGrade_setting · _ _ _ _))
  | contextRead => exact setting_ofNext h (s.takeRequest_setting _ (decideContextRead_setting · _))
  | repair => exact setting_ofNext h (s.takeRequest_setting _ (decideRepair_setting · _ _ _))
  | move => exact setting_ofNext h (s.takeRequest_setting _ (decideMove_setting · _))
  | cancel => exact setting_ofNext h (s.takeRequest_setting _ (decideCancel_setting · _))
  | watchRead => exact setting_ofNext h (s.takeRequest_setting _ (decideWatchRead_setting · _))
  | watchClear => exact setting_ofNext h (s.takeRequest_setting _ (decideWatchClear_setting · _ _ _ _))
  | profileRead => exact setting_ofNext h (s.takeRequest_setting _ (decideProfileRead_setting · _))
  | profileEditSelect => exact setting_ofNext h (s.takeRequest_setting _ (decideEditSelect_setting · _))
  | profileRunSelect => exact setting_ofNext h (s.takeRequest_setting _ (decideRunSelect_setting · _))
  | stage => exact setting_ofNext h (s.takeRequest_setting _ (decideStage_setting · _))
  | burn => exact setting_ofNext h (s.takeRequest_setting _ decideBurn_setting)
  | revoke => exact setting_ofNext h (s.takeRequest_setting _ (decideRevoke_setting · _))
  | burnGeometry => exact setting_ofNext h (s.takeRequest_setting _ decideBurnGeometry_setting)
  | lockStore => exact setting_ofNext h (s.takeRequest_setting _ decideLockStore_setting)
  | storeRead => exact setting_ofNext h (s.takeRequest_setting _ (decideStoreRead_setting · _))
  | storeStatus => exact setting_ofNext h (s.takeRequest_setting _ decideStoreStatus_setting)
  | conditionRead => exact setting_ofNext h (s.takeRequest_setting _ decideConditionRead_setting)
  | conditionClear => exact setting_ofNext h (s.takeRequest_setting _ (decideConditionClear_setting · _))
  | alertMask => exact setting_ofNext h (s.takeRequest_setting _ (decideAlertMask_setting · _))
  | warmReset => exact setting_ofNext h (s.takeRequest_setting _ decideWarmReset_setting)
  -- the parts of a warm reset
  | warmResetMigration => exact setting_ofNext h (s.takeWarmPart_setting _ s.warmMigration_setting)
  | warmResetLink => exact setting_ofNext h (s.takeWarmPart_setting _ s.warmLink_setting)
  | warmResetWatch => exact setting_ofNext h (s.takeWarmPart_setting _ rfl)
  | warmResetSlots => exact setting_ofNext h (s.takeWarmPart_setting _ rfl)
  | warmResetStore => exact setting_ofNext h (s.takeWarmPart_setting _ s.cancelStage_setting)
  | warmResetConditions => exact setting_ofNext h (s.takeWarmPart_setting _ rfl)

/-! ## The commands that select or write -/

/-- R143: PROFILE_WRITE selects no profile. -/
theorem exec_profileWrite_run {f : Byte} {v : BitVec 16} (h : exec (.profileWrite f v) s = .next t) : t.pol.run = s.pol.run :=
  Host.Outcome.next.inj h ▸ s.takeRequest_keeps Policy.run _ (State.decideProfileWrite_run · f v)

theorem exec_loadComplete_profiles (h : exec .loadComplete s = .next t) : t.pol.profiles = s.pol.profiles := by
  refine Host.Outcome.next.inj h ▸ ?_
  split
  · rfl
  · exact s.afterRead_profiles

theorem exec_decayBoundary_profiles (h : exec .decayBoundary s = .next t) : t.pol.profiles = s.pol.profiles := by
  refine Host.Outcome.next.inj h ▸ ?_
  split
  · rw [State.decayBoundary_eq]
  · rfl

theorem exec_configure_profiles {r w : Byte} (h : exec (.configure r w) s = .next t) : t.pol.profiles = s.pol.profiles :=
  Host.Outcome.next.inj h ▸ s.takeRequest_keeps Policy.profiles _ (State.decideConfigure_profiles · r w)

/-- Settles O15: every command but six keeps both, and of the four that are no power event PROFILE_WRITE keeps the selection and the
others keep the profiles. -/
theorem profilesChangeOnlyWhereWritten : Obligations.ProfilesChangeOnlyWhereWritten := by
  intro c s t notOn notAssert h
  by_cases other : changesSetting c = false
  · have same := exec_keepsSetting other h
    exact ⟨fun _ => State.profiles_of_setting same, fun _ _ _ => State.run_of_setting same⟩
  cases c with
  | powerOn => exact absurd rfl notOn
  | powerOnResetAssert => exact absurd rfl notAssert
  | loadComplete => exact ⟨fun _ => exec_loadComplete_profiles h, fun _ notLoad => absurd rfl notLoad⟩
  | decayBoundary => exact ⟨fun _ => exec_decayBoundary_profiles h, fun notDecay => absurd rfl notDecay⟩
  | configure r w => exact ⟨fun _ => exec_configure_profiles h, fun _ _ notConfigure => absurd rfl (notConfigure r w)⟩
  | profileWrite f v => exact ⟨fun notWrite => absurd rfl (notWrite f v), fun _ _ _ => exec_profileWrite_run h⟩
  | _ => exact absurd rfl other

end Sys2Proof.Machine
end

section
/-!
SUPPORT. The operations that leave the Repair Store as it is: those of the link, of the migrations and their reports, of the Remap
Table, of the command path and of the launches.
-/

namespace Sys2Proof.Machine

theorem State.rst_of_offLink {s t : State} (h : t.offLink = s.offLink) : t.rst = s.rst := (congrArg State.rst h :)
theorem State.rst_of_elsewhere {s t : State} (h : t.elsewhere = s.elsewhere) : t.rst = s.rst := (congrArg State.rst h :)

namespace State

variable (s : State)

/-! ## The link -/

@[simp] theorem raiseIf_rst (b : Bool) (k : Condition) : (s.raiseIf b k).rst = s.rst := rst_of_elsewhere (s.raiseIf_elsewhere b k)

@[simp] theorem makeMsg_rst (c : Ctx) (m : OutMsg) : (s.makeMsg c m).rst = s.rst := rst_of_offLink (s.makeMsg_offLink c m)

@[simp] theorem queueGreeting_rst (m : OutMsg) : (s.queueGreeting m).rst = s.rst :=
  rst_of_offLink (SameButMessages.queueGreeting s m).offLink

@[simp] theorem refill_rst : s.refill.rst = s.rst := rst_of_offLink (refillUpTo_offLink ..)

@[simp] theorem purgeOutbound_rst (keep : OutMsg → Bool) : (s.purgeOutbound keep).rst = s.rst :=
  rst_of_offLink (s.purgeOutbound_offLink keep)

@[simp] theorem endAllSilently_rst (r : AbortReason) : (s.endAllSilently r).rst = s.rst :=
  rst_of_elsewhere (s.endAllSilently_elsewhere r)

@[simp] theorem transmitHead_rst : s.transmitHead.rst = s.rst := by
  unfold transmitHead; split <;> simp

@[simp] theorem retry_rst : s.retry.rst = s.rst := s.queueGreeting_rst .hello

@[simp] theorem answerStale_rst (r : Reply) : (s.answerStale r).rst = s.rst := by
  unfold answerStale sendStale; split <;> rfl

@[simp] theorem linkFail_rst : s.linkFail.rst = s.rst := by simp [linkFail]

@[simp] theorem badFrame_rst : s.badFrame.rst = s.rst := by
  unfold badFrame; split
  · split <;> simp
  · rfl

@[simp] theorem linkUp_rst : s.linkUp.rst = s.rst := by simp [linkUp]

@[simp] theorem greetAnew_rst : s.greetAnew.rst = s.rst := by simp [greetAnew]

@[simp] theorem takeHello_rst (level count : Byte) : (s.takeHello level count).rst = s.rst := by
  unfold takeHello; split
  · rfl
  · split <;> simp

@[simp] theorem takeHelloAck_rst (level count : Byte) : (s.takeHelloAck level count).rst = s.rst := by
  unfold takeHelloAck; split
  · rfl
  · split <;> simp

@[simp] theorem passNote_rst (n : ErrorNote) : (s.passNote n).rst = s.rst := by
  unfold passNote; split <;> rfl

@[simp] theorem passReply_rst (r : Reply) : (s.passReply r).rst = s.rst := by
  unfold passReply; split <;> rfl

@[simp] theorem receive_rst (m : InMsg) : (s.receive m).rst = s.rst := by
  unfold receive; split
  · cases m <;> simp
  · rfl

/-! ## Migrations, replies and reports -/

@[simp] theorem enterIdle_rst (c : Ctx) (j : Job) : (s.enterIdle c j).rst = s.rst := rst_of_offLink (s.enterIdle_offLink c j)
@[simp] theorem abort_rst (c : Ctx) (r : AbortReason) : (s.abort c r).rst = s.rst := rst_of_elsewhere (s.abort_elsewhere c r)
@[simp] theorem cutover_rst (c : Ctx) (j : Job) : (s.cutover c j).rst = s.rst := rst_of_elsewhere (s.cutover_elsewhere c j)
@[simp] theorem startRound_rst (c : Ctx) (j : Job) : (s.startRound c j).rst = s.rst := rst_of_offLink (s.startRound_offLink c j)
@[simp] theorem requestFence_rst (c : Ctx) (j : Job) : (s.requestFence c j).rst = s.rst :=
  rst_of_offLink (s.requestFence_offLink c j)
@[simp] theorem takeAllReports_rst : s.takeAllReports.rst = s.rst := rst_of_elsewhere s.takeAllReports_elsewhere
@[simp] theorem migrationChannelReset_rst : s.migrationChannelReset.rst = s.rst :=
  rst_of_elsewhere s.migrationChannelReset_elsewhere

@[simp] theorem armOrCutover_rst (c : Ctx) (j : Job) : (s.armOrCutover c j).rst = s.rst := by
  unfold armOrCutover; split <;> simp

@[simp] theorem afterUncleanRound_rst (c : Ctx) (j : Job) : (s.afterUncleanRound c j).rst = s.rst := by
  unfold afterUncleanRound; split
  · simp
  · split <;> simp

@[simp] theorem endRound_rst (c : Ctx) (j : Job) : (s.endRound c j).rst = s.rst := by
  unfold endRound; split <;> simp

@[simp] theorem fencedTest_rst (c : Ctx) : (s.fencedTest c).rst = s.rst := by
  unfold fencedTest; dsimp only; split <;> simp

@[simp] theorem takeReplyBody_rst (r : Reply) : (s.takeReplyBody r).rst = s.rst := by
  unfold takeReplyBody; split
  · unfold takeAccept; split <;> simp
  · unfold takeRefuse; split <;> simp
  · unfold takeDone; split
    · dsimp only; split <;> simp
    · simp
  · unfold takeFenceSet; split
    · dsimp only; split <;> simp
    · simp
  · unfold takeFenceRelease; split <;> simp

@[simp] theorem takePassedReply_rst (r : Reply) : (s.takePassedReply r).rst = s.rst := by
  unfold takePassedReply; split
  · split
    · dsimp only; split <;> simp
    · rfl
  · rfl

@[simp] theorem takeReply_rst (r : Reply) : (s.takeReply r).rst = s.rst := by
  unfold takeReply; split
  · rfl
  · split <;> simp

@[simp] theorem takeHeadReport_rst : s.takeHeadReport.rst = s.rst := by
  unfold takeHeadReport; split
  · rfl
  · split
    · simp
    · exact rst_of_elsewhere (takeReports_elsewhere ..)

@[simp] theorem takeHeadIf_rst (kind : Report → Bool) : (s.takeHeadIf kind).rst = s.rst := by
  unfold takeHeadIf; split
  · split <;> simp
  · rfl

@[simp] theorem makeReport_rst (x : Report) : (s.makeReport x).rst = s.rst := by
  unfold makeReport; dsimp only; split <;> simp

@[simp] theorem expire_rst (c : Ctx) (st : BusyState) (r : AbortReason) : (s.expire c st r).rst = s.rst := by
  unfold expire; split <;> simp

@[simp] theorem closingExpiry_rst (c : Ctx) : (s.closingExpiry c).rst = s.rst := by
  unfold closingExpiry; split
  · split <;> simp
  · rfl

/-! ## The Remap Table -/

theorem foldl_rst {α : Type} {f : State → α → State} (hf : ∀ u a, (f u a).rst = u.rst) (l : List α) :
    (l.foldl f s).rst = s.rst :=
  List.foldlRecOn (motive := fun u : State => u.rst = s.rst) l f rfl fun u hu a _ => (hf u a).trans hu

@[simp] theorem freeIfRetiring_rst (i : EntryIx) : (s.freeIfRetiring i).rst = s.rst := by
  unfold freeIfRetiring; split <;> rfl

@[simp] theorem freeAllRetiring_rst : s.freeAllRetiring.rst = s.rst := s.foldl_rst freeIfRetiring_rst _

@[simp] theorem tableClose_rst (x : CloseReport) : (s.tableClose x).rst = s.rst := by
  unfold tableClose; split
  · split <;> simp
  · rfl

@[simp] theorem tableTakesCloses_rst : s.tableTakesCloses.rst = s.rst := foldl_rst _ tableClose_rst _

/-! ## The command path -/

@[simp] theorem passThrough_rst (x : ChannelCommand) : (s.passThrough x).rst = s.rst := by simp [passThrough]

@[simp] theorem closeBank_rst (r : Rank) (b : Bank) : (s.closeBank r b).rst = s.rst := by
  unfold closeBank; split <;> simp

@[simp] theorem closeRank_rst (r : Rank) : (s.closeRank r).rst = s.rst := s.foldl_rst (fun u b => u.closeBank_rst r b) _

@[simp] theorem reportWrite_rst (g : Geometry) (r : Rank) (b : Bank) (col : Column) :
    (s.reportWrite g r b col).rst = s.rst := by
  unfold reportWrite; split <;> simp

@[simp] theorem openBank_rst (r : Rank) (b : Bank) (x : OpenRow) : (s.openBank r b x).rst = s.rst := rfl
@[simp] theorem violation_rst : s.violation.rst = s.rst := rfl

@[simp] theorem activateData_rst (g : Geometry) (o : Origin) : (s.activateData g o).rst = s.rst := by
  unfold activateData closeBeforeLookup; dsimp only; split <;> simp

@[simp] theorem activateAlias_rst (g : Geometry) (r : Rank) (b : Bank) (issued : Nat) :
    (s.activateAlias g r b issued).rst = s.rst := by
  unfold activateAlias; dsimp only; split <;> simp

/-! ## Notes on a spare row, and scores -/

@[simp] theorem slotNote_rst (r : Rank) (b : Bank) (k : SlotNo) : (s.slotNote r b k).rst = s.rst := by
  unfold slotNote; split
  case h_3 => split <;> simp
  all_goals rfl

@[simp] theorem scoreNote_rst (key : Key) (cls : NoteClass) (w : Nat) (running : Option Ctx) :
    (s.scoreNote key cls w running).rst = s.rst := by
  obtain ⟨items, counter, nom, full, -, scored⟩ := s.scoreNote_scored key cls w running
  rw [scored, scoredAs_eq]

/-! ## Launches and the Policy Unit -/

@[simp] theorem launchNotice_rst (c : Ctx) (o : Origin) : (s.launchNotice c o).rst = s.rst := by
  unfold launchNotice; split
  · split <;> rfl
  · rfl

@[simp] theorem launch_rst (c : Ctx) (d : Direction) (i : EntryIx) (e : Entry) (o : Origin) (k : SlotNo) (key : Key) :
    (s.launch c d i e o k key).rst = s.rst := by simp [launch]

variable {s} in
theorem launchFirst_rst {t : State} {c : Ctx} {o : Origin} (h : s.launchFirst o = .launched c t) : t.rst = s.rst := by
  obtain ⟨-, -, i, k, rfl⟩ := TableLawsKept.launchFirst_eq_launched h
  simp

variable {s} in
theorem launchMove_rst {t : State} {c : Ctx} {i : EntryIx} (h : s.launchMove i = .launched c t) : t.rst = s.rst := by
  unfold launchMove at h
  repeat' split at h
  all_goals cases h
  simp

@[simp] theorem launchFailed_rst (k : Key) (last : Option FailureKind) (f : FailureKind) (cond : Condition) :
    (s.launchFailed k last f cond).rst = s.rst := by
  unfold launchFailed; split <;> simp

theorem afterLaunch_rst (k : Key) (last : Option FailureKind) {l : Launch} (h : ∀ c t, l = .launched c t → t.rst = s.rst) :
    (s.afterLaunch k last l).rst = s.rst := by
  unfold afterLaunch; split
  · next c t => simpa using h c t rfl
  all_goals simp

@[simp] theorem consider_rst (k : Key) : (s.consider k).rst = s.rst := by
  unfold consider; split
  · split
    · unfold actOn; split
      · exact s.afterLaunch_rst k _ fun _ _ => launchFirst_rst
      · exact s.afterLaunch_rst k _ fun _ _ => launchMove_rst
      all_goals simp
    · rfl
  · rfl

@[simp] theorem passStep_rst : s.passStep.rst = s.rst := by
  unfold passStep; split <;> simp

@[simp] theorem takeNomination_rst : s.takeNomination.rst = s.rst := by
  unfold takeNomination; split
  · dsimp only; split <;> simp
  · rfl

@[simp] theorem decayBoundary_rst : s.decayBoundary.rst = s.rst := by rw [decayBoundary_eq]

end State

end Sys2Proof.Machine
end

section
/-!
SUPPORT. The commands that leave the Repair Store as it is, which are all but the power events, the end of the load, CONFIGURE, the
events of the stage and of the burn engine, an error note, RELEASE, the store's own requests and the store's part of a warm reset.
-/

namespace Sys2Proof.Machine

variable {s t : State}

namespace State

/-! ## Requests -/

/-- A request leaves what its frame leaves and its decision keeps. -/
theorem takeRequest_induction {P : State → Prop} {q : Request} {f : State → State} (start : P s) (taken : P (s.acceptRequest 0 q))
    (decided : ∀ u, P u → P (f u)) : P (s.takeRequest q f) := by
  unfold takeRequest; split
  · exact start
  · have framed : P (if s.port.awaits q then s else s.acceptRequest 0 q) := by split <;> assumption
    dsimp only
    generalize (if s.port.awaits q then s else s.acceptRequest 0 q) = u at framed
    split
    · exact decided u framed
    · exact framed

@[simp] theorem acceptRequest_rst (tag : Byte) (q : Request) : (s.acceptRequest tag q).rst = s.rst := by
  unfold acceptRequest; split <;> rfl

@[simp] theorem takeFrame_rst (bytes : List Byte) : (s.takeFrame bytes).rst = s.rst := by
  unfold takeFrame; split
  · rfl
  · simp

@[simp] theorem compose_rst (st : Status) (p : Payload) : (s.compose st p).rst = s.rst := by
  unfold compose; split
  · split <;> rfl
  · rfl

@[simp] theorem answer_rst (st : Status) (p : Payload) : (s.answer st p).rst = s.rst := compose_rst st p
@[simp] theorem refuse_rst (st : Status) : (s.refuse st).rst = s.rst := answer_rst st .none

theorem takeRequest_rst {q : Request} {f : State → State} (hf : ∀ u : State, (f u).rst = u.rst) :
    (s.takeRequest q f).rst = s.rst :=
  takeRequest_induction (P := fun u => u.rst = s.rst) rfl (by simp) fun u hu => (hf u).trans hu

theorem whenLoaded_rst (h : t.rst = s.rst) : (s.whenLoaded t).rst = s.rst := by
  unfold whenLoaded; split
  · simp
  · exact h

theorem whenActive_rst {f : Geometry → State} (h : ∀ g, (f g).rst = s.rst) : (s.whenActive f).rst = s.rst := by
  unfold whenActive; split
  · exact h _
  · simp

theorem whenSome_rst {α : Type} {o : Option α} {f : α → State} (h : ∀ a, (f a).rst = s.rst) : (s.whenSome o f).rst = s.rst := by
  unfold whenSome; split
  · exact h _
  · simp

/-- Most requests that every mode but LOADING decides read one operand. -/
theorem whenLoaded_whenSome_rst {α : Type} {o : Option α} {f : α → State} (h : ∀ a, (f a).rst = s.rst) :
    (s.whenLoaded (s.whenSome o f)).rst = s.rst := whenLoaded_rst (whenSome_rst h)

/-- Most requests that only ACTIVE decides read one operand under the geometry. -/
theorem whenActive_whenSome_rst {α : Type} {o : Geometry → Option α} {f : Geometry → α → State} (h : ∀ g a, (f g a).rst = s.rst) :
    (s.whenActive fun g => s.whenSome (o g) (f g)).rst = s.rst := whenActive_rst fun g => whenSome_rst (h g)

variable (s)

theorem decideTableFind_rst (r b : Byte) (row : RowField) : (s.decideTableFind r b row).rst = s.rst :=
  whenActive_whenSome_rst fun _ _ => by split <;> simp

theorem decideTestBegin_rst (r b k : Byte) : (s.decideTestBegin r b k).rst = s.rst :=
  whenActive_whenSome_rst fun _ _ => by split <;> simp

theorem decideTestEnd_rst (r b k v : Byte) : (s.decideTestEnd r b k v).rst = s.rst :=
  whenActive_whenSome_rst fun _ _ => by split <;> simp

theorem decideSlotGrade_rst (r b k v : Byte) : (s.decideSlotGrade r b k v).rst = s.rst :=
  whenActive_whenSome_rst fun _ _ => by split <;> simp

theorem answerLaunch_rst {l : Launch} (h : ∀ c t, l = .launched c t → t.rst = s.rst) : (s.answerLaunch l).rst = s.rst := by
  unfold answerLaunch; split
  · simpa using h _ _ rfl
  · simp

theorem decideRepair_rst (r b : Byte) (row : RowField) : (s.decideRepair r b row).rst = s.rst :=
  whenActive_whenSome_rst fun _ _ => s.answerLaunch_rst fun _ _ => launchFirst_rst

theorem decideMove_rst (x : Byte) : (s.decideMove x).rst = s.rst :=
  whenActive_whenSome_rst fun _ _ => s.answerLaunch_rst fun _ _ => launchMove_rst

theorem decideCancel_rst (x : Byte) : (s.decideCancel x).rst = s.rst :=
  whenActive_whenSome_rst fun _ _ => by split <;> simp

theorem decideWatchRead_rst (p : Byte) : (s.decideWatchRead p).rst = s.rst :=
  whenLoaded_whenSome_rst fun _ => by split <;> simp

theorem decideWatchClear_rst (r b : Byte) (row : RowField) (x : Byte) : (s.decideWatchClear r b row x).rst = s.rst :=
  whenActive_whenSome_rst fun _ _ => by
    split
    · simp
    · split <;> simp

theorem decideProfileWrite_rst (f : Byte) (v : BitVec 16) : (s.decideProfileWrite f v).rst = s.rst :=
  whenLoaded_whenSome_rst fun _ => by split <;> simp [setEditProfile]

theorem decideWarmReset_rst : s.decideWarmReset.rst = s.rst := whenLoaded_rst (s.answer_rst (st := .ok) (p := .none))

theorem warmMigration_rst : s.warmMigration.rst = s.rst := by
  unfold warmMigration; dsimp only; split <;> simp

theorem warmLink_rst : s.warmLink.rst = s.rst := by simp [warmLink]

/-- R191: the taking of a part leaves of the store what the part's effect leaves. -/
theorem takeWarmPart_rst (p : WarmPart) {f : State → State} (h : (f s).rst = s.rst) : (s.takeWarmPart p f).rst = s.rst := by
  unfold takeWarmPart; split
  · exact h
  · rfl

end State

/-! ## The command path -/

theorem State.rst_ofNext {u : State} (h : (.next u : Host.Outcome State Fault Refusal) = .next t) (k : u.rst = s.rst) :
    t.rst = s.rst := Host.Outcome.next.inj h ▸ k

open State

/-- A command of the channel passes through, or is forwarded with its reports and closes. -/
theorem exec_channelCommand_rst (x : ChannelCommand) (h : exec x.instr s = .next t) : t.rst = s.rst := by
  cases x with
  | read => exact rst_ofNext h (s.passThrough_rst _)
  | other => exact rst_ofNext h (s.passThrough_rst _)
  | activate =>
    refine rst_ofNext h ?_
    split
    · simp
    · dsimp only; split <;> simp
  | _ =>
    refine rst_ofNext h ?_
    split <;> simp

theorem execChannelReset_rst (h : execChannelReset s = .next t) : t.rst = s.rst := by
  refine rst_ofNext h ?_
  split
  · rfl
  · split
    · split <;> rfl
    · rfl

/-! ## Reports, messages and timers -/

theorem execChannelResetMigration_rst (h : execChannelResetMigration s = .next t) : t.rst = s.rst := by
  refine rst_ofNext h ?_
  split <;> simp

theorem execChannelResetTable_rst (h : execChannelResetTable s = .next t) : t.rst = s.rst := by
  refine rst_ofNext h ?_
  split <;> simp

theorem execCloseReportTable_rst (h : execCloseReportTable s = .next t) : t.rst = s.rst := by
  refine rst_ofNext h ?_
  split <;> simp

theorem execInboundFrame_rst {bytes : List Byte} (h : execInboundFrame bytes s = .next t) : t.rst = s.rst := by
  refine rst_ofNext h ?_
  split
  · rfl
  · split <;> simp

theorem execTransmitBegin_rst (h : execTransmitBegin s = .next t) : t.rst = s.rst := by
  refine rst_ofNext h ?_
  split <;> simp

theorem execRetryTimerExpiry_rst (h : execRetryTimerExpiry s = .next t) : t.rst = s.rst := by
  refine rst_ofNext h ?_
  split <;> simp

theorem execDecayBoundary_rst (h : execDecayBoundary s = .next t) : t.rst = s.rst := by
  refine rst_ofNext h ?_
  split <;> simp

theorem execRequestFrame_rst {bytes : List Byte} (h : execRequestFrame bytes s = .next t) : t.rst = s.rst := by
  refine rst_ofNext h ?_
  split <;> simp

/-! ## Every command -/

/-- The commands that may change the Repair Store: the power events, the end of the load and CONFIGURE, the events of the stage and
of the burn engine, an error note, RELEASE, the store's own requests, and its part of a warm reset. -/
def changesStore : Instr → Bool
  | .powerOn => true
  | .powerOnResetAssert => true
  | .loadComplete => true
  | .configure _ _ => true
  | .errorNote _ => true
  | .probationTimerExpiry => true
  | .stageExpired => true
  | .burnComplete _ => true
  | .revokeComplete _ => true
  | .burnGeometryComplete _ => true
  | .release _ => true
  | .stage _ => true
  | .burn => true
  | .revoke _ => true
  | .burnGeometry => true
  | .lockStore => true
  | .warmResetStore => true
  | _ => false

/-- Every other command leaves the Repair Store as it is. -/
theorem exec_keepsStore {c : Instr} (other : changesStore c = false) (h : exec c s = .next t) : t.rst = s.rst := by
  cases c with
  | powerOn => cases other
  | powerOnResetAssert => cases other
  | loadComplete => cases other
  | configure => cases other
  | errorNote => cases other
  | probationTimerExpiry => cases other
  | stageExpired => cases other
  | burnComplete => cases other
  | revokeComplete => cases other
  | burnGeometryComplete => cases other
  | release => cases other
  | stage => cases other
  | burn => cases other
  | revoke => cases other
  | burnGeometry => cases other
  | lockStore => cases other
  | warmResetStore => cases other
  -- the command path
  | activate r b row => exact exec_channelCommand_rst (.activate r b row) h
  | read r b col => exact exec_channelCommand_rst (.read r b col) h
  | write r b col => exact exec_channelCommand_rst (.write r b col) h
  | readAp r b col => exact exec_channelCommand_rst (.readAp r b col) h
  | writeAp r b col => exact exec_channelCommand_rst (.writeAp r b col) h
  | precharge r b => exact exec_channelCommand_rst (.precharge r b) h
  | prechargeAll r => exact exec_channelCommand_rst (.prechargeAll r) h
  | refresh r => exact exec_channelCommand_rst (.refresh r) h
  | otherCommand code => exact exec_channelCommand_rst (.other code) h
  | channelReset => exact execChannelReset_rst h
  | channelResetDeassert => exact rst_ofNext h rfl
  -- reports
  | channelResetMigration => exact execChannelResetMigration_rst h
  | channelResetTable => exact execChannelResetTable_rst h
  | sourceWriteReport => exact rst_ofNext h (s.takeHeadIf_rst _)
  | destWriteReport => exact rst_ofNext h (s.takeHeadIf_rst _)
  | closeReportMigration => exact rst_ofNext h (s.takeHeadIf_rst _)
  | closeReportTable => exact execCloseReportTable_rst h
  -- the link
  | inboundFrame => exact execInboundFrame_rst h
  | badFrame => exact rst_ofNext h s.badFrame_rst
  | copyAccept => exact rst_ofNext h (s.takeReply_rst _)
  | copyRefuse => exact rst_ofNext h (s.takeReply_rst _)
  | copyDone => exact rst_ofNext h (s.takeReply_rst _)
  | fenceAckSet => exact rst_ofNext h (s.takeReply_rst _)
  | fenceAckRelease => exact rst_ofNext h (s.takeReply_rst _)
  | hello => exact rst_ofNext h (s.receive_rst _)
  | helloAck => exact rst_ofNext h (s.receive_rst _)
  | transmitBegin => exact execTransmitBegin_rst h
  -- timers
  | retryTimerExpiry => exact execRetryTimerExpiry_rst h
  | offerTimerExpiry => exact rst_ofNext h (s.expire_rst ..)
  | roundTimerExpiry => exact rst_ofNext h (s.expire_rst ..)
  | armTimerExpiry => exact rst_ofNext h (s.expire_rst ..)
  | fenceTimerExpiry => exact rst_ofNext h (s.expire_rst ..)
  | closingFenceTimerExpiry => exact rst_ofNext h (s.closingExpiry_rst _)
  | decayBoundary => exact execDecayBoundary_rst h
  -- the Policy Unit
  | retryPassStep => exact rst_ofNext h s.passStep_rst
  | nominationTake => exact rst_ofNext h s.takeNomination_rst
  -- requests
  | requestFrame => exact execRequestFrame_rst h
  | tableRead => exact rst_ofNext h (takeRequest_rst fun _ => whenLoaded_whenSome_rst fun _ => answer_rst ..)
  | tableFind => exact rst_ofNext h (takeRequest_rst (decideTableFind_rst · _ _ _))
  | slotRead => exact rst_ofNext h (takeRequest_rst fun _ => whenActive_whenSome_rst fun _ _ => answer_rst ..)
  | slotTestBegin => exact rst_ofNext h (takeRequest_rst (decideTestBegin_rst · _ _ _))
  | slotTestEnd => exact rst_ofNext h (takeRequest_rst (decideTestEnd_rst · _ _ _ _))
  | slotGrade => exact rst_ofNext h (takeRequest_rst (decideSlotGrade_rst · _ _ _ _))
  | contextRead => exact rst_ofNext h (takeRequest_rst fun _ => whenLoaded_whenSome_rst fun _ => answer_rst ..)
  | repair => exact rst_ofNext h (takeRequest_rst (decideRepair_rst · _ _ _))
  | move => exact rst_ofNext h (takeRequest_rst (decideMove_rst · _))
  | cancel => exact rst_ofNext h (takeRequest_rst (decideCancel_rst · _))
  | watchRead => exact rst_ofNext h (takeRequest_rst (decideWatchRead_rst · _))
  | watchClear => exact rst_ofNext h (takeRequest_rst (decideWatchClear_rst · _ _ _ _))
  | profileRead => exact rst_ofNext h (takeRequest_rst fun _ => whenLoaded_whenSome_rst fun _ => answer_rst ..)
  | profileEditSelect => exact rst_ofNext h (takeRequest_rst fun _ => whenLoaded_whenSome_rst fun _ => answer_rst ..)
  | profileWrite => exact rst_ofNext h (takeRequest_rst (decideProfileWrite_rst · _ _))
  | profileRunSelect => exact rst_ofNext h (takeRequest_rst fun _ => whenLoaded_whenSome_rst fun _ => answer_rst ..)
  | storeRead => exact rst_ofNext h (takeRequest_rst fun _ => whenLoaded_whenSome_rst fun _ => answer_rst ..)
  | storeStatus => exact rst_ofNext h (takeRequest_rst fun _ => whenLoaded_rst (answer_rst ..))
  | conditionRead => exact rst_ofNext h (takeRequest_rst fun _ => whenLoaded_rst (answer_rst ..))
  | conditionClear => exact rst_ofNext h (takeRequest_rst fun _ => whenLoaded_whenSome_rst fun _ => answer_rst ..)
  | alertMask => exact rst_ofNext h (takeRequest_rst fun _ => whenLoaded_whenSome_rst fun _ => answer_rst ..)
  | warmReset => exact rst_ofNext h (takeRequest_rst decideWarmReset_rst)
  -- the parts of a warm reset
  | warmResetMigration => exact rst_ofNext h (s.takeWarmPart_rst _ s.warmMigration_rst)
  | warmResetLink => exact rst_ofNext h (s.takeWarmPart_rst _ s.warmLink_rst)
  | warmResetWatch => exact rst_ofNext h (s.takeWarmPart_rst _ rfl)
  | warmResetSlots => exact rst_ofNext h (s.takeWarmPart_rst _ rfl)
  | warmResetConditions => exact rst_ofNext h (s.takeWarmPart_rst _ rfl)

end Sys2Proof.Machine
end

section
/-!
The records that a stage or an operation names (R158, R162) through every step. The commands that leave the Repair Store alone keep
the law, and so does one that ends a stage or goes on with it. A stage begins on a BLANK record, and each operation by the check of
its request (R159, R163, R165, R166). With the completion of an operation the engine is IDLE; no stage names the record of a revoke,
which is WRITTEN.
-/

namespace Sys2Proof.Machine

variable {s t : State}

/-- The record that a stage in PROBATION or READY reserves (R158). -/
def Stage.reserved : Stage → Option RecIx
  | .probation _ k _ _ => some k
  | .ready _ k _ => some k
  | _ => none

/-- What an operation in flight has of the cells it is to program (R162). -/
def State.allows (s : State) : Operation → Prop
  | .burn k _ _ _ => s.storeRecord k = .blank
  | .revoke k => ∃ o n, s.storeRecord k = .written o n
  | .geometry _ => s.rst.geometryCells.read = .blank

/-- The law in two parts: the record reserved, and the operation in flight. -/
theorem State.storeSound_iff : s.StoreSound ↔
    (∀ k, s.rst.stage.reserved = some k → s.storeRecord k = .blank) ∧ ∀ x, s.rst.operation = some x → s.allows x := by
  constructor
  · rintro ⟨probation, ready, burn, revoke, geometry⟩
    refine ⟨fun k hk => ?_, fun x hx => ?_⟩
    · cases stage : s.rst.stage with
      | probation i k' p y =>
        rw [stage] at hk
        exact Option.some.inj hk ▸ probation i k' p y stage
      | ready i k' y =>
        rw [stage] at hk
        exact Option.some.inj hk ▸ ready i k' y stage
      | empty => rw [stage] at hk; cases hk
      | committed => rw [stage] at hk; cases hk
    · cases x with
      | burn k i o n => exact burn k i o n hx
      | revoke k => exact revoke k hx
      | geometry g => exact geometry g hx
  · rintro ⟨reserved, operation⟩
    exact ⟨fun i k p y stage => reserved k (by rw [stage]; rfl), fun i k y stage => reserved k (by rw [stage]; rfl),
      fun k i o n => operation (.burn k i o n), fun k => operation (.revoke k), fun g => operation (.geometry g)⟩

theorem State.storeRecord_of_cells (h : t.rst.cells = s.rst.cells) (k : RecIx) : t.storeRecord k = s.storeRecord k := by
  unfold State.storeRecord; rw [h]

/-- From `s` to `t` nothing changes in the Repair Store but the lock, the load results and the stage, and `t` reserves a record only
where `s` does. -/
structure State.StoreGoesOn (s t : State) : Prop where
  cells : t.rst.cells = s.rst.cells
  geometryCells : t.rst.geometryCells = s.rst.geometryCells
  operation : t.rst.operation = s.rst.operation
  reserved : ∀ k, t.rst.stage.reserved = some k → s.rst.stage.reserved = some k

namespace State.StoreGoesOn

theorem ofRst (h : t.rst = s.rst) : s.StoreGoesOn t := ⟨by rw [h], by rw [h], by rw [h], fun k hk => by rwa [h] at hk⟩

theorem trans {u : State} (a : s.StoreGoesOn t) (b : t.StoreGoesOn u) : s.StoreGoesOn u :=
  ⟨b.cells.trans a.cells, b.geometryCells.trans a.geometryCells, b.operation.trans a.operation,
    fun k hk => a.reserved k (b.reserved k hk)⟩

theorem after {u : State} (b : t.StoreGoesOn u) (h : t.rst = s.rst) : s.StoreGoesOn u := (ofRst h).trans b

variable (s)

theorem dropStage (i : EntryIx) : s.StoreGoesOn (s.dropStage i) := ⟨rfl, rfl, rfl, nofun⟩

theorem setLock : s.StoreGoesOn s.setLock := ⟨rfl, rfl, rfl, fun _ h => h⟩

theorem cancelStage : s.StoreGoesOn s.cancelStage := by
  unfold State.cancelStage; split
  · exact dropStage ..
  · exact ofRst rfl

theorem cancelStageFor (i : EntryIx) : s.StoreGoesOn (s.cancelStageFor i) := by
  unfold State.cancelStageFor; split
  · exact dropStage ..
  · exact ofRst rfl

theorem stageExpiry : s.StoreGoesOn s.stageExpiry := by
  unfold State.stageExpiry; split
  · exact ⟨rfl, rfl, rfl, nofun⟩
  · exact ofRst rfl

/-- R160: the stage keeps its record when it is proven. -/
theorem proven : s.StoreGoesOn (s.setStage s.rst.stage.proven) := by
  refine ⟨rfl, rfl, rfl, fun k hk => ?_⟩
  change s.rst.stage.proven.reserved = some k at hk
  cases h : s.rst.stage <;> rw [h] at hk <;> exact hk

theorem tick : s.StoreGoesOn s.tick := by
  unfold State.tick; split
  · exact ofRst rfl
  · refine ⟨rfl, rfl, rfl, fun k hk => ?_⟩
    change s.rst.stage.tick.reserved = some k at hk
    cases h : s.rst.stage <;> rw [h] at hk <;> exact hk

/-! ## Error notes -/

/-- R126: a note may cancel the stage. -/
theorem noteOnStage (i : EntryIx) : s.StoreGoesOn (s.noteOnStage i) := by
  unfold State.noteOnStage; split
  · exact ⟨rfl, rfl, rfl, nofun⟩
  · exact ofRst rfl

theorem dataNote (o : Origin) (cls : NoteClass) (rep : Byte) : s.StoreGoesOn (s.dataNote o cls rep) := by
  unfold State.dataNote; dsimp only; split
  · exact ofRst (by simp)
  · exact (noteOnStage ..).trans (ofRst (State.scoreNote_rst ..))

theorem takeNote (n : ErrorNote) : s.StoreGoesOn (s.takeNote n) := by
  unfold State.takeNote; split
  · exact ofRst rfl
  · split
    · split
      · split
        · exact dataNote ..
        · exact ofRst (by simp)
      · exact ofRst rfl
    · exact ofRst rfl

theorem takePassedNote (n : ErrorNote) : s.StoreGoesOn (s.takePassedNote n) := by
  unfold State.takePassedNote; split
  · split
    · exact (takeNote ..).after rfl
    · exact ofRst rfl
  · exact ofRst rfl

variable {s}

theorem execErrorNote {n : ErrorNote} (h : execErrorNote n s = .next t) : s.StoreGoesOn t := by
  refine Host.Outcome.next.inj h ▸ ?_
  split
  · exact ofRst rfl
  · split
    · exact takePassedNote ..
    · split
      · exact ofRst (by simp)
      · exact (takePassedNote ..).after (s.receive_rst _)

/-! ## RELEASE and LOCK_STORE -/

theorem whenLoaded (h : s.StoreGoesOn t) : s.StoreGoesOn (s.whenLoaded t) := by
  unfold State.whenLoaded; split
  · exact ofRst (by simp)
  · exact h

theorem whenActive {f : Geometry → State} (h : ∀ g, s.StoreGoesOn (f g)) : s.StoreGoesOn (s.whenActive f) := by
  unfold State.whenActive; split
  · exact h _
  · exact ofRst (by simp)

theorem whenSome {α : Type} {o : Option α} {f : α → State} (h : ∀ a, s.StoreGoesOn (f a)) : s.StoreGoesOn (s.whenSome o f) := by
  unfold State.whenSome; split
  · exact h _
  · exact ofRst (by simp)

variable (s)

theorem release (g : Geometry) (i : EntryIx) (o : Origin) (k : SlotNo) (m : Nat) : s.StoreGoesOn (s.release g i o k m) := by
  unfold State.release; dsimp only; split
  · exact (cancelStageFor s i).trans (ofRst (State.answer_rst ..))
  · exact (cancelStageFor s i).trans (ofRst (State.answer_rst ..))

theorem decideRelease (x : Byte) : s.StoreGoesOn (s.decideRelease x) :=
  whenActive fun _ => whenSome fun _ => by
    split
    · exact ofRst (by simp)
    · split
      · exact ofRst (by simp)
      · exact release ..
    · exact ofRst (by simp)

theorem decideLockStore : s.StoreGoesOn s.decideLockStore :=
  whenLoaded (((setLock s).trans (cancelStage _)).trans (ofRst (State.answer_rst ..)))

end State.StoreGoesOn

/-! ## The load (R156) -/

/-- The load writes no more of the store than its results. -/
theorem loadRecord_rst (g : Geometry) (x : Loading) (k : RecIx) :
    (loadRecord g x k).state.rst = { x.state.rst with loadResults := (loadRecord g x k).state.rst.loadResults } := by
  unfold loadRecord
  split
  · rfl
  · rfl
  · rfl
  · split
    · split <;> rfl
    · rfl

theorem State.load_rst (s : State) (g : Geometry) :
    (s.load g).state.rst = { s.rst with loadResults := (s.load g).state.rst.loadResults } :=
  @State.load_induction (fun x => x.state.rst = { s.rst with loadResults := x.state.rst.loadResults }) s g rfl
    fun x k hx => by rw [loadRecord_rst, hx]

theorem State.enterActive_rst (s : State) (g : Geometry) : (s.enterActive g).rst = (s.load g).state.rst := by
  unfold State.enterActive
  generalize (s.load g).state = u
  rw [State.applyPendingRun_eq]
  rfl

/-- What the entry to a mode leaves of the store: all but the load results. -/
structure State.StoreLoaded (s t : State) : Prop where
  rst : t.rst = { s.rst with loadResults := t.rst.loadResults }

namespace State.StoreLoaded

theorem ofRst (h : t.rst = s.rst) : s.StoreLoaded t := ⟨by rw [h]⟩

theorem enterActive (s : State) (g : Geometry) : s.StoreLoaded (s.enterActive g) := ⟨by rw [s.enterActive_rst]; exact s.load_rst g⟩

theorem afterRead (s : State) : s.StoreLoaded s.afterRead := by
  unfold State.afterRead; split
  · exact enterActive ..
  · exact ofRst rfl
  · exact ofRst rfl

theorem decideConfigure (s : State) (r w : Byte) : s.StoreLoaded (s.decideConfigure r w) := by
  unfold State.decideConfigure; split
  · exact ofRst (by simp)
  · exact ofRst (by simp)
  · unfold State.whenSome; split
    · refine ⟨?_⟩
      unfold State.configure
      rw [State.answer_rst]
      exact (enterActive s _).rst
    · exact ofRst (by simp)

theorem execLoadComplete (h : execLoadComplete s = .next t) : s.StoreLoaded t := by
  refine Host.Outcome.next.inj h ▸ ?_
  split
  · exact ofRst rfl
  · exact ⟨(afterRead s).rst⟩

theorem exec_configure {r w : Byte} (h : exec (.configure r w) s = .next t) : s.StoreLoaded t := by
  refine Host.Outcome.next.inj h ▸ ?_
  refine State.takeRequest_induction (P := s.StoreLoaded) (ofRst rfl) (ofRst (by simp)) fun u hu => ⟨?_⟩
  rw [(decideConfigure u r w).rst, hu.rst]

theorem goesOn (a : s.StoreLoaded t) : s.StoreGoesOn t := by
  refine ⟨?_, ?_, ?_, ?_⟩ <;> rw [a.rst]
  exact fun _ h => h

end State.StoreLoaded

/-! ## The law -/

namespace State.StoreSound

theorem ofGoesOn (h : s.StoreSound) (a : s.StoreGoesOn t) : t.StoreSound := by
  obtain ⟨reserved, operation⟩ := State.storeSound_iff.1 h
  refine State.storeSound_iff.2 ⟨fun k hk => ?_, fun x hx => ?_⟩
  · rw [State.storeRecord_of_cells a.cells]
    exact reserved k (a.reserved k hk)
  · have allowed := operation x (a.operation ▸ hx)
    cases x with
    | burn k => exact (State.storeRecord_of_cells a.cells k).trans allowed
    | revoke k => simpa [State.allows, State.storeRecord_of_cells a.cells k] using allowed
    | geometry => exact (congrArg _ a.geometryCells).trans allowed

theorem ofRst (h : s.StoreSound) (same : t.rst = s.rst) : t.StoreSound := h.ofGoesOn (.ofRst same)

/-- With nothing reserved and no operation in flight there is nothing to hold. -/
theorem ofIdle (stage : t.rst.stage = .empty) (operation : t.rst.operation = none) : t.StoreSound :=
  State.storeSound_iff.2 ⟨by rw [stage]; nofun, by rw [operation]; nofun⟩

theorem refuse (h : s.StoreSound) (st : Status) : (s.refuse st).StoreSound := h.ofRst (State.refuse_rst st)

/-! ### Requests that begin a stage or an operation -/

theorem whenActive (h : s.StoreSound) {f : Geometry → State} (hf : ∀ g, (f g).StoreSound) : (s.whenActive f).StoreSound := by
  unfold State.whenActive; split
  · exact hf _
  · exact h.refuse _

theorem whenSome (h : s.StoreSound) {α : Type} {o : Option α} {f : α → State} (hf : ∀ a, (f a).StoreSound) :
    (s.whenSome o f).StoreSound := by
  unfold State.whenSome; split
  · exact hf _
  · exact h.refuse _

theorem whenEngineFree (h : s.StoreSound) (ht : s.rst.operation = none → t.StoreSound) : (s.whenEngineFree t).StoreSound := by
  unfold State.whenEngineFree; split
  · exact h.refuse _
  · split
    · exact h.refuse _
    · exact ht (by simpa using ‹¬s.rst.operation.isSome = true›)

/-- R159: the stage reserves a BLANK record. -/
theorem stageEntry (h : s.StoreSound) (i : EntryIx) : (s.stageEntry i).StoreSound := by
  unfold State.stageEntry; split
  · exact h.refuse _
  · split
    · exact h.refuse _
    · split
      · next r lowest =>
        obtain ⟨-, operation⟩ := State.storeSound_iff.1 h
        have blank : s.storeRecord r = .blank := by
          simpa using ((find?_finRange_eq_some _ _).1 lowest).1
        have staged : (s.setStage (.probation i r Config.probationLength Config.expiryLength)).StoreSound :=
          State.storeSound_iff.2 ⟨fun k hk => Option.some.inj hk ▸ blank, operation⟩
        exact staged.ofRst (State.answer_rst ..)
      · exact h.refuse _
  · exact h.refuse _

theorem decideStage (h : s.StoreSound) (x : Byte) : (s.decideStage x).StoreSound :=
  h.whenActive fun _ => h.whenSome fun _ => h.whenEngineFree fun _ => by
    split
    · exact h.stageEntry _
    · exact h.refuse _

/-- R162: an operation begins on cells that allow it. -/
theorem beginOperation (h : s.StoreSound) {x : Operation} (allowed : s.allows x) : (s.beginOperation x).StoreSound := by
  obtain ⟨reserved, -⟩ := State.storeSound_iff.1 h
  have begun : { s with rst := { s.rst with operation := some x } }.StoreSound :=
    State.storeSound_iff.2 ⟨reserved, fun y hy => Option.some.inj hy ▸ by cases x <;> exact allowed⟩
  exact begun.ofRst (State.answer_rst ..)

/-- R163: the burn begins on the record that its stage has reserved. -/
theorem decideBurn (h : s.StoreSound) : s.decideBurn.StoreSound :=
  h.whenActive fun _ => h.whenEngineFree fun _ => by
    split
    · next i r y stage =>
      split
      · obtain ⟨reserved, operation⟩ := State.storeSound_iff.1 h
        have committed : (s.setStage (.committed i r)).StoreSound := State.storeSound_iff.2 ⟨nofun, operation⟩
        have blank : s.storeRecord r = .blank := reserved r (by rw [stage]; rfl)
        exact committed.beginOperation blank
      · exact h.refuse _
    all_goals exact h.refuse _

theorem decideRevoke (h : s.StoreSound) (x : Byte) : (s.decideRevoke x).StoreSound :=
  h.whenActive fun _ => h.whenSome fun _ => h.whenEngineFree fun _ => by
    split
    · next written => exact h.beginOperation ⟨_, _, written⟩
    · exact h.refuse _

theorem decideBurnGeometry (h : s.StoreSound) : s.decideBurnGeometry.StoreSound := by
  unfold State.decideBurnGeometry State.whenLoaded; split
  · exact h.refuse _
  · refine h.whenEngineFree fun _ => ?_
    split
    · split
      · next blank => exact h.beginOperation blank
      · exact h.refuse _
    · exact h.refuse _

theorem takeRequest (h : s.StoreSound) {q : Request} {f : State → State} (hf : ∀ u : State, u.StoreSound → (f u).StoreSound) :
    (s.takeRequest q f).StoreSound := State.takeRequest_induction h (h.ofRst (State.acceptRequest_rst ..)) hf

/-! ### Completions -/

/-- R164: a burn ends its stage with its operation. -/
theorem burnCompletes (h : s.StoreSound) (v : Bool) : (s.burnCompletes v).StoreSound := by
  unfold State.burnCompletes; split
  · unfold State.finishBurn; split <;> exact ofIdle rfl rfl
  · exact h

/-- R165: no stage names the WRITTEN record of a revoke, whose cells alone change. -/
theorem finishRevoke (h : s.StoreSound) {k : RecIx} (operation : s.rst.operation = some (.revoke k)) (v : Bool) :
    (s.finishRevoke k v).StoreSound := by
  obtain ⟨reserved, allowed⟩ := State.storeSound_iff.1 h
  obtain ⟨o, n, written⟩ := allowed _ operation
  have apart (k') (hk : s.rst.stage.reserved = some k') : k' ≠ k := by
    rintro rfl
    rw [reserved k' hk] at written
    cases written
  have others (c : RecordCells) (k') (hk : s.rst.stage.reserved = some k') : (s.setCells k c).storeRecord k' = .blank := by
    rw [State.setCells_storeRecord, if_neg (apart k' hk), reserved k' hk]
  unfold State.finishRevoke; split
  · exact State.storeSound_iff.2 ⟨others _, nofun⟩
  · exact State.storeSound_iff.2 ⟨others _, nofun⟩

theorem revokeCompletes (h : s.StoreSound) (v : Bool) : (s.revokeCompletes v).StoreSound := by
  unfold State.revokeCompletes; split
  · next operation => exact h.finishRevoke operation v
  · exact h

/-- R166: a geometry burn changes no record. -/
theorem geometryCompletes (h : s.StoreSound) (v : Bool) : (s.geometryCompletes v).StoreSound := by
  obtain ⟨reserved, -⟩ := State.storeSound_iff.1 h
  unfold State.geometryCompletes; split
  · unfold State.finishGeometry; split
    · exact State.storeSound_iff.2 ⟨reserved, nofun⟩
    · exact State.storeSound_iff.2 ⟨reserved, nofun⟩
  · exact h

end State.StoreSound

theorem exec_keepsStoreSound {c : Instr} (hs : s.StoreSound) (h : exec c s = .next t) : t.StoreSound := by
  by_cases other : changesStore c = false
  · exact hs.ofRst (exec_keepsStore other h)
  cases c with
  | powerOn => exact Host.Outcome.next.inj h ▸ .ofIdle rfl rfl
  | powerOnResetAssert => exact Host.Outcome.next.inj h ▸ .ofIdle rfl rfl
  | loadComplete => exact hs.ofGoesOn (State.StoreLoaded.execLoadComplete h).goesOn
  | configure => exact hs.ofGoesOn (State.StoreLoaded.exec_configure h).goesOn
  | errorNote => exact hs.ofGoesOn (.execErrorNote h)
  | probationTimerExpiry => exact Host.Outcome.next.inj h ▸ hs.ofGoesOn (.proven s)
  | stageExpired => exact Host.Outcome.next.inj h ▸ hs.ofGoesOn (.stageExpiry s)
  | burnComplete v => exact Host.Outcome.next.inj h ▸ hs.burnCompletes v
  | revokeComplete v => exact Host.Outcome.next.inj h ▸ hs.revokeCompletes v
  | burnGeometryComplete v => exact Host.Outcome.next.inj h ▸ hs.geometryCompletes v
  | release x => exact Host.Outcome.next.inj h ▸ hs.takeRequest fun u hu => hu.ofGoesOn (.decideRelease u x)
  | stage x => exact Host.Outcome.next.inj h ▸ hs.takeRequest fun _ hu => hu.decideStage x
  | burn => exact Host.Outcome.next.inj h ▸ hs.takeRequest fun _ hu => hu.decideBurn
  | revoke x => exact Host.Outcome.next.inj h ▸ hs.takeRequest fun _ hu => hu.decideRevoke x
  | burnGeometry => exact Host.Outcome.next.inj h ▸ hs.takeRequest fun _ hu => hu.decideBurnGeometry
  | lockStore => exact Host.Outcome.next.inj h ▸ hs.takeRequest fun u hu => hu.ofGoesOn (.decideLockStore u)
  | warmResetStore =>
    refine Host.Outcome.next.inj h ▸ ?_
    unfold State.takeWarmPart; split
    · exact hs.ofGoesOn ((State.StoreGoesOn.cancelStage s).trans (.ofRst rfl))
    · exact hs
  | _ => exact absurd rfl other

/-- Settles O10: a step is the passing of time or the command at the head of the queue. -/
theorem stepKeepsStoreSound : Obligations.StepKeepsStoreSound := by
  intro s t hs h
  unfold step at h
  split at h
  · exact Host.Outcome.next.inj h ▸ hs.ofGoesOn (.tick s)
  · next rest _ =>
    have queue : { s with pending := rest }.StoreSound := hs
    exact exec_keepsStoreSound queue h

end Sys2Proof.Machine
end

section
/-!
What the cells of the store keep: under the lock (R167), and from BLANK (R153). Every command but the power events and the completions
of the burn engine leaves the cells as they are.
-/

namespace Sys2Proof.Machine

variable {s t : State}

/-! ## The completions of the burn engine -/

theorem State.burnCompletes_of_idle (h : s.rst.operation = none) (v : Bool) : s.burnCompletes v = s := by
  rw [State.burnCompletes, h]
theorem State.revokeCompletes_of_idle (h : s.rst.operation = none) (v : Bool) : s.revokeCompletes v = s := by
  rw [State.revokeCompletes, h]
theorem State.geometryCompletes_of_idle (h : s.rst.operation = none) (v : Bool) : s.geometryCompletes v = s := by
  rw [State.geometryCompletes, h]

theorem State.burnSlot_rst (s : State) (i : EntryIx) (o : Origin) (n : SlotNo) : (s.burnSlot i o n).rst = s.rst := by
  unfold State.burnSlot; split <;> rfl

theorem State.burnCompletes_lock (s : State) (v : Bool) : (s.burnCompletes v).rst.lock = s.rst.lock := by
  have ended (u : State) (kind done) : ((u.setStage .empty).engineDone kind done).rst.lock = u.rst.lock := rfl
  unfold State.burnCompletes; split
  · unfold State.finishBurn; split
    · rw [ended, State.burnSlot_rst]
      rfl
    · rfl
  · rfl

theorem State.revokeCompletes_lock (s : State) (v : Bool) : (s.revokeCompletes v).rst.lock = s.rst.lock := by
  unfold State.revokeCompletes State.finishRevoke; split
  · split <;> rfl
  · rfl

theorem State.geometryCompletes_lock (s : State) (v : Bool) : (s.geometryCompletes v).rst.lock = s.rst.lock := by
  unfold State.geometryCompletes State.finishGeometry; split
  · split <;> rfl
  · rfl

/-! ## The lock (R167) -/

/-- What R167 asks of a command under the lock: `completes` says that it is the completion of an operation. -/
structure State.LockHeld (completes : Prop) (s t : State) : Prop where
  lock : t.rst.lock = true
  cells : ¬completes → t.rst.cells = s.rst.cells ∧ t.rst.geometryCells = s.rst.geometryCells
  idle : s.rst.operation = none →
    t.rst.operation = none ∧ t.rst.cells = s.rst.cells ∧ t.rst.geometryCells = s.rst.geometryCells

theorem State.StoreLoaded.lockHeld (a : s.StoreLoaded t) (locked : s.rst.lock = true) (p : Prop) : s.LockHeld p t := by
  have rst := a.rst
  have same : t.rst.cells = s.rst.cells ∧ t.rst.geometryCells = s.rst.geometryCells := by rw [rst]; exact ⟨rfl, rfl⟩
  exact ⟨by rw [rst]; exact locked, fun _ => same, fun idle => ⟨by rw [rst]; exact idle, same⟩⟩

theorem Kept.lockHeld (k : Kept s t) (locked : s.rst.lock = true) (p : Prop) : s.LockHeld p t where
  lock := k.lock locked
  cells _ := ⟨k.cells, k.geometryCells⟩
  idle none := by
    rcases k.operation with same | ⟨unlocked, -⟩
    · exact ⟨same.trans none, k.cells, k.geometryCells⟩
    · rw [locked] at unlocked; cases unlocked

/-- A completion keeps the lock, and with no operation in flight it changes nothing. -/
theorem State.lockHeld_of_completion (lock : t.rst.lock = s.rst.lock) (locked : s.rst.lock = true)
    (idle : s.rst.operation = none → t = s) {p : Prop} (completes : p) : s.LockHeld p t :=
  ⟨lock.trans locked, fun h => absurd completes h, fun none => by rw [idle none]; exact ⟨none, rfl, rfl⟩⟩

/-- The commands that complete an operation (R164 to R166). -/
def completesOperation : Instr → Bool
  | .burnComplete _ => true
  | .revokeComplete _ => true
  | .burnGeometryComplete _ => true
  | _ => false

theorem exec_lockHeld {c : Instr} (notOn : c ≠ .powerOn) (notAssert : c ≠ .powerOnResetAssert) (locked : s.rst.lock = true)
    (h : exec c s = .next t) : s.LockHeld (completesOperation c = true) t := by
  by_cases other : changesModeOrCells c = false
  · exact (exec_kept other h).lockHeld locked _
  cases c with
  | powerOn => exact absurd rfl notOn
  | powerOnResetAssert => exact absurd rfl notAssert
  | loadComplete => exact (State.StoreLoaded.execLoadComplete h).lockHeld locked _
  | configure => exact (State.StoreLoaded.exec_configure h).lockHeld locked _
  | burnComplete v =>
    exact Host.Outcome.next.inj h ▸
      State.lockHeld_of_completion (s.burnCompletes_lock v) locked (State.burnCompletes_of_idle · v) rfl
  | revokeComplete v =>
    exact Host.Outcome.next.inj h ▸
      State.lockHeld_of_completion (s.revokeCompletes_lock v) locked (State.revokeCompletes_of_idle · v) rfl
  | burnGeometryComplete v =>
    exact Host.Outcome.next.inj h ▸
      State.lockHeld_of_completion (s.geometryCompletes_lock v) locked (State.geometryCompletes_of_idle · v) rfl
  | _ => exact absurd rfl other

/-- Settles O13: no request begins an operation under the lock, and only a completion programs cells. -/
theorem lockHolds : Obligations.LockHolds := by
  intro c s t notOn notAssert locked h
  obtain ⟨lock, cells, idle⟩ := exec_lockHeld notOn notAssert locked h
  refine ⟨lock, fun other => cells fun completes => ?_, idle⟩
  cases c with
  | burnComplete v => exact (other v).1 rfl
  | revokeComplete v => exact (other v).2.1 rfl
  | burnGeometryComplete v => exact (other v).2.2 rfl
  | _ => cases completes

/-! ## BLANK records (R153) -/

theorem RecordCells.read_eq_blank (c : RecordCells) : c.read = .blank ↔ c = RecordCells.blank := by
  unfold RecordCells.read
  split
  · next h => exact iff_of_true rfl h
  · next h =>
    refine iff_of_false ?_ h
    split
    · split
      · nofun
      · split <;> nofun
    · nofun

/-- R196: what a WRITTEN record's cells are. -/
theorem RecordCells.read_eq_written {c : RecordCells} {o : Origin} {n : SlotNo} (h : c.read = .written o n) :
    c.complete = true ∧ c.revokeMark = 0 ∧ o = c.origin ∧ n = Fin.ofNat 16 c.slot.toNat := by
  unfold RecordCells.read at h
  split at h
  · cases h
  · split at h
    · next complete =>
      split at h
      · next unrevoked =>
        cases h
        exact ⟨complete, unrevoked, rfl, rfl⟩
      · split at h <;> cases h
    · cases h

theorem RecordCells.writeMark_of_complete {c : RecordCells} (h : c.complete = true) : c.writeMark = writeMarkSet := by
  simp only [RecordCells.complete, Bool.and_eq_true, beq_iff_eq] at h
  exact h.1.1.1.1

/-- R196: a complete image is not BLANK, whatever its revoke mark. -/
theorem RecordCells.ne_blank_of_complete {c : RecordCells} (h : c.complete = true) (m : Byte) :
    { c with revokeMark := m } ≠ RecordCells.blank := by
  intro blank
  have mark : c.writeMark = 0 := congrArg RecordCells.writeMark blank
  rw [RecordCells.writeMark_of_complete h] at mark
  exact absurd mark (by decide)

/-- From `s` to `t` no record returns to BLANK. -/
def State.KeepsRecords (s t : State) : Prop := ∀ k, s.storeRecord k ≠ .blank → t.storeRecord k ≠ .blank

namespace State.KeepsRecords

theorem ofCells (h : t.rst.cells = s.rst.cells) : s.KeepsRecords t := fun k hk => by rwa [State.storeRecord_of_cells h]

/-- R163: cells written to a BLANK record. -/
theorem ofBlank {k : RecIx} (blank : s.storeRecord k = .blank) {c : RecordCells} (h : t.rst.cells = (s.setCells k c).rst.cells) :
    s.KeepsRecords t := by
  intro k' used
  have other : k' ≠ k := fun same => used (same ▸ blank)
  rwa [State.storeRecord_of_cells h, State.setCells_storeRecord, if_neg other]

/-- R165: a revoke mark written to a WRITTEN record. -/
theorem ofWritten {k : RecIx} {o : Origin} {n : SlotNo} (written : s.storeRecord k = .written o n) {m : Byte}
    (h : t.rst.cells = (s.setCells k { s.rst.cells[k] with revokeMark := m }).rst.cells) : s.KeepsRecords t := by
  intro k' used
  rw [State.storeRecord_of_cells h, State.setCells_storeRecord]
  split
  · obtain ⟨complete, -⟩ := RecordCells.read_eq_written written
    exact mt (RecordCells.read_eq_blank _).1 (RecordCells.ne_blank_of_complete complete m)
  · exact used

end State.KeepsRecords

namespace State.StoreSound

/-- R164: a burn programs the record it has reserved. -/
theorem burnCompletes_keepsRecords (h : s.StoreSound) (v : Bool) : s.KeepsRecords (s.burnCompletes v) := by
  obtain ⟨-, allowed⟩ := State.storeSound_iff.1 h
  have ended (u : State) (kind done) : ((u.setStage .empty).engineDone kind done).rst.cells = u.rst.cells := rfl
  unfold State.burnCompletes; split
  · next k i o n operation =>
    have blank : s.storeRecord k = .blank := allowed _ operation
    unfold State.finishBurn; split
    · exact .ofBlank blank (by rw [ended, State.burnSlot_rst]; rfl)
    · exact .ofBlank blank rfl
  · exact .ofCells rfl

/-- R165: a revoke programs the revoke mark of a WRITTEN record. -/
theorem revokeCompletes_keepsRecords (h : s.StoreSound) (v : Bool) : s.KeepsRecords (s.revokeCompletes v) := by
  obtain ⟨-, allowed⟩ := State.storeSound_iff.1 h
  unfold State.revokeCompletes; split
  · next k operation =>
    obtain ⟨o, n, written⟩ := allowed _ operation
    unfold State.finishRevoke failedRevoke; split
    · exact .ofWritten written rfl
    · split
      · exact .ofWritten written rfl
      · exact .ofWritten written rfl
  · exact .ofCells rfl

theorem geometryCompletes_keepsRecords (s : State) (v : Bool) : s.KeepsRecords (s.geometryCompletes v) := by
  unfold State.geometryCompletes State.finishGeometry; split
  · split <;> exact .ofCells rfl
  · exact .ofCells rfl

/-- R196: power lost in an operation. -/
theorem cutShort_keepsRecords (h : s.StoreSound) : s.KeepsRecords s.cutShort := by
  obtain ⟨-, allowed⟩ := State.storeSound_iff.1 h
  unfold State.cutShort; split
  · exact .ofCells rfl
  · next k i o n operation =>
    have blank : s.storeRecord k = .blank := allowed _ operation
    exact .ofBlank blank rfl
  · next k operation =>
    obtain ⟨o, n, written⟩ := allowed _ operation
    exact .ofWritten written rfl
  · exact .ofCells rfl

end State.StoreSound

/-- R172: the power events keep the cells but for what an operation cut short has programmed. -/
theorem exec_powerOn_keepsRecords (hs : s.StoreSound) (h : exec .powerOn s = .next t) : s.KeepsRecords t := by
  refine Host.Outcome.next.inj h ▸ ?_
  split
  · exact .ofCells rfl
  · exact hs.cutShort_keepsRecords

/-- Settles O14: a burn programs a BLANK record and a revoke the mark of a WRITTEN one, whether they complete, fail or are cut short. -/
theorem recordsNeverReturnToBlank : Obligations.RecordsNeverReturnToBlank := by
  intro c s t hs h
  by_cases other : changesModeOrCells c = false
  · exact State.KeepsRecords.ofCells (exec_kept other h).cells
  cases c with
  | powerOn => exact exec_powerOn_keepsRecords hs h
  | powerOnResetAssert => exact Host.Outcome.next.inj h ▸ hs.cutShort_keepsRecords
  | loadComplete => exact State.KeepsRecords.ofCells (State.StoreLoaded.execLoadComplete h).goesOn.cells
  | configure => exact State.KeepsRecords.ofCells (State.StoreLoaded.exec_configure h).goesOn.cells
  | burnComplete v => exact Host.Outcome.next.inj h ▸ hs.burnCompletes_keepsRecords v
  | revokeComplete v => exact Host.Outcome.next.inj h ▸ hs.revokeCompletes_keepsRecords v
  | burnGeometryComplete v => exact Host.Outcome.next.inj h ▸ State.StoreSound.geometryCompletes_keepsRecords s v
  | _ => exact absurd rfl other

end Sys2Proof.Machine
end

section
/-!
The ends of a stage and of an operation (R158, R160, R164 to R166): how the images of section 11.5 read back (R196), and what each
timer and each completion changes.
-/

namespace Sys2Proof.Machine

variable {s t : State}

/-! ## How images read (R196) -/

/-- A complete image reads by its revoke mark. -/
theorem RecordCells.read_of_complete {c : RecordCells} (h : c.complete = true) (m : Byte) :
    ({ c with revokeMark := m } : RecordCells).read =
      if m = 0 then .written c.origin (Fin.ofNat 16 c.slot.toNat)
      else if m = revokeMarkSet then .revoked c.origin (Fin.ofNat 16 c.slot.toNat) else .torn := by
  unfold RecordCells.read
  rw [if_neg (RecordCells.ne_blank_of_complete h m)]
  exact if_pos h

section
variable {o : Origin} (n : SlotNo)

theorem uncheckedImage_rankBank (o : Origin) : (uncheckedImage o n).rankBank.toNat = o.rank.val * 16 + o.bank.val :=
  Nat.mod_eq_of_lt (by omega)

theorem uncheckedImage_row (h : o.row ≤ 131071) : (uncheckedImage o n).row.toNat = o.row := Nat.mod_eq_of_lt (by omega)

theorem uncheckedImage_slot (o : Origin) : (uncheckedImage o n).slot.toNat = n.val := Nat.mod_eq_of_lt (by omega)

theorem recordImage_complete (h : o.row ≤ 131071) : (recordImage o n).complete = true := by
  have rankBank : (recordImage o n).rankBank.toNat = o.rank.val * 16 + o.bank.val := uncheckedImage_rankBank n o
  have row : (recordImage o n).row.toNat = o.row := uncheckedImage_row n h
  have slot : (recordImage o n).slot.toNat = n.val := uncheckedImage_slot n o
  have mark : (recordImage o n).writeMark = writeMarkSet := rfl
  have check : (recordImage o n).check = (recordImage o n).computedCheck := rfl
  simp only [RecordCells.complete, Bool.and_eq_true, beq_iff_eq, decide_eq_true_eq]
  exact ⟨⟨⟨⟨mark, by omega⟩, by omega⟩, by omega⟩, check⟩

theorem recordImage_origin (h : o.row ≤ 131071) : (recordImage o n).origin = o := by
  obtain ⟨rank, bank, row⟩ := o
  have rankBank : (recordImage ⟨rank, bank, row⟩ n).rankBank.toNat = rank.val * 16 + bank.val := uncheckedImage_rankBank n _
  simp only [RecordCells.origin, rankBank, Origin.mk.injEq]
  refine ⟨Fin.ext ?_, Fin.ext ?_, uncheckedImage_row n h⟩
  · simp only [Fin.ofNat]; omega
  · simp only [Fin.ofNat]; omega

/-- R163: the image of a burn reads back as its repair. -/
theorem recordImage_read (h : o.row ≤ 131071) : (recordImage o n).read = .written o n := by
  have slot : Fin.ofNat 16 (recordImage o n).slot.toNat = n :=
    Fin.ext ((congrArg (· % 16) (uncheckedImage_slot n o)).trans (Nat.mod_eq_of_lt n.isLt))
  refine (RecordCells.read_of_complete (recordImage_complete n h) 0).trans ?_
  rw [if_pos rfl, recordImage_origin n h, slot]

end

theorem failedRecord_read (raw : RecordCells) : (failedRecord raw).read = .torn := by
  unfold failedRecord; split
  · assumption
  · decide

/-- R165: the revoke mark makes a WRITTEN record REVOKED. -/
theorem RecordCells.read_revoked {c : RecordCells} {o : Origin} {n : SlotNo} (h : c.read = .written o n) :
    ({ c with revokeMark := revokeMarkSet } : RecordCells).read = .revoked o n := by
  obtain ⟨complete, -, rfl, rfl⟩ := RecordCells.read_eq_written h
  rw [RecordCells.read_of_complete complete, if_neg (by decide), if_pos rfl]

theorem failedRevoke_read {c : RecordCells} {o : Origin} {n : SlotNo} (h : c.read = .written o n) (mark : Byte) :
    (failedRevoke c mark).read = .torn := by
  obtain ⟨complete, -⟩ := RecordCells.read_eq_written h
  unfold failedRevoke; split
  · rw [RecordCells.read_of_complete complete, if_neg (by decide), if_neg (by decide)]
  · next other =>
    obtain ⟨unset, other⟩ := not_or.1 other
    rw [RecordCells.read_of_complete complete, if_neg unset, if_neg other]

theorem geometryImage_read (g : Geometry) : (geometryImage g).read = .written g := by
  have used : geometryImage g ≠ GeometryCells.blank := fun blank =>
    absurd (congrArg GeometryCells.writeMark blank) (by change ¬ writeMarkSet = 0; decide)
  have back : geometryOf (geometryImage g).ranks (geometryImage g).w = some g := by
    obtain ⟨ranks, w⟩ := g
    cases ranks <;> cases w <;> rfl
  rw [GeometryCells.read, if_neg used, back]
  exact if_pos ⟨rfl, rfl⟩

theorem failedGeometry_read (raw : GeometryCells) : (failedGeometry raw).read = .torn := by
  unfold failedGeometry; split
  · assumption
  · decide

/-! ## The timers of the stage (R158, R160) -/

theorem exec_probationTimerExpiry_of_probation {i : EntryIx} {r : RecIx} {p x : Nat} (h : s.rst.stage = .probation i r p x) :
    exec .probationTimerExpiry s = .next (s.setStage (.ready i r (x - p))) := by
  change Host.Outcome.next (s.setStage s.rst.stage.proven) = _
  rw [h, Stage.proven]

theorem exec_probationTimerExpiry_of_other (h : ∀ i r p x, s.rst.stage ≠ .probation i r p x) :
    exec .probationTimerExpiry s = .next s := by
  have proven : s.rst.stage.proven = s.rst.stage := by
    cases stage : s.rst.stage with
    | probation i r p x => exact absurd stage (h i r p x)
    | _ => rfl
  change Host.Outcome.next (s.setStage s.rst.stage.proven) = _
  rw [proven]
  rfl

theorem exec_stageExpired_of_ready {i : EntryIx} {r : RecIx} {x m : Nat} {o : Origin} {k : SlotNo} {st : Option RecIx}
    (stage : s.rst.stage = .ready i r x) (live : s.entry i = .live o k m st) :
    exec .stageExpired s = .next (((s.setStage .empty).setEntry i (.live o k m none)).raise .stageExpired) := by
  have dropped : s.dropStage i = (s.setStage .empty).setEntry i (.live o k m none) := by
    rw [State.dropStage, live, Entry.unstaged]
  change Host.Outcome.next s.stageExpiry = _
  rw [State.stageExpiry, stage, ← dropped]

theorem exec_stageExpired_of_other (h : ∀ i r x, s.rst.stage ≠ .ready i r x) : exec .stageExpired s = .next s := by
  change Host.Outcome.next s.stageExpiry = _
  rw [State.stageExpiry]
  split
  · next i r x stage => exact absurd stage (h i r x)
  · rfl

/-! ## The completion of a burn (R164) -/

section
variable {k : RecIx} {i : EntryIx} {o : Origin} {n : SlotNo} {m : Nat} {st : Option RecIx}

/-- R164, R19, R36: the state after the burn of a LIVE repair that passed its verify. -/
def State.burnt (s : State) (k : RecIx) (i : EntryIx) (o : Origin) (n : SlotNo) (m : Nat) : State :=
  (((((s.setCells k (recordImage o n)).setLoadResult k (some (.loaded i))).setEntry i (.permanent o n m k)).setSlotState
    o.rank o.bank n (.permanent i)).setStage .empty).engineDone (.burn k) true

/-- R164: the state after the burn of a LIVE repair that failed its verify. -/
def State.unburnt (s : State) (k : RecIx) (i : EntryIx) (o : Origin) (n : SlotNo) (m : Nat) : State :=
  (((s.drawFree.setCells k (failedRecord (recordCellsOf (Config.failedBurnCells s.freeCount)))).setEntry i
    (.live o n m none)).setStage .empty).engineDone (.burn k) false

theorem State.finishBurn_verified (live : s.entry i = .live o n m st) (mapped : (s.slot o.rank o.bank n).state = .mapped i) :
    s.finishBurn k i o n true = s.burnt k i o n m := by
  have slot : ((((s.setCells k (recordImage o n)).setLoadResult k (some (.loaded i))).setEntry i
      (.permanent o n m k)).slot o.rank o.bank n).state = .mapped i := mapped
  rw [State.finishBurn, if_pos rfl, live, Entry.burned, State.burnSlot, slot, State.burnt]

theorem State.finishBurn_failed (live : s.entry i = .live o n m st) : s.finishBurn k i o n false = s.unburnt k i o n m := by
  rw [State.finishBurn, if_neg (by decide), live, Entry.unstaged, State.unburnt]

theorem exec_burnComplete (h : s.rst.operation = some (.burn k i o n)) (v : Bool) :
    exec (.burnComplete v) s = .next (s.finishBurn k i o n v) := by
  change Host.Outcome.next (s.burnCompletes v) = _
  rw [State.burnCompletes, h]

/-- The record that cells are written to reads as they do, and the others read as before. -/
theorem State.storeRecord_of_setCells {c : RecordCells} (h : t.rst.cells = (s.setCells k c).rst.cells) :
    t.storeRecord k = c.read ∧ ∀ k', k' ≠ k → t.storeRecord k' = s.storeRecord k' := by
  have records (k' : RecIx) : t.storeRecord k' = if k' = k then c.read else s.storeRecord k' := by
    rw [State.storeRecord_of_cells h, State.setCells_storeRecord]
  exact ⟨(records k).trans (if_pos rfl), fun k' other => (records k').trans (if_neg other)⟩

theorem State.entry_of_setEntry {e : Entry} (h : t.rmt.entries = (s.setEntry i e).rmt.entries) :
    t.entry i = e ∧ ∀ i', i' ≠ i → t.entry i' = s.entry i' := by
  have entries (i' : EntryIx) : t.entry i' = if i' = i then e else s.entry i' := by
    rw [← State.setEntry_entry]; unfold State.entry; rw [h]
  exact ⟨(entries i).trans (if_pos rfl), fun i' other => (entries i').trans (if_neg other)⟩

theorem State.slot_of_setSlot {r : Rank} {b : Bank} {x : SlotRecord} (h : t.sld = (s.setSlot r b n x).sld) :
    t.slot r b n = x ∧ s.SlotsExcept t r b n := by
  have slots (r' : Rank) (b' : Bank) (n' : SlotNo) :
      t.slot r' b' n' = if r' = r ∧ b' = b ∧ n' = n then x else s.slot r' b' n' := by
    rw [← State.setSlot_slot]; unfold State.slot; rw [h]
  refine ⟨(slots r b n).trans (if_pos ⟨rfl, rfl, rfl⟩), fun r' b' n' other => (slots r' b' n').trans (if_neg ?_)⟩
  rintro ⟨rfl, rfl, rfl⟩
  exact other rfl

section
variable (s k i o n m)

theorem State.burnt_frame : (s.burnt k i o n m).mge = s.mge ∧ (s.burnt k i o n m).sbl = s.sbl ∧
    (s.burnt k i o n m).wls = s.wls := by
  simp [State.burnt, State.engineDone]

theorem State.unburnt_frame : (s.unburnt k i o n m).mge = s.mge ∧ (s.unburnt k i o n m).sbl = s.sbl ∧
    (s.unburnt k i o n m).wls = s.wls := by
  simp [State.unburnt, State.engineDone]

theorem State.burnt_storeRecord : (s.burnt k i o n m).storeRecord k = (recordImage o n).read ∧
    ∀ k', k' ≠ k → (s.burnt k i o n m).storeRecord k' = s.storeRecord k' :=
  State.storeRecord_of_setCells rfl

theorem State.burnt_entry : (s.burnt k i o n m).entry i = .permanent o n m k ∧
    ∀ i', i' ≠ i → (s.burnt k i o n m).entry i' = s.entry i' :=
  State.entry_of_setEntry rfl

theorem State.burnt_slot : (s.burnt k i o n m).slot o.rank o.bank n = ⟨.permanent i, (s.slot o.rank o.bank n).grade⟩ ∧
    s.SlotsExcept (s.burnt k i o n m) o.rank o.bank n :=
  State.slot_of_setSlot rfl

theorem State.burnt_loadResult : (s.burnt k i o n m).rst.loadResults[k] = some (.loaded i) :=
  Vector.getElem_set_self (xs := s.rst.loadResults) k.isLt

theorem State.unburnt_storeRecord : (s.unburnt k i o n m).storeRecord k = .torn ∧
    ∀ k', k' ≠ k → (s.unburnt k i o n m).storeRecord k' = s.storeRecord k' := by
  obtain ⟨record, records⟩ := State.storeRecord_of_setCells (t := s.unburnt k i o n m) (s := s) (k := k)
    (c := failedRecord (recordCellsOf (Config.failedBurnCells s.freeCount))) rfl
  exact ⟨record.trans (failedRecord_read _), records⟩

theorem State.unburnt_entry : (s.unburnt k i o n m).entry i = .live o n m none ∧
    ∀ i', i' ≠ i → (s.unburnt k i o n m).entry i' = s.entry i' :=
  State.entry_of_setEntry rfl

end

end

/-! ## The completions of a revoke and of a geometry burn (R165, R166) -/

theorem exec_revokeComplete {k : RecIx} (h : s.rst.operation = some (.revoke k)) (v : Bool) :
    exec (.revokeComplete v) s = .next (s.finishRevoke k v) := by
  change Host.Outcome.next (s.revokeCompletes v) = _
  rw [State.revokeCompletes, h]

theorem exec_burnGeometryComplete {g : Geometry} (h : s.rst.operation = some (.geometry g)) (v : Bool) :
    exec (.burnGeometryComplete v) s = .next (s.finishGeometry g v) := by
  change Host.Outcome.next (s.geometryCompletes v) = _
  rw [State.geometryCompletes, h]

theorem exec_completions_of_idle (h : s.rst.operation = none) (v : Bool) :
    exec (.burnComplete v) s = .next s ∧ exec (.revokeComplete v) s = .next s ∧ exec (.burnGeometryComplete v) s = .next s :=
  ⟨congrArg _ (State.burnCompletes_of_idle h v), congrArg _ (State.revokeCompletes_of_idle h v),
    congrArg _ (State.geometryCompletes_of_idle h v)⟩

/-- Settles O49, from one theorem per timer and per completion; a failed verify reads TORN for every value of its cells. -/
theorem stagesAndOperationsEnd : Obligations.StagesAndOperationsEnd := by
  refine fun s => ⟨fun _ _ _ _ => exec_probationTimerExpiry_of_probation, exec_probationTimerExpiry_of_other,
    fun _ _ _ _ _ _ _ => exec_stageExpired_of_ready, exec_stageExpired_of_other, ?burn, ?revoke, ?geometry,
    exec_completions_of_idle⟩
  case burn =>
    intro k i o n m st operation live mapped row
    constructor
    · obtain ⟨record, records⟩ := State.burnt_storeRecord s k i o n m
      obtain ⟨entry, entries⟩ := State.burnt_entry s k i o n m
      obtain ⟨slot, slots⟩ := State.burnt_slot s k i o n m
      exact ⟨_, (exec_burnComplete operation true).trans (congrArg _ (State.finishBurn_verified live mapped)),
        record.trans (recordImage_read n row), State.burnt_loadResult .., entry, slot, rfl, rfl, rfl, rfl, records, slots, entries,
        rfl, State.burnt_frame ..⟩
    · obtain ⟨record, records⟩ := State.unburnt_storeRecord s k i o n m
      obtain ⟨entry, entries⟩ := State.unburnt_entry s k i o n m
      exact ⟨_, (exec_burnComplete operation false).trans (congrArg _ (State.finishBurn_failed live)),
        record, rfl, entry, rfl, rfl, rfl, rfl, records, entries, rfl,
        State.unburnt_frame ..⟩
  case revoke =>
    intro k o n operation written
    exact ⟨⟨_, exec_revokeComplete operation true, RecordCells.read_revoked written⟩,
      ⟨_, exec_revokeComplete operation false, failedRevoke_read written _⟩⟩
  case geometry =>
    intro g operation
    exact ⟨⟨_, exec_burnGeometryComplete operation true, geometryImage_read g⟩,
      ⟨_, exec_burnGeometryComplete operation false, failedGeometry_read _⟩⟩

end Sys2Proof.Machine
end

section
/-!
The requests that change the store (R159, R163, R165 to R167), in the order of their checks: the lock, the engine, and what each
request asks of the stage, the entry, the record or the area.
-/

namespace Sys2Proof.Machine

variable {s t : State} {h : InHand} {q : Request} {g : Geometry} {x : Byte}

/-- A state whose port still holds the request is answered as decided. -/
theorem State.hasInHand.answer_of_port (hh : s.hasInHand h q) (port : t.port = s.port) (st : Status) (p : Payload) :
    t.answer st p = t.decided h st p := by
  obtain ⟨-, inHand, -⟩ := hh
  exact State.answer_eq_decided (by rw [port, inHand]) st p

theorem State.hasInHand.beginOperation_eq (hh : s.hasInHand h q) (port : t.port = s.port) (x : Operation) :
    t.beginOperation x = ({ t with rst := { t.rst with operation := some x } } : State).decided h .accepted .none :=
  hh.answer_of_port (t := { t with rst := { t.rst with operation := some x } }) port ..

/-! ## The lock and the engine -/

theorem State.whenEngineFree_of_locked (locked : s.rst.lock = true) : s.whenEngineFree t = s.refuse .locked := if_pos locked

theorem State.whenEngineFree_of_busy (unlocked : s.rst.lock = false) (busy : s.rst.operation ≠ none) :
    s.whenEngineFree t = s.refuse .busy := by
  rw [State.whenEngineFree, unlocked, if_neg (by decide), if_pos (Option.isSome_iff_ne_none.2 busy)]

theorem State.whenEngineFree_of_free (unlocked : s.rst.lock = false) (idle : s.rst.operation = none) : s.whenEngineFree t = t := by
  rw [State.whenEngineFree, unlocked, idle, if_neg (by decide), if_neg (by decide)]

/-! ## STAGE (R159) -/

theorem RecordState.names_iff (r : RecordState) (o : Origin) (n : SlotNo) : r.names o n = true ↔
    ∃ o' n', r = .written o' n' ∧ o'.rank = o.rank ∧ o'.bank = o.bank ∧ (o'.row = o.row ∨ n' = n) := by
  cases r <;> simp [RecordState.names, and_assoc]

theorem State.storeNames_iff (s : State) (o : Origin) (n : SlotNo) : s.storeNames o n = true ↔
    ∃ k o' n', s.storeRecord k = .written o' n' ∧ o'.rank = o.rank ∧ o'.bank = o.bank ∧ (o'.row = o.row ∨ n' = n) := by
  simp only [State.storeNames, List.any_eq_true, List.mem_finRange, true_and, RecordState.names_iff]

theorem State.lowestBlankRecord_eq_some (s : State) (k : RecIx) :
    s.lowestBlankRecord = some k ↔ s.storeRecord k = .blank ∧ ∀ k', k' < k → s.storeRecord k' ≠ .blank := by
  simp [State.lowestBlankRecord, find?_finRange_eq_some]

theorem State.lowestBlankRecord_eq_none (s : State) : s.lowestBlankRecord = none ↔ ∀ k, s.storeRecord k ≠ .blank := by
  simp [State.lowestBlankRecord]

theorem exec_stage (hh : s.hasInHand h (.stage x)) (hm : s.mode = .active g) : exec (commandOf (.stage x)) s =
    .next (s.whenSome (indexOf 96 x) fun i => s.whenEngineFree
      (if s.rst.stage = .empty then s.stageEntry i else s.refuse .state)) :=
  congrArg _ ((State.takeRequest_inHand hh _).trans (State.whenActive_of_active hm))

theorem exec_stage_ofNat {i : EntryIx} (hh : s.hasInHand h (.stage (BitVec.ofNat 8 i.val))) (hm : s.mode = .active g) :
    exec (commandOf (.stage (BitVec.ofNat 8 i.val))) s =
      .next (s.whenEngineFree (if s.rst.stage = .empty then s.stageEntry i else s.refuse .state)) := by
  rw [exec_stage hh hm, indexOf_ofNat i (by decide), State.whenSome]

theorem exec_stage_of_empty {i : EntryIx} (hh : s.hasInHand h (.stage (BitVec.ofNat 8 i.val))) (hm : s.mode = .active g)
    (unlocked : s.rst.lock = false) (idle : s.rst.operation = none) (stage : s.rst.stage = .empty) :
    exec (commandOf (.stage (BitVec.ofNat 8 i.val))) s = .next (s.stageEntry i) := by
  rw [exec_stage_ofNat hh hm, State.whenEngineFree_of_free unlocked idle, if_pos stage]

theorem State.stageEntry_of_live {i : EntryIx} {o : Origin} {n : SlotNo} {m : Nat} (live : s.entry i = .live o n m none) :
    s.stageEntry i = if s.storeNames o n then s.refuse .state else
      (s.lowestBlankRecord.elim (s.refuse .storeFull) (s.takeStage i o n m)) := by
  rw [State.stageEntry, live]
  cases s.lowestBlankRecord <;> rfl

theorem State.stageEntry_of_free {i : EntryIx} (free : s.entry i = .free) : s.stageEntry i = s.refuse .notFound := by
  rw [State.stageEntry, free]

theorem State.stageEntry_of_other {i : EntryIx} (used : s.entry i ≠ .free) (other : ∀ o n m, s.entry i ≠ .live o n m none) :
    s.stageEntry i = s.refuse .state := by
  unfold State.stageEntry; split
  · next free => exact absurd free used
  · next o n m live => exact absurd live (other o n m)
  · rfl

/-! ## BURN (R163) -/

theorem exec_burn (hh : s.hasInHand h .burn) : exec (commandOf .burn) s = .next s.decideBurn :=
  congrArg _ (State.takeRequest_inHand hh _)

section
variable (hm : s.mode = .active g) (unlocked : s.rst.lock = false) (idle : s.rst.operation = none)
include hm unlocked idle

theorem State.decideBurn_of_empty (stage : s.rst.stage = .empty) : s.decideBurn = s.refuse .state := by
  rw [State.decideBurn, State.whenActive_of_active hm, State.whenEngineFree_of_free unlocked idle, stage]

theorem State.decideBurn_of_probation {i : EntryIx} {k : RecIx} {p x : Nat} (stage : s.rst.stage = .probation i k p x) :
    s.decideBurn = s.refuse .early := by
  rw [State.decideBurn, State.whenActive_of_active hm, State.whenEngineFree_of_free unlocked idle, stage]

theorem State.decideBurn_of_ready {i : EntryIx} {k : RecIx} {x m : Nat} {o : Origin} {n : SlotNo} {st : Option RecIx}
    (stage : s.rst.stage = .ready i k x) (live : s.entry i = .live o n m st) :
    s.decideBurn = (s.setStage (.committed i k)).beginOperation (.burn k i o n) := by
  have image : (s.entry i).image = some (o, n) := by rw [live]; rfl
  rw [State.decideBurn, State.whenActive_of_active hm, State.whenEngineFree_of_free unlocked idle, stage]
  simp only [image]

end

/-! ## REVOKE (R165) -/

theorem exec_revoke (hh : s.hasInHand h (.revoke x)) : exec (commandOf (.revoke x)) s = .next (s.decideRevoke x) :=
  congrArg _ (State.takeRequest_inHand hh _)

theorem State.decideRevoke_of_none (hm : s.mode = .active g) (outside : 40 ≤ x.toNat) : s.decideRevoke x = s.refuse .badArgument := by
  rw [State.decideRevoke, State.whenActive_of_active hm, indexOf_eq_none outside, State.whenSome]

section
variable {k : RecIx} (hm : s.mode = .active g) (unlocked : s.rst.lock = false) (idle : s.rst.operation = none)
include hm unlocked idle

theorem State.decideRevoke_of_written {o : Origin} {n : SlotNo} (written : s.storeRecord k = .written o n) :
    s.decideRevoke (BitVec.ofNat 8 k.val) = s.beginOperation (.revoke k) := by
  rw [State.decideRevoke, State.whenActive_of_active hm, indexOf_ofNat k (by decide), State.whenSome,
    State.whenEngineFree_of_free unlocked idle, written]

theorem State.decideRevoke_of_other (other : ∀ o n, s.storeRecord k ≠ .written o n) :
    s.decideRevoke (BitVec.ofNat 8 k.val) = s.refuse .state := by
  rw [State.decideRevoke, State.whenActive_of_active hm, indexOf_ofNat k (by decide), State.whenSome,
    State.whenEngineFree_of_free unlocked idle]
  split
  · next o n written => exact absurd written (other o n)
  · rfl

end

/-! ## BURN_GEOMETRY (R166) -/

theorem exec_burnGeometry_of_active (hh : s.hasInHand h .burnGeometry) (hm : s.mode = .active g) :
    exec (commandOf .burnGeometry) s = .next (s.whenEngineFree
      (if s.rst.geometryCells.read = .blank then s.beginOperation (.geometry g) else s.refuse .state)) := by
  have loaded : s.mode ≠ .loading := by rw [hm]; nofun
  refine congrArg _ ((State.takeRequest_inHand hh _).trans ?_)
  rw [State.decideBurnGeometry, State.whenLoaded_of_loaded loaded, State.geometry_eq_some.2 hm]

theorem exec_burnGeometry_of_unconfigured (hh : s.hasInHand h .burnGeometry) (hm : s.mode = .unconfigured) :
    exec (commandOf .burnGeometry) s = .next (s.whenEngineFree (s.refuse .state)) := by
  have loaded : s.mode ≠ .loading := by rw [hm]; nofun
  have none : s.geometry = none := State.geometry_of_inactive (by rw [hm]; nofun)
  refine congrArg _ ((State.takeRequest_inHand hh _).trans ?_)
  rw [State.decideBurnGeometry, State.whenLoaded_of_loaded loaded, none]

/-! ## LOCK_STORE (R167) -/

theorem exec_lockStore (hh : s.hasInHand h .lockStore) (loaded : s.mode ≠ .loading) :
    exec (commandOf .lockStore) s = .next (s.setLock.cancelStage.answer .ok .none) :=
  congrArg _ ((State.takeRequest_inHand hh State.decideLockStore).trans (State.whenLoaded_of_loaded loaded))

theorem exec_lockStore_of_unstaged (hh : s.hasInHand h .lockStore) (loaded : s.mode ≠ .loading)
    (unstaged : s.rst.stage.cancellable = none) : exec (commandOf .lockStore) s = .next (s.setLock.decided h .ok .none) := by
  have kept : s.setLock.cancelStage = s.setLock := by
    have same : s.setLock.rst.stage.cancellable = none := unstaged
    rw [State.cancelStage, same]
  rw [exec_lockStore hh loaded, kept]
  exact congrArg _ (hh.answer_of_port (by rfl) ..)

theorem exec_lockStore_of_staged {i : EntryIx} {o : Origin} {n : SlotNo} {m : Nat} {st : Option RecIx}
    (hh : s.hasInHand h .lockStore) (loaded : s.mode ≠ .loading) (staged : s.rst.stage.cancellable = some i)
    (live : s.entry i = .live o n m st) : exec (commandOf .lockStore) s =
      .next (((s.setLock.setStage .empty).setEntry i (.live o n m none)).decided h .ok .none) := by
  have dropped : s.setLock.cancelStage = (s.setLock.setStage .empty).setEntry i (.live o n m none) := by
    have same : s.setLock.rst.stage.cancellable = some i := staged
    have entry : s.setLock.entry i = .live o n m st := live
    rw [State.cancelStage, same]
    simp only [State.dropStage, entry, Entry.unstaged]
  rw [exec_lockStore hh loaded, dropped]
  exact congrArg _ (hh.answer_of_port (by rfl) ..)

/-! ## All of them -/

/-- R159, R163, R165, R166: the requests that begin an operation or a stage come to the lock and the engine before anything else but the
range of their operand. -/
theorem exec_eq_whenEngineFree {i : EntryIx} {k : RecIx} (hm : s.mode = .active g)
    (hq : q ∈ [Request.stage (BitVec.ofNat 8 i.val), .burn, .revoke (BitVec.ofNat 8 k.val), .burnGeometry]) (hh : s.hasInHand h q) :
    ∃ u, exec (commandOf q) s = .next (s.whenEngineFree u) := by
  simp only [List.mem_cons, List.not_mem_nil, or_false] at hq
  obtain rfl | rfl | rfl | rfl := hq
  · exact ⟨_, exec_stage_ofNat hh hm⟩
  · exact ⟨_, (exec_burn hh).trans (congrArg _ (State.whenActive_of_active hm))⟩
  · rw [exec_revoke hh, State.decideRevoke, State.whenActive_of_active hm, indexOf_ofNat k (by decide), State.whenSome]
    exact ⟨_, rfl⟩
  · exact ⟨_, exec_burnGeometry_of_active hh hm⟩

/-- Settles O58: one theorem per request and outcome of its checks, the lock and the engine for the first four together. -/
theorem storeRequestsAreDecided : Obligations.StoreRequestsAreDecided := by
  refine ⟨fun s h g hm => ?active, fun s h hm => ?unconfigured⟩
  case unconfigured =>
    have loaded : s.mode ≠ .loading := by rw [hm]; nofun
    refine ⟨fun locked hh => ?_, fun unlocked busy hh => ?_, fun unlocked idle hh => ?_, fun unstaged hh => ?_,
      fun i o n m st staged live hh => ?_⟩
    · rw [exec_burnGeometry_of_unconfigured hh hm, State.whenEngineFree_of_locked locked, hh.refuse_eq]
    · rw [exec_burnGeometry_of_unconfigured hh hm, State.whenEngineFree_of_busy unlocked busy, hh.refuse_eq]
    · rw [exec_burnGeometry_of_unconfigured hh hm, State.whenEngineFree_of_free unlocked idle, hh.refuse_eq]
    · exact exec_lockStore_of_unstaged hh loaded unstaged
    · exact exec_lockStore_of_staged hh loaded staged live
  case active =>
    have loaded : s.mode ≠ .loading := by rw [hm]; nofun
    refine ⟨fun q i k hq => ⟨fun locked hh => ?_, fun unlocked busy hh => ?_⟩,
      fun x => ⟨fun outside hh => ?_, fun outside hh => ?_⟩, fun unlocked idle => ⟨fun i => ?stage, fun stage hh => ?_,
        fun i k p x stage hh => ?_, fun i k x o n m st stage live hh => ?_, fun k => ⟨fun o n written hh => ?_, fun other hh => ?_⟩,
        fun blank hh => ?_, fun used hh => ?_⟩, fun unstaged hh => exec_lockStore_of_unstaged hh loaded unstaged,
        fun i o n m st staged live hh => exec_lockStore_of_staged hh loaded staged live⟩
    · obtain ⟨u, decision⟩ := exec_eq_whenEngineFree hm hq hh
      rw [decision, State.whenEngineFree_of_locked locked, hh.refuse_eq]
    · obtain ⟨u, decision⟩ := exec_eq_whenEngineFree hm hq hh
      rw [decision, State.whenEngineFree_of_busy unlocked busy, hh.refuse_eq]
    · rw [exec_stage hh hm, indexOf_eq_none outside, State.whenSome, hh.refuse_eq]
    · rw [exec_revoke hh, State.decideRevoke_of_none hm outside, hh.refuse_eq]
    case stage =>
      refine ⟨fun stage hh => ?_, fun stage free hh => ?_, fun stage used other hh => ?_, fun o n m stage live =>
        ⟨fun named hh => ?_, fun unnamed full hh => ?_, fun k unnamed blank lowest hh => ?_⟩⟩
      · rw [exec_stage_ofNat hh hm, State.whenEngineFree_of_free unlocked idle, if_neg stage, hh.refuse_eq]
      · rw [exec_stage_of_empty hh hm unlocked idle stage, State.stageEntry_of_free free, hh.refuse_eq]
      · rw [exec_stage_of_empty hh hm unlocked idle stage, State.stageEntry_of_other used other, hh.refuse_eq]
      · rw [exec_stage_of_empty hh hm unlocked idle stage, State.stageEntry_of_live live,
          if_pos ((s.storeNames_iff o n).2 named), hh.refuse_eq]
      · rw [exec_stage_of_empty hh hm unlocked idle stage, State.stageEntry_of_live live,
          if_neg (mt (s.storeNames_iff o n).1 unnamed), s.lowestBlankRecord_eq_none.2 full, Option.elim, hh.refuse_eq]
      · rw [exec_stage_of_empty hh hm unlocked idle stage, State.stageEntry_of_live live,
          if_neg (mt (s.storeNames_iff o n).1 unnamed), (s.lowestBlankRecord_eq_some k).2 ⟨blank, lowest⟩]
        exact congrArg _ (hh.answer_of_port (by rfl) ..)
    · rw [exec_burn hh, State.decideBurn_of_empty hm unlocked idle stage, hh.refuse_eq]
    · rw [exec_burn hh, State.decideBurn_of_probation hm unlocked idle stage, hh.refuse_eq]
    · rw [exec_burn hh, State.decideBurn_of_ready hm unlocked idle stage live]
      exact congrArg _ (hh.beginOperation_eq (by rfl) _)
    · rw [exec_revoke hh, State.decideRevoke_of_written hm unlocked idle written, hh.beginOperation_eq rfl]
    · rw [exec_revoke hh, State.decideRevoke_of_other hm unlocked idle other, hh.refuse_eq]
    · rw [exec_burnGeometry_of_active hh hm, State.whenEngineFree_of_free unlocked idle, if_pos blank, hh.beginOperation_eq rfl]
    · rw [exec_burnGeometry_of_active hh hm, State.whenEngineFree_of_free unlocked idle, if_neg used, hh.refuse_eq]

end Sys2Proof.Machine
end

section
/-!
The load (R156, R157): what each record of it comes to. The records are taken in order, and a decision once made stays: no later record
changes the result, the entry or the slot of an earlier one, and STORE_CONFLICT is not cleared. So the state after the records below a
number decides each of them as the state after the whole load does.
-/

namespace Sys2Proof.Machine

variable {s t : State} {g : Geometry} {k : RecIx}

/-! ## Counting and folding in order -/

/-- A fold over all numbers in order keeps what every step takes from its number to the next. -/
theorem foldl_finRange_induction {β : Type} {n : Nat} {f : β → Fin n → β} {P : Nat → β → Prop} {b : β} (start : P 0 b)
    (next : ∀ (k : Fin n) x, P k.val x → P (k.val + 1) (f x k)) : P n ((List.finRange n).foldl f b) := by
  induction n with
  | zero => exact start
  | succ n ih =>
    rw [List.finRange_succ_last, List.foldl_append, List.foldl_map]
    exact next (Fin.last n) _ (ih fun k x hx => next k.castSucc x hx)

theorem countP_finRange_lt_succ {n : Nat} (p : Fin n → Bool) (k : Fin n) :
    (List.finRange n).countP (fun j => decide (j.val < k.val + 1) && p j) =
      (List.finRange n).countP (fun j => decide (j.val < k.val) && p j) + if p k then 1 else 0 := by
  have own : (List.finRange n).countP (fun j => (decide (j.val < k.val + 1) && p j) && (j == k)) = if p k then 1 else 0 := by
    have pointwise (j : Fin n) : ((decide (j.val < k.val + 1) && p j) && (j == k)) = (p k && (j == k)) := by
      by_cases same : j = k
      · subst same; simp
      · rw [beq_false_of_ne same, Bool.and_false, Bool.and_false]
    simp only [pointwise]
    cases p k with
    | true => exact List.count_eq_one_of_mem (List.nodup_finRange n) (List.mem_finRange k)
    | false => simp
  have others : (List.finRange n).countP (fun j => (decide (j.val < k.val + 1) && p j) && !(j == k)) =
      (List.finRange n).countP (fun j => decide (j.val < k.val) && p j) := by
    refine List.countP_congr fun j _ => ?_
    by_cases same : j = k
    · subst same; simp
    · have bound : j.val < k.val + 1 ↔ j.val < k.val := by have := Fin.val_ne_of_ne same; omega
      simp only [beq_false_of_ne same, bound, Bool.not_false, Bool.and_true]
  rw [List.countP_eq_countP_filter_add _ _ (· == k), List.countP_filter, List.countP_filter, own, others, Nat.add_comm]

/-- The records numbered below `m` that were loaded. -/
def State.loadedBelow (t : State) (m : Nat) : Nat := (List.finRange 40).countP fun k => decide (k.val < m) && t.loadedAt k

theorem State.loadedBelow_le (t : State) (m : Nat) : t.loadedBelow m ≤ 40 := List.countP_le_length.trans_eq (List.length_finRange)

theorem State.loadedBelow_congr {m : Nat} (same : ∀ k : RecIx, k.val < m → t.loadedAt k = s.loadedAt k) :
    t.loadedBelow m = s.loadedBelow m := by
  refine List.countP_congr fun k _ => ?_
  by_cases h : k.val < m
  · simp [same k h]
  · simp [h]

theorem State.loadedAt_congr (same : t.rst.loadResults[k] = s.rst.loadResults[k]) : t.loadedAt k = s.loadedAt k := by
  unfold State.loadedAt; rw [same]

/-! ## The checks of R157 -/

/-- R171, R26: a geometry has more rows than spare rows. -/
theorem Geometry.row_lt_dataRows_iff (g : Geometry) (row : Nat) : row < g.dataRows ↔ row ≤ g.n - 17 := by
  have width : 5 ≤ g.w.toNat := by
    cases g.w with
    | _ => decide
  have rows : 2 ^ 5 ≤ g.n := Nat.pow_le_pow_right (by decide) width
  change row < g.n - 16 ↔ _
  omega

theorem Repair.loadable_iff (r : Repair) (g : Geometry) (loaded : List Repair) : r.loadable g loaded = true ↔
    r.origin.rank.val < g.ranks.toNat ∧ r.origin.row < g.dataRows ∧ r.slot ≠ 0 ∧ ∀ z ∈ loaded,
      z.origin ≠ r.origin ∧ ¬(z.origin.rank = r.origin.rank ∧ z.origin.bank = r.origin.bank ∧ z.slot = r.slot) := by
  simp only [Repair.loadable, Repair.sameSlot, Geometry.hasRank, Bool.and_eq_true, Bool.not_eq_true', List.any_eq_false,
    Bool.or_eq_true, decide_eq_true_eq, beq_iff_eq, bne_iff_ne, not_or, and_assoc]

/-! ## One record (R156) -/

theorem State.setLoadResult_loadResults (s : State) (k k' : RecIx) (v : Option LoadResult) :
    (s.setLoadResult k v).rst.loadResults[k'] = if k' = k then v else s.rst.loadResults[k'] := by
  change (s.rst.loadResults.set k.val v k.isLt)[k'.val] = _
  rw [Vector.getElem_set]
  exact if_congr (by rw [Fin.ext_iff, eq_comm]) rfl rfl

/-- A record is SKIPPED, with STORE_CONFLICT when `b` holds. -/
def Loading.skip (x : Loading) (k : RecIx) (b : Bool) : Loading :=
  { x with state := (x.state.setLoadResult k (some .skipped)).raiseIf b .storeConflict }

section
variable {x : Loading}

theorem loadRecord_of_blank (h : x.state.storeRecord k = .blank) : loadRecord g x k = x := by
  rw [loadRecord, h]

theorem loadRecord_of_revoked {o : Origin} {n : SlotNo} (h : x.state.storeRecord k = .revoked o n) :
    loadRecord g x k = x.skip k false := by
  rw [loadRecord, h]; rfl

theorem loadRecord_of_torn (h : x.state.storeRecord k = .torn) : loadRecord g x k = x.skip k true := by
  rw [loadRecord, h]; rfl

theorem loadRecord_of_unloadable {o : Origin} {n : SlotNo} (h : x.state.storeRecord k = .written o n)
    (unloadable : ¬Repair.loadable ⟨o, n⟩ g x.loaded = true) : loadRecord g x k = x.skip k true := by
  rw [loadRecord, h]
  exact if_neg unloadable

theorem loadRecord_of_loadable {o : Origin} {n : SlotNo} {i : EntryIx} (h : x.state.storeRecord k = .written o n)
    (loadable : Repair.loadable ⟨o, n⟩ g x.loaded = true) (lowest : x.state.lowestFreeEntry = some i) :
    loadRecord g x k = ⟨x.state.loadRepair k i ⟨o, n⟩, ⟨o, n⟩ :: x.loaded⟩ := by
  rw [loadRecord, h]
  refine (if_pos loadable).trans ?_
  rw [lowest]

end

/-! ## The decision of one record -/

/-- STORE_CONFLICT is raised. -/
def State.conflict (t : State) : Prop := t.port.conditions &&& conditionBit .storeConflict ≠ 0

theorem State.conflict_raise (t : State) : (t.raise .storeConflict).conflict := by
  have absorbed : (t.port.conditions ||| conditionBit .storeConflict) &&& conditionBit .storeConflict =
      conditionBit .storeConflict := by
    ext i hi; simp +contextual
  change (t.port.conditions ||| conditionBit .storeConflict) &&& conditionBit .storeConflict ≠ 0
  rw [absorbed]
  decide

/-- What R156 and R157 say of record `k` in a load under `g` that left `t`. -/
structure State.LoadDecides (s t : State) (g : Geometry) (k : RecIx) : Prop where
  blank : s.storeRecord k = .blank → t.rst.loadResults[k] = none
  revoked : ∀ o n, s.storeRecord k = .revoked o n → t.rst.loadResults[k] = some .skipped
  torn : s.storeRecord k = .torn → t.rst.loadResults[k] = some .skipped ∧ t.conflict
  written : ∀ o n, s.storeRecord k = .written o n →
    (s.passesLoad t g k o n → ∃ i : EntryIx, i.val = t.loadedBelow k.val ∧ t.rst.loadResults[k] = some (.loaded i) ∧
      t.entry i = .permanent o n 0 k ∧ (t.slot o.rank o.bank n).state = .permanent i) ∧
    (¬s.passesLoad t g k o n → t.rst.loadResults[k] = some .skipped ∧ t.conflict)

/-- For a WRITTEN record only the last part says anything. -/
theorem State.LoadDecides.ofWritten {o : Origin} {n : SlotNo} (written : s.storeRecord k = .written o n)
    (passes : s.passesLoad t g k o n → ∃ i : EntryIx, i.val = t.loadedBelow k.val ∧ t.rst.loadResults[k] = some (.loaded i) ∧
      t.entry i = .permanent o n 0 k ∧ (t.slot o.rank o.bank n).state = .permanent i)
    (fails : ¬s.passesLoad t g k o n → t.rst.loadResults[k] = some .skipped ∧ t.conflict) : s.LoadDecides t g k := by
  refine ⟨by rw [written]; nofun, by rw [written]; nofun, by rw [written]; nofun, fun o' n' same => ?_⟩
  obtain ⟨rfl, rfl⟩ := RecordState.written.inj (written.symm.trans same)
  exact ⟨passes, fails⟩

theorem State.passesLoad_congr {u : State} (same : ∀ k' : RecIx, k' < k → u.loadedAt k' = t.loadedAt k') (o : Origin) (n : SlotNo) :
    s.passesLoad u g k o n ↔ s.passesLoad t g k o n := by
  unfold State.passesLoad
  simp +contextual only [same]

/-- What record `k` of the load leaves as it was, for the records before it. -/
structure Loading.GoesOn (x y : Loading) (k : RecIx) : Prop where
  cells : y.state.rst.cells = x.state.rst.cells
  results : ∀ k', k' ≠ k → y.state.rst.loadResults[k'] = x.state.rst.loadResults[k']
  conflict : x.state.conflict → y.state.conflict
  entries : ∀ i, x.state.entry i ≠ .free → y.state.entry i = x.state.entry i
  slots : ∀ r ∈ x.loaded, y.state.slot r.origin.rank r.origin.bank r.slot = x.state.slot r.origin.rank r.origin.bank r.slot

theorem Loading.goesOn_self (x : Loading) (k : RecIx) : x.GoesOn x k := ⟨rfl, fun _ _ => rfl, id, fun _ _ => rfl, fun _ _ => rfl⟩

theorem Loading.skip_conflict (x : Loading) (k : RecIx) : (x.skip k true).state.conflict := State.conflict_raise _

theorem Loading.skip_rst (x : Loading) (k : RecIx) (b : Bool) :
    (x.skip k b).state.rst = (x.state.setLoadResult k (some .skipped)).rst := by cases b <;> rfl

theorem Loading.skip_loadResult (x : Loading) (k : RecIx) (b : Bool) :
    (x.skip k b).state.rst.loadResults[k] = some .skipped := by
  rw [Loading.skip_rst, State.setLoadResult_loadResults, if_pos rfl]

theorem Loading.skip_goesOn (x : Loading) (k : RecIx) (b : Bool) : x.GoesOn (x.skip k b) k where
  cells := by rw [Loading.skip_rst]; rfl
  results k' other := by rw [Loading.skip_rst, State.setLoadResult_loadResults, if_neg other]
  conflict h := by
    cases b with
    | true => exact x.skip_conflict k
    | false => exact h
  entries i _ := by cases b <;> rfl
  slots r _ := by cases b <;> rfl

/-- A record that may be loaded takes a FREE entry, and a slot that none before it has taken. -/
theorem Loading.goesOn_loadRepair {x : Loading} {r : Repair} {i : EntryIx} (loadable : r.loadable g x.loaded = true)
    (free : x.state.entry i = .free) : x.GoesOn ⟨x.state.loadRepair k i r, r :: x.loaded⟩ k where
  cells := rfl
  results k' other := (State.setLoadResult_loadResults _ k k' _).trans (if_neg other)
  conflict := id
  entries i' used := (State.loadRepair_entry ..).trans (if_neg fun (same : i' = i) => used (same ▸ free))
  slots z hz := by
    obtain ⟨-, -, -, apart⟩ := (Repair.loadable_iff ..).1 loadable
    obtain ⟨-, otherSlot⟩ := apart z hz
    exact (State.setSlot_slot ..).trans (if_neg otherSlot)

theorem Loading.GoesOn.loadedAt {x y : Loading} (h : x.GoesOn y k) {k' : RecIx} (other : k' ≠ k) :
    y.state.loadedAt k' = x.state.loadedAt k' := State.loadedAt_congr (h.results k' other)

/-- The load of the records numbered below `m`, from a table with every entry FREE: they are all decided, the lowest entries hold what
was loaded, and the others are as they were. -/
structure Loading.DecidedBelow (s : State) (g : Geometry) (m : Nat) (x : Loading) : Prop where
  cells : x.state.rst.cells = s.rst.cells
  undecided : ∀ k : RecIx, m ≤ k.val → x.state.rst.loadResults[k] = none
  entries : ∀ i, x.state.entry i = .free ↔ x.loaded.length ≤ i.val
  generation : x.state.rmt.generation = s.rmt.generation + BitVec.ofNat 16 x.loaded.length
  count : x.loaded.length = x.state.loadedBelow m
  loaded : ∀ y, y ∈ x.loaded ↔
    ∃ k : RecIx, k.val < m ∧ x.state.loadedAt k = true ∧ s.storeRecord k = .written y.origin y.slot
  decided : ∀ k : RecIx, k.val < m → s.LoadDecides x.state g k

namespace Loading.DecidedBelow

variable {x y : Loading}

theorem start (free : ∀ i, s.entry i = .free) (fresh : ∀ k : RecIx, s.rst.loadResults[k] = none) :
    DecidedBelow s g 0 ⟨s, []⟩ where
  cells := rfl
  undecided k _ := fresh k
  entries i := iff_of_true (free i) (Nat.zero_le _)
  generation := (BitVec.add_zero _).symm
  count := by simp [State.loadedBelow]
  loaded := by simp
  decided k h := absurd h (Nat.not_lt_zero _)

/-- A record decided stays decided. -/
theorem later (h : DecidedBelow s g k.val x) (on : x.GoesOn y k) {k' : RecIx} (before : k' < k) : s.LoadDecides y.state g k' := by
  obtain ⟨blank, revoked, torn, written⟩ := h.decided k' before
  have result := on.results k' before.ne
  have loadedAt (j : RecIx) (hj : j < k') : y.state.loadedAt j = x.state.loadedAt j := on.loadedAt (hj.trans before).ne
  refine ⟨fun hb => ?_, fun o n hr => ?_, fun ht => ?_, fun o n hw => ⟨fun passes => ?_, fun fails => ?_⟩⟩
  · rw [result, blank hb]
  · rw [result, revoked o n hr]
  · obtain ⟨skipped, conflict⟩ := torn ht
    exact ⟨result.trans skipped, on.conflict conflict⟩
  · obtain ⟨i, hi, loaded, entry, slot⟩ := (written o n hw).1 ((State.passesLoad_congr loadedAt o n).1 passes)
    have member : (⟨o, n⟩ : Repair) ∈ x.loaded := (h.loaded _).2 ⟨k', before, by rw [State.loadedAt, loaded], hw⟩
    refine ⟨i, hi.trans (State.loadedBelow_congr loadedAt).symm, result.trans loaded, ?_, ?_⟩
    · rw [on.entries i (by rw [entry]; nofun), entry]
    · exact (congrArg SlotRecord.state (on.slots ⟨o, n⟩ member)).trans slot
  · obtain ⟨skipped, conflict⟩ := (written o n hw).2 (mt (State.passesLoad_congr loadedAt o n).2 fails)
    exact ⟨result.trans skipped, on.conflict conflict⟩

theorem decidedSucc (h : DecidedBelow s g k.val x) (on : x.GoesOn y k) (decides : s.LoadDecides y.state g k) (k' : RecIx)
    (below : k'.val < k.val + 1) : s.LoadDecides y.state g k' := by
  rcases Nat.lt_succ_iff_lt_or_eq.1 below with before | same
  · exact h.later on before
  · exact Fin.ext same ▸ decides

theorem loadedBelow_succ (on : x.GoesOn y k) :
    y.state.loadedBelow (k.val + 1) = x.state.loadedBelow k.val + if y.state.loadedAt k then 1 else 0 := by
  have before : y.state.loadedBelow k.val = x.state.loadedBelow k.val :=
    State.loadedBelow_congr fun k' (hk : k' < k) => on.loadedAt hk.ne
  rw [← before]
  exact countP_finRange_lt_succ _ k

theorem undecidedSucc (h : DecidedBelow s g k.val x) (on : x.GoesOn y k) (k' : RecIx) (above : k.val + 1 ≤ k'.val) :
    y.state.rst.loadResults[k'] = none := by
  have other : k' ≠ k := fun same => by subst same; omega
  rw [on.results k' other, h.undecided k' (Nat.le_of_succ_le above)]

/-- What is loaded after record `k`: what was before it, and its own repair if it was loaded. -/
theorem loadedSucc (h : DecidedBelow s g k.val x) (on : x.GoesOn y k) (r : Repair) :
    (∃ k' : RecIx, k'.val < k.val + 1 ∧ y.state.loadedAt k' = true ∧ s.storeRecord k' = .written r.origin r.slot) ↔
      r ∈ x.loaded ∨ (y.state.loadedAt k = true ∧ s.storeRecord k = .written r.origin r.slot) := by
  rw [h.loaded]
  constructor
  · rintro ⟨k', below, loaded, written⟩
    rcases Nat.lt_succ_iff_lt_or_eq.1 below with before | same
    · exact .inl ⟨k', before, on.loadedAt (k' := k') (Fin.ne_of_lt before) ▸ loaded, written⟩
    · obtain rfl := Fin.ext same
      exact .inr ⟨loaded, written⟩
  · rintro (⟨k', before, loaded, written⟩ | ⟨loaded, written⟩)
    · exact ⟨k', Nat.lt_succ_of_lt before, (on.loadedAt (k' := k') (Fin.ne_of_lt before)).trans loaded, written⟩
    · exact ⟨k, Nat.lt_succ_self _, loaded, written⟩

/-- A record that is passed over or skipped. -/
theorem pass (h : DecidedBelow s g k.val x) (on : x.GoesOn y k) (rmt : y.state.rmt = x.state.rmt) (same : y.loaded = x.loaded)
    (unloaded : y.state.loadedAt k = false) (decides : s.LoadDecides y.state g k) : DecidedBelow s g (k.val + 1) y where
  cells := on.cells.trans h.cells
  undecided := h.undecidedSucc on
  entries i := by rw [State.entry_eq_of_rmt_eq rmt, same]; exact h.entries i
  generation := by rw [rmt, same]; exact h.generation
  count := by rw [same, loadedBelow_succ on, unloaded, h.count]; rfl
  loaded r := by rw [same, h.loadedSucc on, unloaded]; simp
  decided := h.decidedSucc on decides

/-- R157: the checks of a record, against those loaded before it. -/
theorem loadable_iff (h : DecidedBelow s g k.val x) (o : Origin) (n : SlotNo) :
    Repair.loadable ⟨o, n⟩ g x.loaded = true ↔ s.passesLoad x.state g k o n := by
  rw [Repair.loadable_iff, g.row_lt_dataRows_iff, State.passesLoad]
  refine and_congr_right' (and_congr_right' (and_congr_right' ⟨fun apart k' o' n' before loaded written => ?_, fun apart r hr => ?_⟩))
  · exact apart ⟨o', n'⟩ ((h.loaded _).2 ⟨k', before, loaded, written⟩)
  · obtain ⟨k', before, loaded, written⟩ := (h.loaded r).1 hr
    exact apart k' r.origin r.slot before loaded written

/-- R17: the lowest FREE entry is the one after those that hold what was loaded. -/
theorem lowestFreeEntry (h : DecidedBelow s g k.val x) :
    ∃ i : EntryIx, i.val = x.loaded.length ∧ x.state.lowestFreeEntry = some i := by
  have room : x.loaded.length ≤ 40 := h.count ▸ x.state.loadedBelow_le k.val
  refine ⟨⟨x.loaded.length, by omega⟩, rfl, (State.lowestFreeEntry_eq_some _ _).2 ⟨(h.entries _).2 le_rfl, fun i below => ?_⟩⟩
  exact fun free => Nat.not_le_of_lt below ((h.entries i).1 free)

/-- A record that is SKIPPED. -/
theorem skip (h : DecidedBelow s g k.val x) (b : Bool) (decides : s.LoadDecides (x.skip k b).state g k) :
    DecidedBelow s g (k.val + 1) (x.skip k b) :=
  h.pass (x.skip_goesOn k b) (by cases b <;> rfl) rfl (by rw [State.loadedAt, x.skip_loadResult]) decides

/-- R157: a WRITTEN record that fails a check. -/
theorem conflicts (h : DecidedBelow s g k.val x) {o : Origin} {n : SlotNo} (written : s.storeRecord k = .written o n)
    (fails : ¬s.passesLoad x.state g k o n) : DecidedBelow s g (k.val + 1) (x.skip k true) := by
  have on := x.skip_goesOn k true
  have failsAfter : ¬s.passesLoad (x.skip k true).state g k o n :=
    mt (State.passesLoad_congr (fun k' before => on.loadedAt before.ne) o n).1 fails
  exact h.skip true (.ofWritten written (absurd · failsAfter) fun _ => ⟨x.skip_loadResult k true, x.skip_conflict k⟩)

/-- R156, R17: a WRITTEN record that passes every check takes the lowest FREE entry, and its slot. -/
theorem loads (h : DecidedBelow s g k.val x) {o : Origin} {n : SlotNo} (written : s.storeRecord k = .written o n)
    (loadable : Repair.loadable ⟨o, n⟩ g x.loaded = true) {i : EntryIx} (hi : i.val = x.loaded.length) :
    DecidedBelow s g (k.val + 1) ⟨x.state.loadRepair k i ⟨o, n⟩, ⟨o, n⟩ :: x.loaded⟩ := by
  have on := Loading.goesOn_loadRepair (k := k) loadable ((h.entries i).2 hi.ge)
  have result : (x.state.loadRepair k i ⟨o, n⟩).rst.loadResults[k] = some (.loaded i) :=
    (State.setLoadResult_loadResults ..).trans (if_pos rfl)
  have loaded : (x.state.loadRepair k i ⟨o, n⟩).loadedAt k = true := by rw [State.loadedAt, result]
  have below : x.state.loadedBelow k.val = (x.state.loadRepair k i ⟨o, n⟩).loadedBelow k.val :=
    (State.loadedBelow_congr fun k' (before : k' < k) => on.loadedAt before.ne).symm
  have passes := (State.passesLoad_congr (fun k' before => on.loadedAt before.ne) o n).2 ((h.loadable_iff o n).1 loadable)
  refine ⟨on.cells.trans h.cells, h.undecidedSucc on, fun i' => ?_, ?_, ?_, fun r => ?_,
    h.decidedSucc on (.ofWritten written (fun _ => ⟨i, hi.trans (h.count.trans below), result, ?_, ?_⟩) (absurd passes))⟩
  · dsimp only
    rw [State.loadRepair_entry, List.length_cons]
    split
    · next same => exact iff_of_false nofun (by rw [same]; omega)
    · next other =>
      have apart : i'.val ≠ i.val := Fin.val_ne_of_ne other
      rw [h.entries]
      omega
  · change x.state.rmt.generation + 1 = _
    rw [h.generation, List.length_cons, BitVec.ofNat_add, BitVec.add_assoc]
    rfl
  · rw [loadedBelow_succ on, loaded, ← h.count]; rfl
  · have own : r = ⟨o, n⟩ ↔ s.storeRecord k = .written r.origin r.slot := by
      rw [written, RecordState.written.injEq]
      cases r; simp [eq_comm]
    rw [h.loadedSucc on, loaded, List.mem_cons, own, or_comm]
    simp
  · exact (State.loadRepair_entry ..).trans (if_pos rfl)
  · exact (State.loadRepair_slot_iff ..).2 ((if_pos ⟨rfl, rfl, rfl⟩).mpr rfl)

/-- R156: each record of the load is decided in its turn. -/
theorem loadRecord (h : DecidedBelow s g k.val x) : DecidedBelow s g (k.val + 1) (Machine.loadRecord g x k) := by
  have record := State.storeRecord_of_cells h.cells k
  cases kind : s.storeRecord k with
  | blank =>
    rw [loadRecord_of_blank (record.trans kind)]
    have result := h.undecided k le_rfl
    exact h.pass (x.goesOn_self k) rfl rfl (by rw [State.loadedAt, result])
      ⟨fun _ => result, by rw [kind]; nofun, by rw [kind]; nofun, by rw [kind]; nofun⟩
  | revoked o n =>
    rw [loadRecord_of_revoked (record.trans kind)]
    exact h.skip false ⟨by rw [kind]; nofun, fun _ _ _ => x.skip_loadResult k false, by rw [kind]; nofun, by rw [kind]; nofun⟩
  | torn =>
    rw [loadRecord_of_torn (record.trans kind)]
    exact h.skip true ⟨by rw [kind]; nofun, by rw [kind]; nofun, fun _ => ⟨x.skip_loadResult k true, x.skip_conflict k⟩,
      by rw [kind]; nofun⟩
  | written o n =>
    by_cases loadable : Repair.loadable ⟨o, n⟩ g x.loaded = true
    · obtain ⟨i, hi, lowest⟩ := h.lowestFreeEntry
      rw [loadRecord_of_loadable (record.trans kind) loadable lowest]
      exact h.loads kind loadable hi
    · rw [loadRecord_of_unloadable (record.trans kind) loadable]
      exact h.conflicts kind (mt (h.loadable_iff o n).2 loadable)

end Loading.DecidedBelow

theorem State.load_decided (free : ∀ i, s.entry i = .free) (fresh : ∀ k : RecIx, s.rst.loadResults[k] = none) (g : Geometry) :
    Loading.DecidedBelow s g 40 (s.load g) :=
  foldl_finRange_induction (Loading.DecidedBelow.start free fresh) fun _ _ h => h.loadRecord

/-- Settles O22: all forty records are decided as the load takes them. -/
theorem loadDecidesEveryRecord : Obligations.LoadDecidesEveryRecord := by
  intro s g free fresh
  have all := State.load_decided free fresh g
  have generation := all.generation.trans (congrArg (s.rmt.generation + BitVec.ofNat 16 ·) all.count)
  refine ⟨all.count, generation, fun i above => (all.entries i).2 (all.count.trans_le above), fun k => ?_⟩
  obtain ⟨blank, revoked, torn, written⟩ := all.decided k k.isLt
  exact ⟨blank, revoked, torn, written⟩

end Sys2Proof.Machine
end

section
/-!
The entry to ACTIVE (R174, R177) as a whole: what of the state the load changes, and the state that the entry leaves. From it, the end of
LOADING and CONFIGURE.
-/

namespace Sys2Proof.Machine

variable {s t u : State} {g : Geometry}

/-! ## What the load changes (R156) -/

/-- The state `s` with what a load changes taken from `t`: the tables, the store's volatile part, the conditions and ALERT. -/
def State.loadedAs (s t : State) : State :=
  { s with
    rmt := t.rmt
    sld := t.sld
    rst := t.rst
    port := { s.port with conditions := t.port.conditions, alert := t.port.alert } }

theorem loadRecord_loadedAs (g : Geometry) (x : Loading) (k : RecIx) :
    (loadRecord g x k).state = x.state.loadedAs (loadRecord g x k).state := by
  unfold loadRecord
  split
  · rfl
  · rfl
  · rfl
  · split
    · split <;> rfl
    · rfl

theorem State.load_loadedAs (s : State) (g : Geometry) : (s.load g).state = s.loadedAs (s.load g).state :=
  State.load_induction (P := fun x => x.state = s.loadedAs x.state) rfl fun x k hx =>
    calc (loadRecord g x k).state
      _ = x.state.loadedAs (loadRecord g x k).state := loadRecord_loadedAs g x k
      _ = (s.loadedAs x.state).loadedAs (loadRecord g x k).state := congrArg (fun u : State => u.loadedAs (loadRecord g x k).state) hx
      _ = s.loadedAs (loadRecord g x k).state := rfl

/-- R156: the load reads the cells and leaves the lock. -/
theorem State.load_store (s : State) (g : Geometry) : (s.load g).state.rst.lock = s.rst.lock ∧
    (s.load g).state.rst.cells = s.rst.cells ∧ (s.load g).state.rst.geometryCells = s.rst.geometryCells := by
  have store := s.load_rst g
  generalize (s.load g).state.rst = x at store ⊢
  rw [store]
  exact ⟨rfl, rfl, rfl⟩

/-! ## The state in ACTIVE -/

/-- R145: the run profile once a pending selection has taken effect. -/
def State.profileSelected (s : State) : Profile := s.pol.profiles[s.pol.pendingRun.getD s.pol.run]

/-- R174, R177: a loaded state in ACTIVE, with the pending selection applied and the decay timer started. -/
def State.activated (s : State) (g : Geometry) : State :=
  { s with
    mode := .active g
    pol := { s.pol with run := s.pol.pendingRun.getD s.pol.run, pendingRun := none }
    wls := { s.wls with decayTimer := some s.profileSelected.decayInterval } }

theorem State.activated_eq (s : State) (g : Geometry) :
    { s.applyPendingRun.startDecay with mode := .active g } = s.activated g := by
  rw [State.applyPendingRun_eq]
  rfl

theorem State.enterActive_eq (s : State) (g : Geometry) :
    s.enterActive g = (s.loadedAs (s.load g).state).activated g :=
  ((s.load g).state.activated_eq g).trans (congrArg (·.activated g) (s.load_loadedAs g))

theorem State.enterActive_ready (s : State) (g : Geometry) : (s.enterActive g).ready = s.ready := by
  rw [State.enterActive_eq]
  generalize (s.load g).state = u
  rfl

theorem State.enterActive_inHand (s : State) (g : Geometry) : (s.enterActive g).port.inHand = s.port.inHand := by
  rw [State.enterActive_eq]
  generalize (s.load g).state = u
  rfl

/-! ## The end of LOADING -/

theorem State.afterRead_of_written (h : s.rst.geometryCells.read = .written g) : s.afterRead = s.enterActive g := by
  rw [State.afterRead, h]

theorem State.afterRead_of_blank (h : s.rst.geometryCells.read = .blank) : s.afterRead = s.inMode .unconfigured := by
  rw [State.afterRead, h]
  rfl

theorem State.afterRead_of_torn (h : s.rst.geometryCells.read = .torn) :
    s.afterRead = (s.inMode .unconfigured).raise .storeConflict := by
  rw [State.afterRead, h]
  rfl

/-- R174: the state that the store's read leads to. -/
theorem exec_loadComplete_of_loading (released : s.powerHeld = false) (loading : s.mode = .loading) :
    exec .loadComplete s = .next ({ s.afterRead with ready := true } : State).enterGreeting :=
  congrArg Host.Outcome.next (if_neg (by simp [released, loading]))

/-- R172, R174: the event has nothing to end while the part is held, and in the other modes. -/
theorem exec_loadComplete_of_idle (h : s.powerHeld = true ∨ s.mode ≠ .loading) : exec .loadComplete s = .next s :=
  congrArg Host.Outcome.next (if_pos h)

/-- Settles O21: by what the geometry area reads, on the state in which the link greets. -/
theorem loadCompleteEndsLoading : Obligations.LoadCompleteEndsLoading := by
  intro s released loading
  refine ⟨_, exec_loadComplete_of_loading released loading, rfl, rfl, rfl, rfl, rfl, rfl, fun blank => ?_, fun torn => ?_,
    fun g written => ?_⟩
  · rw [State.afterRead_of_blank blank]
    exact ⟨rfl, rfl, rfl, rfl, rfl, rfl⟩
  · rw [State.afterRead_of_torn torn]
    exact ⟨rfl, rfl, rfl, rfl, rfl, rfl⟩
  · rw [State.afterRead_of_written written, State.enterActive_eq]
    generalize (s.load g).state = u
    exact ⟨rfl, rfl, rfl, rfl, rfl, rfl, rfl⟩

/-! ## CONFIGURE (R177) -/

section
variable {r w : Byte}

theorem rankCountOf_eq_some_iff {x : RankCount} : rankCountOf r = some x ↔ r.toNat = x.toNat := by
  unfold rankCountOf
  split
  · next one => rw [one]; cases x <;> simp [RankCount.toNat]
  · next two => rw [two]; cases x <;> simp [RankCount.toNat]
  · next notOne notTwo => cases x <;> simpa [RankCount.toNat]

theorem rowWidthOf_eq_some_iff {x : RowWidth} : rowWidthOf w = some x ↔ w.toNat = x.toNat := by
  unfold rowWidthOf
  split
  · next is14 => rw [is14]; cases x <;> simp [RowWidth.toNat]
  · next is15 => rw [is15]; cases x <;> simp [RowWidth.toNat]
  · next is16 => rw [is16]; cases x <;> simp [RowWidth.toNat]
  · next is17 => rw [is17]; cases x <;> simp [RowWidth.toNat]
  · next not14 not15 not16 not17 => cases x <;> simpa [RowWidth.toNat]

theorem geometryOf_eq_some_iff : geometryOf r w = some g ↔ r.toNat = g.ranks.toNat ∧ w.toNat = g.w.toNat := by
  obtain ⟨ranks, width⟩ := g
  rw [← rankCountOf_eq_some_iff, ← rowWidthOf_eq_some_iff, geometryOf]
  cases rankCountOf r <;> cases rowWidthOf w <;> simp

theorem RankCount.toNat_bounds (x : RankCount) : 1 ≤ x.toNat ∧ x.toNat ≤ 2 := by cases x <;> decide

theorem RowWidth.toNat_bounds (x : RowWidth) : 14 ≤ x.toNat ∧ x.toNat ≤ 17 := by cases x <;> decide

theorem geometryOf_eq_none (outside : r.toNat = 0 ∨ 2 < r.toNat ∨ w.toNat < 14 ∨ 17 < w.toNat) : geometryOf r w = none := by
  refine Option.eq_none_iff_forall_ne_some.2 fun g named => ?_
  obtain ⟨ranks, width⟩ := geometryOf_eq_some_iff.1 named
  have := g.ranks.toNat_bounds
  have := g.w.toNat_bounds
  omega

variable {h : InHand} (hh : s.hasInHand h (.configure r w))
include hh

theorem exec_configure_inHand : exec (.configure r w) s = .next (s.decideConfigure r w) :=
  congrArg Host.Outcome.next (State.takeRequest_inHand hh _)

theorem exec_configure_of_active (active : s.mode = .active g) :
    exec (.configure r w) s = .next (s.decided h .state .none) := by
  rw [exec_configure_inHand hh, State.decideConfigure, active, ← hh.refuse_eq]

theorem exec_configure_of_outside (unconfigured : s.mode = .unconfigured) (outside : geometryOf r w = none) :
    exec (.configure r w) s = .next (s.decided h .badArgument .none) := by
  rw [exec_configure_inHand hh, State.decideConfigure, unconfigured, ← hh.refuse_eq, outside]
  rfl

/-- R177: CONFIGURE with a geometry that the part accepts. -/
theorem exec_configure_of_geometry (unconfigured : s.mode = .unconfigured) (named : geometryOf r w = some g) :
    exec (.configure r w) s = .next ((s.enterActive g).decided h .ok
      (.configured (s.load g).loaded.length (s.enterActive g).rmt.generation)) := by
  have stays : (s.enterActive g).port.inHand = some h := by
    obtain ⟨-, inHand, -, -⟩ := hh
    rw [State.enterActive_inHand, inHand]
  rw [exec_configure_inHand hh, State.decideConfigure, unconfigured, named, ← State.answer_eq_decided stays]
  rfl

end

/-- Settles O57: the refusals in their order, and the state in which the entry to ACTIVE is answered. -/
theorem configureTakesThePartToActive : Obligations.ConfigureTakesThePartToActive := by
  intro s h r w hh
  refine ⟨fun ⟨g, active⟩ => exec_configure_of_active hh active,
    fun unconfigured outside => exec_configure_of_outside hh unconfigured (geometryOf_eq_none outside),
    fun g unconfigured ranks width =>
      ⟨_, exec_configure_of_geometry hh unconfigured (geometryOf_eq_some_iff.2 ⟨ranks, width⟩), ?_⟩⟩
  obtain ⟨lock, cells, geometryCells⟩ := s.load_store g
  rw [State.enterActive_eq]
  generalize s.load g = x at lock cells geometryCells ⊢
  exact ⟨rfl, rfl, rfl, lock, cells, geometryCells, rfl, rfl, rfl, rfl, rfl, rfl, rfl,
    fun current => if_neg (Bool.eq_false_iff.1 current)⟩

end Sys2Proof.Machine
end

section
/-!
The mode and READY through every command (R171, R175). `State.GoesForward` is what every command but the power events and the end of
LOADING does to them: the mode changes only from UNCONFIGURED to ACTIVE, and READY stays.
-/

namespace Sys2Proof.Machine

variable {s t u : State}

/-- See the head of the file. -/
structure State.GoesForward (s t : State) : Prop where
  active : ∀ g, s.mode = .active g → t.mode = .active g
  unconfigured : s.mode = .unconfigured → t.mode ≠ .loading
  loading : s.mode = .loading → t.mode = .loading
  ready : t.ready = s.ready

namespace State.GoesForward

theorem ofSame (mode : t.mode = s.mode) (ready : t.ready = s.ready) : s.GoesForward t where
  active _ h := mode.trans h
  unconfigured h := by rw [mode, h]; nofun
  loading h := mode.trans h
  ready := ready

theorem ofKept (k : Kept s t) : s.GoesForward t := ofSame k.mode k.ready

theorem trans (a : s.GoesForward t) (b : t.GoesForward u) : s.GoesForward u where
  active g h := b.active g (a.active g h)
  unconfigured h := by
    cases mode : t.mode with
    | loading => exact absurd mode (a.unconfigured h)
    | unconfigured => exact b.unconfigured mode
    | active g => rw [b.active g mode]; nofun
  loading h := b.loading (a.loading h)
  ready := b.ready.trans a.ready

/-- R177: only UNCONFIGURED is left for ACTIVE. -/
theorem toActive {g : Geometry} (unconfigured : s.mode = .unconfigured) (mode : t.mode = .active g) (ready : t.ready = s.ready) :
    s.GoesForward t where
  active _ h := by rw [unconfigured] at h; cases h
  unconfigured _ := by rw [mode]; nofun
  loading h := by rw [unconfigured] at h; cases h
  ready := ready

end State.GoesForward

/-! ## The completions of the burn engine -/

section
variable (s)

@[simp] theorem State.burnSlot_ready (i : EntryIx) (o : Origin) (n : SlotNo) : (s.burnSlot i o n).ready = s.ready := by
  unfold State.burnSlot; split <;> rfl

@[simp] theorem State.engineDone_ready (kind : OperationKind) (done : Bool) : (s.engineDone kind done).ready = s.ready := rfl

theorem State.burnCompletes_goesForward (v : Bool) : s.GoesForward (s.burnCompletes v) := by
  unfold State.burnCompletes State.finishBurn; split
  · split
    · exact .ofSame (by simp) (by simp)
    · exact .ofSame (by simp) (by simp)
  · exact .ofSame rfl rfl

theorem State.revokeCompletes_goesForward (v : Bool) : s.GoesForward (s.revokeCompletes v) := by
  unfold State.revokeCompletes State.finishRevoke; split
  · split
    · exact .ofSame (by simp) (by simp)
    · exact .ofSame (by simp) (by simp)
  · exact .ofSame rfl rfl

theorem State.geometryCompletes_goesForward (v : Bool) : s.GoesForward (s.geometryCompletes v) := by
  unfold State.geometryCompletes State.finishGeometry; split
  · split
    · exact .ofSame (by simp) (by simp)
    · exact .ofSame (by simp) (by simp)
  · exact .ofSame rfl rfl

/-! ## CONFIGURE -/

theorem State.decideConfigure_goesForward (r w : Byte) : s.GoesForward (s.decideConfigure r w) := by
  unfold State.decideConfigure; split
  · exact .ofKept (Kept.refuse ..)
  · exact .ofKept (Kept.refuse ..)
  · next unconfigured =>
    unfold State.whenSome; split
    · next g _ =>
      have answered := Kept.answer (s.enterActive g) .ok (.configured (s.load g).loaded.length (s.enterActive g).rmt.generation)
      exact .toActive unconfigured answered.mode (answered.ready.trans (s.enterActive_ready g))
    · exact .ofKept (Kept.refuse ..)

theorem State.takeConfigure_goesForward (r w : Byte) :
    s.GoesForward (s.takeRequest (.configure r w) (State.decideConfigure r w)) :=
  State.takeRequest_induction (.ofSame rfl rfl) (.ofKept (Kept.acceptRequest ..))
    fun u hu => hu.trans (u.decideConfigure_goesForward r w)

end

/-! ## Every command -/

theorem exec_goesForward {c : Instr} (notOn : c ≠ .powerOn) (notAssert : c ≠ .powerOnResetAssert)
    (read : c ≠ .loadComplete ∨ s.mode ≠ .loading) (h : exec c s = .next t) : s.GoesForward t := by
  by_cases other : changesModeOrCells c = false
  · exact .ofKept (exec_kept other h)
  cases c with
  | powerOn => exact absurd rfl notOn
  | powerOnResetAssert => exact absurd rfl notAssert
  | loadComplete =>
    have ended : s.mode ≠ .loading := read.resolve_left (absurd rfl)
    exact Host.Outcome.next.inj ((exec_loadComplete_of_idle (.inr ended)).symm.trans h) ▸ .ofSame rfl rfl
  | configure r w => exact Host.Outcome.next.inj h ▸ s.takeConfigure_goesForward r w
  | burnComplete v => exact Host.Outcome.next.inj h ▸ s.burnCompletes_goesForward v
  | revokeComplete v => exact Host.Outcome.next.inj h ▸ s.revokeCompletes_goesForward v
  | burnGeometryComplete v => exact Host.Outcome.next.inj h ▸ s.geometryCompletes_goesForward v
  | _ => exact absurd rfl other

/-! ## The statement -/

/-- R174: the store's read ends LOADING. -/
theorem State.afterRead_mode (s : State) : s.afterRead.mode ≠ .loading := by
  unfold State.afterRead; split <;> nofun

/-- Settles O12: the power events and the end of LOADING by what they leave, every other command by `State.GoesForward`. -/
theorem readyAndModeMoveForward : Obligations.ReadyAndModeMoveForward := by
  refine ⟨fun s => ⟨_, rfl, rfl, rfl⟩, fun s => ⟨_, rfl, rfl, rfl⟩,
    fun s released loading => ⟨_, exec_loadComplete_of_loading released loading, rfl, s.afterRead_mode⟩,
    fun s held => exec_loadComplete_of_idle (.inl held), fun c s t notOn notAssert h => ?_⟩
  have forward (read : c ≠ .loadComplete ∨ s.mode ≠ .loading) : s.GoesForward t := exec_goesForward notOn notAssert read h
  refine ⟨fun g active => ?_, fun unconfigured => ?_, fun read => (forward read).ready,
    fun other => (forward (.inl other)).loading⟩
  · exact (forward (.inr (by rw [active]; nofun))).active g active
  · exact (forward (.inr (by rw [unconfigured]; nofun))).unconfigured unconfigured

end Sys2Proof.Machine
end

section
/-! The power events (R172): the state that they leave, and the cells of a store with no operation in flight. -/

namespace Sys2Proof.Machine

variable {s : State}

/-! ## Power-on values -/

/-- R48. -/
theorem State.reset_record (r : Rank) (b : Bank) : State.reset.record r b = none := by
  simp [State.record, State.reset, Translator.reset, recordsClosed]

/-- R153. -/
theorem State.reset_loadResults (k : RecIx) : State.reset.rst.loadResults[k] = none := by
  simp [State.reset, RepairStore.reset]

/-- R172: every block reads its power-on value, whatever the part was doing. -/
theorem State.powerOnValues_atPowerOn (s : State) (held : Bool) : (s.powerOnValues held).AtPowerOn where
  mode := rfl
  ready := rfl
  entries := State.reset_entry
  generation := rfl
  slots := State.reset_slot
  records := State.reset_record
  aliasCount := rfl
  contexts := State.reset_ctx
  reports := rfl
  link := ⟨rfl, rfl, rfl, rfl, rfl⟩
  watch := ⟨rfl, rfl, rfl⟩
  profile0 := rfl
  profile1 := rfl
  selectors := ⟨rfl, rfl, rfl⟩
  queues := ⟨rfl, rfl⟩
  loadResults := State.reset_loadResults
  store := ⟨rfl, rfl, rfl, rfl⟩
  port := ⟨rfl, rfl⟩
  conditions := ⟨rfl, rfl, rfl⟩

/-- R172: no block's value hangs on the address sampled. -/
theorem State.AtPowerOn.sampling (h : s.AtPowerOn) (a : BitVec 3) : ({ s with target := a } : State).AtPowerOn :=
  { h with }

/-! ## The loss of power -/

/-- R64, R196: what programming had reached leaves the reset line as it is. -/
theorem State.cutShort_resetLine (s : State) : s.cutShort.ctr.resetLine = s.ctr.resetLine := by
  unfold State.cutShort; split <;> rfl

theorem State.cutShort_of_idle (idle : s.rst.operation = none) : s.cutShort = s := by rw [State.cutShort, idle]

/-- R172, assumption 10: what POWER_ON starts from. A part held by the input has lost its operation before. -/
def State.poweredDown (s : State) : State := if s.powerHeld then s else s.cutShort

theorem State.poweredDown_resetLine (s : State) : s.poweredDown.ctr.resetLine = s.ctr.resetLine := by
  unfold State.poweredDown; split
  · rfl
  · exact s.cutShort_resetLine

theorem State.poweredDown_of_idle (h : s.rst.operation = none ∨ s.powerHeld = true) : s.poweredDown = s := by
  unfold State.poweredDown; split
  · rfl
  · next released => exact State.cutShort_of_idle (h.resolve_right released)

/-- Settles O19: the two events reset the same blocks, and differ in the pins and in what may still be in flight. -/
theorem powerEventsResetTheBlocks : Obligations.PowerEventsResetTheBlocks := by
  intro s
  have on : exec .powerOn s = .next { s.poweredDown.powerOnValues false with target := s.adrPins } := rfl
  refine ⟨⟨_, on, (s.poweredDown.powerOnValues_atPowerOn false).sampling _, rfl, rfl, s.poweredDown_resetLine,
      fun idle => ?_⟩,
    ⟨_, rfl, s.cutShort.powerOnValues_atPowerOn true, rfl, s.cutShort_resetLine, fun idle => ?_⟩⟩
  · rw [State.poweredDown_of_idle idle]
    exact ⟨rfl, rfl⟩
  · rw [State.cutShort_of_idle idle]
    exact ⟨rfl, rfl⟩

end Sys2Proof.Machine
end

section
/-! One millisecond of the clock (assumption 1). -/

namespace Sys2Proof.Machine

variable {s : State}

theorem step_idle (nothing : s.pending = []) : step s = .next s.tick := by rw [step, nothing]

theorem State.tick_held (held : s.powerHeld = true) : s.tick = s := if_pos held

/-- Settles O2: by whether the part is held; PROBATION runs two timers, READY one, the other stages none. -/
theorem idleStepPassesOneMs : Obligations.IdleStepPassesOneMs := by
  intro s nothing
  rw [step_idle nothing]
  refine ⟨fun held => congrArg _ (State.tick_held held), fun released => congrArg _ ?_⟩
  rw [State.tick, if_neg (Bool.eq_false_iff.1 released)]
  cases s.rst.stage <;> rfl

end Sys2Proof.Machine
end

section
/-!
The decision of a request by its owner (R184): the command of a request in hand is its owner's decision, and one that is not in hand
stands for its frame with tag 00h (assumption 3).
-/

namespace Sys2Proof.Machine

variable {s : State} {h : InHand} {q : Request} {tag : Byte}

/-- The decision that the owner of a request takes (R184). -/
def decisionOf : Request → State → State
  | .tableRead i => State.decideTableRead i
  | .tableFind r b row => State.decideTableFind r b row
  | .release i => State.decideRelease i
  | .slotRead r b k => State.decideSlotRead r b k
  | .slotTestBegin r b k => State.decideTestBegin r b k
  | .slotTestEnd r b k v => State.decideTestEnd r b k v
  | .slotGrade r b k v => State.decideSlotGrade r b k v
  | .contextRead c => State.decideContextRead c
  | .repair r b row => State.decideRepair r b row
  | .move i => State.decideMove i
  | .cancel c => State.decideCancel c
  | .watchRead p => State.decideWatchRead p
  | .watchClear r b row k => State.decideWatchClear r b row k
  | .profileRead p => State.decideProfileRead p
  | .profileEditSelect p => State.decideEditSelect p
  | .profileWrite f v => State.decideProfileWrite f v
  | .profileRunSelect p => State.decideRunSelect p
  | .configure r w => State.decideConfigure r w
  | .stage i => State.decideStage i
  | .burn => State.decideBurn
  | .revoke k => State.decideRevoke k
  | .burnGeometry => State.decideBurnGeometry
  | .lockStore => State.decideLockStore
  | .storeRead k => State.decideStoreRead k
  | .storeStatus => State.decideStoreStatus
  | .conditionRead => State.decideConditionRead
  | .conditionClear x => State.decideConditionClear x
  | .alertMask x => State.decideAlertMask x
  | .warmReset => State.decideWarmReset

theorem exec_commandOf (q : Request) (s : State) : exec (commandOf q) s = .next (s.takeRequest q (decisionOf q)) := by
  cases q <;> rfl

theorem exec_commandOf_inHand (hh : s.hasInHand h q) : exec (commandOf q) s = .next (decisionOf q s) :=
  (exec_commandOf q s).trans (congrArg _ (State.takeRequest_inHand hh _))

/-! ## A frame handed to the port (R181, R183) -/

/-- The state in which an answer given at once, with the tag of its frame, has superseded the request in hand (R183). -/
theorem State.refuseFrame_eq (s : State) (tag : Byte) (st : Status) : s.refuseFrame tag st =
    { s with port := { s.port with
      inHand := s.port.inHand.map fun h => { h with superseded := true }
      response := .composed tag st .none } } := rfl

theorem State.acceptRequest_of_idle (idle : s.port.inHand = none) : s.acceptRequest tag q =
    { s with port := { s.port with inHand := some ⟨q, tag, false⟩, response := .inProgress } } := by
  rw [State.acceptRequest, idle]
  rfl

theorem State.acceptRequest_of_executing (executing : s.port.inHand ≠ none) : s.acceptRequest tag q = s.refuseFrame tag .busy := by
  obtain ⟨h, inHand⟩ := Option.ne_none_iff_exists'.1 executing
  rw [State.acceptRequest, inHand]

/-! ## A request not in hand -/

theorem Port.awaits_of_idle {p : Port} (idle : p.inHand = none) : p.awaits q = false := by
  rw [Port.awaits, idle]

theorem Port.awaits_of_other {p : Port} (inHand : p.inHand = some h) (other : h.request ≠ q ∨ p.warmParts ≠ []) :
    p.awaits q = false := by
  simp only [Port.awaits, inHand]
  rcases other with other | parts
  · simp [other]
  · simp [parts]

/-- Assumption 3: the frame of a request not in hand is taken first, and its decision if the port took it in hand. -/
theorem State.takeRequest_of_unawaited (released : s.powerHeld = false) (unawaited : s.port.awaits q = false) (f : State → State) :
    s.takeRequest q f = if (s.acceptRequest 0 q).port.awaits q then f (s.acceptRequest 0 q) else s.acceptRequest 0 q := by
  rw [State.takeRequest, released, unawaited]
  rfl

/-- Settles O18: by whether the port is IDLE or has another request, or a warm reset, in hand. -/
theorem requestNotInHand : Obligations.RequestNotInHand := by
  intro q s released
  refine ⟨fun idle parts => ?_, fun h inHand other => ?_⟩
  · let taken : State := { s with port := { s.port with inHand := some ⟨q, 0, false⟩, response := .inProgress } }
    have waits : taken.hasInHand ⟨q, 0, false⟩ q := ⟨released, rfl, rfl, parts⟩
    have awaited : taken.port.awaits q = true := by simp [taken, Port.awaits, parts]
    rw [exec_commandOf_inHand waits, exec_commandOf, State.takeRequest_of_unawaited released (Port.awaits_of_idle idle),
      State.acceptRequest_of_idle idle, if_pos awaited]
  · have executing : s.port.inHand ≠ none := by rw [inHand]; nofun
    have superseded : s.refuseFrame 0 .busy = { s with port := { s.port with
        inHand := some { h with superseded := true }, response := .composed 0 .busy .none } } := by
      rw [State.refuseFrame_eq, inHand]
      rfl
    have unawaited : (s.refuseFrame 0 .busy).port.awaits q = false := by
      rw [superseded]
      exact Port.awaits_of_other (h := { h with superseded := true }) rfl other
    rw [exec_commandOf, State.takeRequest_of_unawaited released (Port.awaits_of_other inHand other),
      State.acceptRequest_of_executing executing, if_neg (Bool.eq_false_iff.1 unawaited), superseded]

end Sys2Proof.Machine
end

section
/-! The request frames (R181, R183): the length, the check byte, the code and its operands, in that order. -/

namespace Sys2Proof.Machine

variable {s : State} {bytes ops more : List Byte} {len code tag check : Byte} {q : Request} {st : Status}

/-! ## The framing checks -/

theorem frameCheck_of_length (wrong : bytes.head? ≠ some (BitVec.ofNat 8 bytes.length) ∨ 10 < bytes.length) :
    frameCheck bytes = .refused .badFrame := if_pos wrong

theorem frameCheck_of_check (wrong : bytes.getLast? ≠ some (checkByte bytes.dropLast)) : frameCheck bytes = .refused .badFrame := by
  rw [frameCheck, if_pos wrong, ite_self]

theorem frameCheck_of_whole (length : bytes.head? = some (BitVec.ofNat 8 bytes.length)) (short : bytes.length ≤ 10)
    (check : bytes.getLast? = some (checkByte bytes.dropLast)) :
    frameCheck bytes = (frameRequest bytes).elim (.refused .badRequest) .request := by
  have right : ¬(bytes.head? ≠ some (BitVec.ofNat 8 bytes.length) ∨ bytes.length > Config.longestRequest) :=
    not_or.2 ⟨not_not.2 length, Nat.not_lt.2 short⟩
  rw [frameCheck, if_neg right, if_neg (not_not.2 check)]
  cases frameRequest bytes <;> rfl

/-- A frame of the length and the check byte that its bytes call for goes by its code and operands. -/
theorem frameCheck_withCheck (short : ops.length ≤ 6) :
    frameCheck (withCheck (BitVec.ofNat 8 (ops.length + 4) :: code :: tag :: ops)) =
      (requestOf code ops).elim (.refused .badRequest) .request := by
  refine (frameCheck_of_whole ?_ ?_ ?_).trans ?_
  · simp [withCheck]
  · simp only [withCheck, List.length_append, List.length_cons, List.length_nil]
    omega
  · rw [withCheck, List.dropLast_concat, List.getLast?_concat]
  · simp [withCheck, frameRequest]

/-- No length byte but the frame's own length is right, and no length above 10. -/
theorem frameCheck_of_badLength (wrong : len.toNat ≠ more.length + 3 ∨ 10 < len.toNat) :
    frameCheck (len :: code :: tag :: more) = .refused .badFrame := by
  refine frameCheck_of_length ?_
  by_cases long : 10 < (len :: code :: tag :: more).length
  · exact .inr long
  · refine .inl fun same => ?_
    have same : len.toNat = (more.length + 3) % 256 := by simpa using congrArg (Option.map BitVec.toNat) same
    simp only [List.length_cons] at long
    omega

theorem frameCheck_of_badCheck (wrong : check ≠ checkByte (len :: code :: tag :: ops)) :
    frameCheck (len :: code :: tag :: (ops ++ [check])) = .refused .badFrame := by
  refine frameCheck_of_check fun same => wrong ?_
  have split : len :: code :: tag :: (ops ++ [check]) = (len :: code :: tag :: ops) ++ [check] := rfl
  rw [split, List.getLast?_concat, List.dropLast_concat] at same
  exact Option.some.inj same

/-! ## The event -/

theorem exec_requestFrame (released : s.powerHeld = false) (first : Byte) (more : List Byte) :
    exec (.requestFrame (first :: more)) s = .next (s.takeFrame (first :: more)) :=
  congrArg Host.Outcome.next (if_neg (by simp [released]))

theorem exec_requestFrame_of_refused (released : s.powerHeld = false)
    (refused : frameCheck (len :: code :: tag :: more) = .refused st) :
    exec (.requestFrame (len :: code :: tag :: more)) s = .next (s.refuseFrame tag st) := by
  rw [exec_requestFrame released, State.takeFrame, refused]
  rfl

theorem exec_requestFrame_of_request (released : s.powerHeld = false)
    (good : frameCheck (len :: code :: tag :: more) = .request q) :
    exec (.requestFrame (len :: code :: tag :: more)) s = .next (s.acceptRequest tag q) := by
  rw [exec_requestFrame released, State.takeFrame, good]
  rfl

/-- Settles O50: what each check makes of the frame, and a good frame by whether the port is IDLE. -/
theorem requestFramesAreAnswered : Obligations.RequestFramesAreAnswered := by
  intro s
  refine ⟨fun held bytes => congrArg _ (if_pos (.inl held)), congrArg _ (if_pos (.inr rfl)), fun released => ⟨?_, ?_, ?_, ?_⟩⟩
  · intro code tag ops q short named
    have good := frameCheck_withCheck (tag := tag) (code := code) short
    rw [named] at good
    have taken := exec_requestFrame_of_request released good
    exact ⟨fun idle => taken.trans (congrArg _ (State.acceptRequest_of_idle idle)),
      fun executing => taken.trans (congrArg _ (State.acceptRequest_of_executing executing))⟩
  · intro code tag ops short unnamed
    have bad := frameCheck_withCheck (tag := tag) (code := code) short
    rw [unnamed] at bad
    exact exec_requestFrame_of_refused released bad
  · exact fun len code tag more wrong => exec_requestFrame_of_refused released (frameCheck_of_badLength wrong)
  · exact fun len code tag ops check wrong => exec_requestFrame_of_refused released (frameCheck_of_badCheck wrong)

end Sys2Proof.Machine
end

section
/-!
The two outputs through every command (R175, R187). ALERT is evaluated wherever the conditions or the mask change. READY and the
power-on reset input change at the power events and at the end of LOADING only.
-/

namespace Sys2Proof.Machine

variable {s t : State}

/-! ## ALERT (R187) -/

theorem State.AlertFollows.ofKept (h : s.AlertFollows) (k : Kept s t) : t.AlertFollows := k.alert h

/-- R186: the raising of a condition evaluates ALERT. -/
theorem State.raise_alertFollows (s : State) (k : Condition) : (s.raise k).AlertFollows := rfl

theorem State.engineDone_alertFollows (s : State) (kind : OperationKind) (done : Bool) : (s.engineDone kind done).AlertFollows :=
  State.raise_alertFollows ..

theorem State.AlertFollows.burnCompletes (h : s.AlertFollows) (v : Bool) : (s.burnCompletes v).AlertFollows := by
  unfold State.burnCompletes State.finishBurn; split
  · split <;> exact State.engineDone_alertFollows ..
  · exact h

theorem State.AlertFollows.revokeCompletes (h : s.AlertFollows) (v : Bool) : (s.revokeCompletes v).AlertFollows := by
  unfold State.revokeCompletes State.finishRevoke; split
  · split <;> exact State.engineDone_alertFollows ..
  · exact h

theorem State.AlertFollows.geometryCompletes (h : s.AlertFollows) (v : Bool) : (s.geometryCompletes v).AlertFollows := by
  unfold State.geometryCompletes State.finishGeometry; split
  · split <;> exact State.engineDone_alertFollows ..
  · exact h

/-- R157: a record in conflict raises STORE_CONFLICT, and the others leave the port alone. -/
theorem loadRecord_alertFollows {x : Loading} (h : x.state.AlertFollows) (g : Geometry) (k : RecIx) :
    (loadRecord g x k).state.AlertFollows := by
  unfold loadRecord; split
  · exact h
  · exact h
  · exact State.raise_alertFollows ..
  · split
    · split <;> exact h
    · exact State.raise_alertFollows ..

theorem State.AlertFollows.setMode (h : s.AlertFollows) (m : Mode) : ({ s with mode := m } : State).AlertFollows := h

theorem State.AlertFollows.enterActive (h : s.AlertFollows) (g : Geometry) : (s.enterActive g).AlertFollows := by
  have loaded : (s.load g).state.AlertFollows :=
    State.load_induction (P := fun x => x.state.AlertFollows) h fun _ k hx => loadRecord_alertFollows hx g k
  have entered : (((s.load g).state.applyPendingRun).startDecay).AlertFollows :=
    loaded.ofKept ((Kept.applyPendingRun _).trans (Kept.startDecay _))
  exact entered.setMode _

theorem State.AlertFollows.afterRead (h : s.AlertFollows) : s.afterRead.AlertFollows := by
  unfold State.afterRead; split
  · exact h.enterActive _
  · exact h
  · exact State.raise_alertFollows ..

theorem State.AlertFollows.loadComplete (h : s.AlertFollows) (hn : execLoadComplete s = .next t) : t.AlertFollows := by
  refine Host.Outcome.next.inj hn ▸ ?_
  split
  · exact h
  · exact h.afterRead

theorem State.AlertFollows.decideConfigure (h : s.AlertFollows) (r w : Byte) : (s.decideConfigure r w).AlertFollows := by
  unfold State.decideConfigure; split
  · exact h.ofKept (Kept.refuse ..)
  · exact h.ofKept (Kept.refuse ..)
  · unfold State.whenSome; split
    · exact (h.enterActive _).ofKept (Kept.answer ..)
    · exact h.ofKept (Kept.refuse ..)

theorem State.AlertFollows.takeConfigure (h : s.AlertFollows) (r w : Byte) :
    (s.takeRequest (.configure r w) (State.decideConfigure r w)).AlertFollows :=
  State.takeRequest_induction h (h.ofKept (Kept.acceptRequest ..)) fun _ hu => hu.decideConfigure r w

theorem exec_keepsAlert {c : Instr} (h : s.AlertFollows) (hn : exec c s = .next t) : t.AlertFollows := by
  by_cases other : changesModeOrCells c = false
  · exact h.ofKept (exec_kept other hn)
  cases c with
  | powerOn => exact Host.Outcome.next.inj hn ▸ State.reset_alertFollows
  | powerOnResetAssert => exact Host.Outcome.next.inj hn ▸ State.reset_alertFollows
  | loadComplete => exact h.loadComplete hn
  | burnComplete v => exact Host.Outcome.next.inj hn ▸ h.burnCompletes v
  | revokeComplete v => exact Host.Outcome.next.inj hn ▸ h.revokeCompletes v
  | burnGeometryComplete v => exact Host.Outcome.next.inj hn ▸ h.geometryCompletes v
  | configure r w => exact Host.Outcome.next.inj hn ▸ h.takeConfigure r w
  | _ => exact absurd rfl other

/-! ## The power-on reset input (R172) -/

section
variable (s)

@[simp] theorem State.burnSlot_powerHeld (i : EntryIx) (o : Origin) (n : SlotNo) :
    (s.burnSlot i o n).powerHeld = s.powerHeld := by
  unfold State.burnSlot; split <;> rfl

@[simp] theorem State.engineDone_powerHeld (kind : OperationKind) (done : Bool) :
    (s.engineDone kind done).powerHeld = s.powerHeld := rfl

theorem State.burnCompletes_powerHeld (v : Bool) : (s.burnCompletes v).powerHeld = s.powerHeld := by
  unfold State.burnCompletes State.finishBurn; split
  · split <;> simp
  · rfl

theorem State.revokeCompletes_powerHeld (v : Bool) : (s.revokeCompletes v).powerHeld = s.powerHeld := by
  unfold State.revokeCompletes State.finishRevoke; split
  · split <;> simp
  · rfl

theorem State.geometryCompletes_powerHeld (v : Bool) : (s.geometryCompletes v).powerHeld = s.powerHeld := by
  unfold State.geometryCompletes State.finishGeometry; split
  · split <;> simp
  · rfl

theorem State.enterActive_powerHeld (g : Geometry) : (s.enterActive g).powerHeld = s.powerHeld := by
  rw [State.enterActive_eq]
  generalize (s.load g).state = u
  rfl

theorem State.afterRead_powerHeld : s.afterRead.powerHeld = s.powerHeld := by
  unfold State.afterRead; split
  · exact s.enterActive_powerHeld _
  · rfl
  · rfl

theorem State.decideConfigure_powerHeld (r w : Byte) : (s.decideConfigure r w).powerHeld = s.powerHeld := by
  unfold State.decideConfigure; split
  · exact (Kept.refuse ..).powerHeld
  · exact (Kept.refuse ..).powerHeld
  · unfold State.whenSome; split
    · exact (Kept.answer ..).powerHeld.trans (s.enterActive_powerHeld _)
    · exact (Kept.refuse ..).powerHeld

end

/-- R172: no command but the power events asserts or releases the input. -/
theorem exec_keepsPowerHeld {c : Instr} (notOn : c ≠ .powerOn) (notAssert : c ≠ .powerOnResetAssert) (hn : exec c s = .next t) :
    t.powerHeld = s.powerHeld := by
  by_cases other : changesModeOrCells c = false
  · exact (exec_kept other hn).powerHeld
  cases c with
  | powerOn => exact absurd rfl notOn
  | powerOnResetAssert => exact absurd rfl notAssert
  | loadComplete =>
    refine Host.Outcome.next.inj hn ▸ ?_
    split
    · rfl
    · exact s.afterRead_powerHeld
  | burnComplete v => exact Host.Outcome.next.inj hn ▸ s.burnCompletes_powerHeld v
  | revokeComplete v => exact Host.Outcome.next.inj hn ▸ s.revokeCompletes_powerHeld v
  | burnGeometryComplete v => exact Host.Outcome.next.inj hn ▸ s.geometryCompletes_powerHeld v
  | configure r w =>
    exact Host.Outcome.next.inj hn ▸ State.takeRequest_induction (P := fun u => u.powerHeld = s.powerHeld) rfl
      (Kept.acceptRequest ..).powerHeld fun u hu => (u.decideConfigure_powerHeld r w).trans hu
  | _ => exact absurd rfl other

/-! ## READY (R175) -/

/-- R171: a command that moves the mode forward takes no part out of LOADING or back to it. -/
theorem State.GoesForward.loading_iff (forward : s.GoesForward t) : t.mode = .loading ↔ s.mode = .loading := by
  refine ⟨fun after => ?_, forward.loading⟩
  cases before : s.mode with
  | loading => rfl
  | unconfigured => exact absurd after (forward.unconfigured before)
  | active g => cases (forward.active g before).symm.trans after

theorem State.ReadyFollows.ofForward (h : s.ReadyFollows) (forward : s.GoesForward t) (held : t.powerHeld = s.powerHeld) :
    t.ReadyFollows := by
  obtain ⟨ready, loading⟩ := h
  refine ⟨?_, fun asserted => forward.loading_iff.2 (loading (held ▸ asserted))⟩
  rw [forward.ready, ready]
  exact decide_eq_decide.2 (not_congr forward.loading_iff.symm)

theorem State.ReadyFollows.ofKept (h : s.ReadyFollows) (k : Kept s t) : t.ReadyFollows := h.ofForward (.ofKept k) k.powerHeld

/-- R174: with the end of LOADING on a part released, READY goes high. -/
theorem State.loadComplete_readyFollows (released : s.powerHeld = false) :
    ({ s.afterRead with ready := true } : State).enterGreeting.ReadyFollows := by
  refine ⟨(decide_eq_true s.afterRead_mode).symm, fun asserted => ?_⟩
  exact absurd (s.afterRead_powerHeld.symm.trans asserted) (by rw [released]; decide)

theorem State.ReadyFollows.loadComplete (h : s.ReadyFollows) (hn : exec .loadComplete s = .next t) : t.ReadyFollows := by
  by_cases reads : s.powerHeld = false ∧ s.mode = .loading
  · obtain ⟨released, loading⟩ := reads
    exact Host.Outcome.next.inj ((exec_loadComplete_of_loading released loading).symm.trans hn) ▸
      State.loadComplete_readyFollows released
  · have idle : s.powerHeld = true ∨ s.mode ≠ .loading := (not_and_or.1 reads).imp_left Bool.eq_true_of_not_eq_false
    exact Host.Outcome.next.inj ((exec_loadComplete_of_idle idle).symm.trans hn) ▸ h

theorem exec_keepsReady {c : Instr} (h : s.ReadyFollows) (hn : exec c s = .next t) : t.ReadyFollows := by
  by_cases power : c = .powerOn ∨ c = .powerOnResetAssert
  · rcases power with rfl | rfl
    · exact Host.Outcome.next.inj hn ▸ ⟨rfl, nofun⟩
    · exact Host.Outcome.next.inj hn ▸ ⟨rfl, fun _ => rfl⟩
  obtain ⟨notOn, notAssert⟩ := not_or.1 power
  by_cases read : c = .loadComplete
  · subst read
    exact h.loadComplete hn
  · exact h.ofForward (exec_goesForward notOn notAssert (.inl read) hn) (exec_keepsPowerHeld notOn notAssert hn)

/-! ## The statement -/

/-- Settles O5: a step is the passing of time or the command at the head of the queue. -/
theorem stepKeepsOutputs : Obligations.StepKeepsOutputs := by
  intro s t alert ready h
  unfold step at h
  split at h
  · exact Host.Outcome.next.inj h ▸ ⟨alert.ofKept (Kept.tick s), ready.ofKept (Kept.tick s)⟩
  · next rest _ =>
    have queueAlert : ({ s with pending := rest } : State).AlertFollows := alert
    have queueReady : ({ s with pending := rest } : State).ReadyFollows := ready
    exact ⟨exec_keepsAlert queueAlert h, exec_keepsReady queueReady h⟩

end Sys2Proof.Machine
end

section
/-!
SUPPORT. The port's record, which is the port without what a raised condition changes: IN_HAND, RESPONSE, the parts of a warm reset
outstanding and the mask (R180, R190, R191). The operations of the other blocks leave it as it is.
-/

namespace Sys2Proof.Machine

/-- See the head of the section. -/
def State.portRecord (s : State) : Port := { s.port with conditions := 0, alert := false }

theorem State.portRecord_of_port {s t : State} (h : t.port = s.port) : t.portRecord = s.portRecord := by
  rw [State.portRecord, h, State.portRecord]

theorem State.portRecord_of_offLink {s t : State} (h : t.offLink = s.offLink) : t.portRecord = s.portRecord :=
  (congrArg State.portRecord h :)
theorem State.portRecord_of_elsewhere {s t : State} (h : t.elsewhere = s.elsewhere) : t.portRecord = s.portRecord :=
  (congrArg State.port h :)

theorem State.inHand_of_portRecord {s t : State} (h : t.portRecord = s.portRecord) : t.port.inHand = s.port.inHand :=
  (congrArg Port.inHand h :)
theorem State.alertMask_of_portRecord {s t : State} (h : t.portRecord = s.portRecord) : t.port.alertMask = s.port.alertMask :=
  (congrArg Port.alertMask h :)

namespace State

variable (s : State)

/-! ## The link -/

@[simp] theorem raise_portRecord (k : Condition) : (s.raise k).portRecord = s.portRecord := rfl

@[simp] theorem raiseIf_portRecord (b : Bool) (k : Condition) : (s.raiseIf b k).portRecord = s.portRecord :=
  portRecord_of_elsewhere (s.raiseIf_elsewhere b k)

@[simp] theorem makeMsg_portRecord (c : Ctx) (m : OutMsg) : (s.makeMsg c m).portRecord = s.portRecord :=
  portRecord_of_offLink (s.makeMsg_offLink c m)

@[simp] theorem queueGreeting_portRecord (m : OutMsg) : (s.queueGreeting m).portRecord = s.portRecord :=
  portRecord_of_offLink (SameButMessages.queueGreeting s m).offLink

@[simp] theorem purgeOutbound_portRecord (keep : OutMsg → Bool) : (s.purgeOutbound keep).portRecord = s.portRecord :=
  portRecord_of_offLink (s.purgeOutbound_offLink keep)

@[simp] theorem endAllSilently_portRecord (r : AbortReason) : (s.endAllSilently r).portRecord = s.portRecord :=
  portRecord_of_elsewhere (s.endAllSilently_elsewhere r)

theorem refill_portRecord : s.refill.portRecord = s.portRecord := portRecord_of_offLink (refillUpTo_offLink ..)

theorem transmitHead_portRecord : s.transmitHead.portRecord = s.portRecord := by
  unfold transmitHead; split
  · exact refill_portRecord _
  · rfl

@[simp] theorem answerStale_portRecord (r : Reply) : (s.answerStale r).portRecord = s.portRecord := by
  unfold answerStale sendStale; split <;> rfl

theorem linkFail_portRecord : s.linkFail.portRecord = s.portRecord :=
  have after (u : State) : (u.clearAllHeld.raise .linkFault).enterGreeting.portRecord = u.portRecord := rfl
  (after _).trans (s.linkDown.endAllSilently_portRecord .linkDown)

theorem badFrame_portRecord : s.badFrame.portRecord = s.portRecord := by
  unfold badFrame; split
  · split
    · exact s.linkFail_portRecord
    · rfl
  · rfl

theorem linkUp_portRecord : s.linkUp.portRecord = s.portRecord :=
  purgeOutbound_portRecord { s with sbl := { s.sbl with state := .up, retryTimer := none } } _

theorem greetAnew_portRecord : s.greetAnew.portRecord = s.portRecord :=
  have after (u : State) : u.clearAllHeld.onlyHelloAck.portRecord = u.portRecord := rfl
  (after _).trans ((endAllSilently_portRecord ..).trans (s.queueGreeting_portRecord .helloAck))

theorem takeHello_portRecord (level count : Byte) : (s.takeHello level count).portRecord = s.portRecord := by
  unfold takeHello; split
  · rfl
  · split
    · rfl
    · exact (endAllSilently_portRecord ..).trans ((queueGreeting_portRecord ..).trans s.linkUp_portRecord)
    · exact s.greetAnew_portRecord

theorem takeHelloAck_portRecord (level count : Byte) : (s.takeHelloAck level count).portRecord = s.portRecord := by
  unfold takeHelloAck; split
  · rfl
  · split
    · rfl
    · exact s.linkUp_portRecord
    · rfl

@[simp] theorem receive_portRecord (m : InMsg) : (s.receive m).portRecord = s.portRecord := by
  unfold receive; split
  · cases m with
    | errorNote n => unfold passNote; dsimp only; split <;> rfl
    | reply r => unfold passReply; dsimp only; split <;> rfl
    | hello level count => exact s.goodFrame.takeHello_portRecord level count
    | helloAck level count => exact s.goodFrame.takeHelloAck_portRecord level count
  · rfl

/-! ## Migrations, replies and reports -/

@[simp] theorem enterTimed_portRecord (c : Ctx) (st : BusyState) (j : Job) (ms : Nat) :
    (s.enterTimed c st j ms).portRecord = s.portRecord := rfl
@[simp] theorem enterState_portRecord (c : Ctx) (st : BusyState) (j : Job) : (s.enterState c st j).portRecord = s.portRecord := rfl
@[simp] theorem enterIdle_portRecord (c : Ctx) (j : Job) : (s.enterIdle c j).portRecord = s.portRecord :=
  portRecord_of_offLink (s.enterIdle_offLink c j)
@[simp] theorem abort_portRecord (c : Ctx) (r : AbortReason) : (s.abort c r).portRecord = s.portRecord :=
  portRecord_of_elsewhere (s.abort_elsewhere c r)
@[simp] theorem cutover_portRecord (c : Ctx) (j : Job) : (s.cutover c j).portRecord = s.portRecord :=
  portRecord_of_elsewhere (s.cutover_elsewhere c j)
@[simp] theorem startRound_portRecord (c : Ctx) (j : Job) : (s.startRound c j).portRecord = s.portRecord :=
  portRecord_of_offLink (s.startRound_offLink c j)
@[simp] theorem requestFence_portRecord (c : Ctx) (j : Job) : (s.requestFence c j).portRecord = s.portRecord :=
  portRecord_of_offLink (s.requestFence_offLink c j)
@[simp] theorem takeAllReports_portRecord : s.takeAllReports.portRecord = s.portRecord :=
  portRecord_of_elsewhere s.takeAllReports_elsewhere
@[simp] theorem migrationChannelReset_portRecord : s.migrationChannelReset.portRecord = s.portRecord :=
  portRecord_of_elsewhere s.migrationChannelReset_elsewhere

@[simp] theorem armOrCutover_portRecord (c : Ctx) (j : Job) : (s.armOrCutover c j).portRecord = s.portRecord := by
  unfold armOrCutover; split <;> simp

@[simp] theorem endRound_portRecord (c : Ctx) (j : Job) : (s.endRound c j).portRecord = s.portRecord := by
  unfold endRound afterUncleanRound; split
  · simp
  · split
    · simp
    · split <;> simp

@[simp] theorem fencedTest_portRecord (c : Ctx) : (s.fencedTest c).portRecord = s.portRecord := by
  unfold fencedTest; dsimp only; split <;> simp

@[simp] theorem takeReplyBody_portRecord (r : Reply) : (s.takeReplyBody r).portRecord = s.portRecord := by
  unfold takeReplyBody; split
  · unfold takeAccept; split <;> simp
  · unfold takeRefuse; split <;> simp
  · unfold takeDone; split
    · dsimp only; split <;> simp
    · simp
  · unfold takeFenceSet; split
    · dsimp only; split <;> simp
    · simp
  · unfold takeFenceRelease; split <;> simp

@[simp] theorem takePassedReply_portRecord (r : Reply) : (s.takePassedReply r).portRecord = s.portRecord := by
  unfold takePassedReply; split
  · split
    · dsimp only; split
      · exact takeReplyBody_portRecord ..
      · rfl
    · rfl
  · rfl

theorem takeReply_portRecord (r : Reply) : (s.takeReply r).portRecord = s.portRecord := by
  unfold takeReply; split
  · rfl
  · split <;> simp

theorem takeHeadReport_portRecord : s.takeHeadReport.portRecord = s.portRecord := by
  unfold takeHeadReport; split
  · rfl
  · split
    · simp
    · exact portRecord_of_elsewhere (takeReports_elsewhere ..)

theorem takeHeadIf_portRecord (kind : Report → Bool) : (s.takeHeadIf kind).portRecord = s.portRecord := by
  unfold takeHeadIf; split
  · split
    · exact s.takeHeadReport_portRecord
    · rfl
  · rfl

theorem makeReport_portRecord (x : Report) : (s.makeReport x).portRecord = s.portRecord := by
  unfold makeReport; dsimp only; split
  · rfl
  · exact s.takeHeadReport_portRecord

theorem expire_portRecord (c : Ctx) (st : BusyState) (r : AbortReason) : (s.expire c st r).portRecord = s.portRecord := by
  unfold expire; split <;> simp

theorem closingExpiry_portRecord (c : Ctx) : (s.closingExpiry c).portRecord = s.portRecord := by
  unfold closingExpiry; split
  · split <;> simp
  · rfl

/-! ## The Remap Table and the stage -/

theorem foldl_portRecord {α : Type} {f : State → α → State} (hf : ∀ u a, (f u a).portRecord = u.portRecord) (l : List α) :
    (l.foldl f s).portRecord = s.portRecord :=
  List.foldlRecOn (motive := fun u : State => u.portRecord = s.portRecord) l f rfl fun u hu a _ => (hf u a).trans hu

theorem freeIfRetiring_portRecord (i : EntryIx) : (s.freeIfRetiring i).portRecord = s.portRecord := by
  unfold freeIfRetiring; split <;> rfl

theorem tableClose_portRecord (x : CloseReport) : (s.tableClose x).portRecord = s.portRecord := by
  unfold tableClose; split
  · split
    · exact s.freeIfRetiring_portRecord _
    · rfl
  · rfl

theorem tableTakesCloses_portRecord : s.tableTakesCloses.portRecord = s.portRecord := foldl_portRecord _ tableClose_portRecord _

theorem cancelStage_portRecord : s.cancelStage.portRecord = s.portRecord := by
  unfold cancelStage; split <;> rfl

theorem stageExpiry_portRecord : s.stageExpiry.portRecord = s.portRecord := by
  unfold stageExpiry; split <;> rfl

/-! ## The command path -/

theorem passThrough_portRecord (x : ChannelCommand) : (s.passThrough x).portRecord = s.portRecord :=
  (s.forward x).raiseIf_portRecord ..

theorem closeBank_portRecord (r : Rank) (b : Bank) : (s.closeBank r b).portRecord = s.portRecord := by
  have closed (u : State) (x : CloseReport) : ((u.reportCloseToTable x).setRecord r b none).portRecord = u.portRecord := rfl
  unfold closeBank; split
  · exact (closed ..).trans (s.makeReport_portRecord _)
  · rfl

theorem closeRank_portRecord (r : Rank) : (s.closeRank r).portRecord = s.portRecord :=
  s.foldl_portRecord (fun u b => u.closeBank_portRecord r b) _

theorem reportWrite_portRecord (g : Geometry) (r : Rank) (b : Bank) (col : Column) :
    (s.reportWrite g r b col).portRecord = s.portRecord := by
  unfold reportWrite; split
  · exact s.makeReport_portRecord _
  · exact s.makeReport_portRecord _
  · rfl

theorem openBank_portRecord (r : Rank) (b : Bank) (x : OpenRow) : (s.openBank r b x).portRecord = s.portRecord := rfl
theorem violation_portRecord : s.violation.portRecord = s.portRecord := rfl

theorem closeBeforeLookup_portRecord (r : Rank) (b : Bank) : (s.closeBeforeLookup r b).portRecord = s.portRecord := by
  unfold closeBeforeLookup; split
  · exact (tableTakesCloses_portRecord _).trans (s.closeBank_portRecord ..)
  · rfl

theorem activateData_portRecord (g : Geometry) (o : Origin) : (s.activateData g o).portRecord = s.portRecord :=
  (openBank_portRecord ..).trans (s.closeBeforeLookup_portRecord ..)

theorem activateAlias_portRecord (g : Geometry) (r : Rank) (b : Bank) (issued : Nat) :
    (s.activateAlias g r b issued).portRecord = s.portRecord := by
  unfold activateAlias; dsimp only; split
  · exact (violation_portRecord _).trans ((openBank_portRecord ..).trans (s.closeBank_portRecord r b))
  · exact (openBank_portRecord ..).trans (s.closeBank_portRecord r b)

/-! ## Error notes -/

theorem slotNote_portRecord (r : Rank) (b : Bank) (k : SlotNo) : (s.slotNote r b k).portRecord = s.portRecord := by
  unfold slotNote; split
  case h_3 => split <;> simp
  all_goals rfl

theorem scoreNote_portRecord (key : Key) (cls : NoteClass) (w : Nat) (running : Option Ctx) :
    (s.scoreNote key cls w running).portRecord = s.portRecord := by
  obtain ⟨items, counter, nom, full, -, scored⟩ := s.scoreNote_scored key cls w running
  rw [scored, scoredAs_eq]
  exact ((s.raiseIf nom .nomination).raiseIf_portRecord full .watchFull).trans (s.raiseIf_portRecord ..)

theorem dataNote_portRecord (o : Origin) (cls : NoteClass) (rep : Byte) :
    (s.dataNote o cls rep).portRecord = s.portRecord := by
  unfold dataNote noteOnStage; dsimp only; split
  · exact s.scoreNote_portRecord ..
  · refine (scoreNote_portRecord ..).trans ?_
    split <;> rfl

theorem takePassedNote_portRecord (n : ErrorNote) : (s.takePassedNote n).portRecord = s.portRecord := by
  have taken (u : State) : (u.takeNote n).portRecord = u.portRecord := by
    unfold takeNote; split
    · rfl
    · split
      · split
        · split
          · exact u.dataNote_portRecord ..
          · exact u.slotNote_portRecord ..
        · rfl
      · rfl
  unfold takePassedNote; split
  · split
    · exact taken _
    · rfl
  · rfl

/-! ## Launches and the Policy Unit -/

theorem launch_portRecord (c : Ctx) (d : Direction) (i : EntryIx) (e : Entry) (o : Origin) (k : SlotNo) (key : Key) :
    (s.launch c d i e o k key).portRecord = s.portRecord := by
  obtain ⟨records, noticed⟩ := ((s.setEntry i e).setSlotState o.rank o.bank k (.target i)).launchNotice_eq c o
  refine (makeMsg_portRecord ..).trans ?_
  rw [noticed]
  rfl

variable {s} in
theorem launchFirst_portRecord {t : State} {c : Ctx} {o : Origin} (h : s.launchFirst o = .launched c t) :
    t.portRecord = s.portRecord := by
  unfold launchFirst at h
  repeat' split at h
  all_goals cases h
  exact launch_portRecord ..

variable {s} in
theorem launchMove_portRecord {t : State} {c : Ctx} {i : EntryIx} (h : s.launchMove i = .launched c t) :
    t.portRecord = s.portRecord := by
  unfold launchMove at h
  repeat' split at h
  all_goals cases h
  exact launch_portRecord ..

theorem launchFailed_portRecord (k : Key) (last : Option FailureKind) (f : FailureKind) (cond : Condition) :
    (s.launchFailed k last f cond).portRecord = s.portRecord := by
  unfold launchFailed; split <;> rfl

theorem afterLaunch_portRecord (k : Key) (last : Option FailureKind) {l : Launch}
    (h : ∀ c t, l = .launched c t → t.portRecord = s.portRecord) : (s.afterLaunch k last l).portRecord = s.portRecord := by
  unfold afterLaunch; split
  · next c t =>
    have marked : (t.setLastFailure k none).portRecord = t.portRecord := rfl
    exact marked.trans (h c t rfl)
  · exact s.launchFailed_portRecord ..
  · exact s.launchFailed_portRecord ..
  · rfl

theorem consider_portRecord (k : Key) : (s.consider k).portRecord = s.portRecord := by
  unfold consider; split
  · split
    · unfold actOn; split
      · exact s.afterLaunch_portRecord k _ fun _ _ => launchFirst_portRecord
      · exact s.afterLaunch_portRecord k _ fun _ _ => launchMove_portRecord
      · exact s.launchFailed_portRecord ..
      · rfl
    · rfl
  · rfl

theorem passStep_portRecord : s.passStep.portRecord = s.portRecord := by
  unfold passStep; split
  · exact consider_portRecord ..
  · rfl

theorem takeNomination_portRecord : s.takeNomination.portRecord = s.portRecord := by
  unfold takeNomination; split
  · dsimp only; split
    · exact consider_portRecord ..
    · rfl
  · rfl

theorem decayBoundary_portRecord : s.decayBoundary.portRecord = s.portRecord := by
  have applied (u : State) : u.applyPendingRun.port = u.port := by
    unfold applyPendingRun; split <;> rfl
  exact portRecord_of_port (by simp [decayBoundary, applied])

/-! ## The burn engine and the entry to ACTIVE -/

theorem engineDone_portRecord (kind : OperationKind) (done : Bool) : (s.engineDone kind done).portRecord = s.portRecord := rfl

@[simp] theorem burnSlot_port (i : EntryIx) (o : Origin) (n : SlotNo) : (s.burnSlot i o n).port = s.port := by
  unfold burnSlot; split <;> rfl

theorem burnCompletes_portRecord (v : Bool) : (s.burnCompletes v).portRecord = s.portRecord := by
  unfold burnCompletes finishBurn; split
  · split <;> exact (engineDone_portRecord ..).trans (portRecord_of_port (by simp))
  · rfl

theorem revokeCompletes_portRecord (v : Bool) : (s.revokeCompletes v).portRecord = s.portRecord := by
  unfold revokeCompletes finishRevoke; split
  · split <;> exact (engineDone_portRecord ..).trans (portRecord_of_port (by simp))
  · rfl

theorem geometryCompletes_portRecord (v : Bool) : (s.geometryCompletes v).portRecord = s.portRecord := by
  unfold geometryCompletes finishGeometry; split
  · split <;> exact (engineDone_portRecord ..).trans (portRecord_of_port (by simp))
  · rfl

theorem enterActive_portRecord (g : Geometry) : (s.enterActive g).portRecord = s.portRecord := by
  rw [enterActive_eq]
  generalize (s.load g).state = u
  rfl

theorem afterRead_portRecord : s.afterRead.portRecord = s.portRecord := by
  unfold afterRead; split
  · exact s.enterActive_portRecord _
  · rfl
  · rfl

/-! ## The parts of a warm reset (R191) -/

theorem warmMigration_portRecord : s.warmMigration.portRecord = s.portRecord := by
  unfold warmMigration; dsimp only; split <;> simp

theorem warmLink_portRecord : s.warmLink.portRecord = s.portRecord :=
  have after (u : State) : u.clearAllHeld.enterGreeting.portRecord = u.portRecord := rfl
  (after _).trans (s.linkDown.endAllSilently_portRecord .warmReset)

end State

end Sys2Proof.Machine
end

section
/-!
What a request can be decided to (R182, R184, R185): an answer on the state as it stands, which every refusal is; an OK or an ACCEPTED
on a state with the port's record as it was; a new mask; or a warm reset begun.
-/

namespace Sys2Proof.Machine

variable {s t u : State} {h : InHand} {q : Request}

/-- See the head of the section. -/
inductive State.DecidesTo (s : State) : Request → State → Prop where
  | asItStands (q : Request) (st : Status) (p : Payload) : s.DecidesTo q (s.answer st p)
  | granted (q : Request) {u : State} (record : u.portRecord = s.portRecord) (st : Status) (p : Payload)
      (grants : st = .ok ∨ st = .accepted) : s.DecidesTo q (u.answer st p)
  | masked (x : BitVec 32) (kinds : BitVec 16) : s.DecidesTo (.alertMask x) ((s.setAlertMask kinds).answer .ok .none)
  | warmed : s.DecidesTo .warmReset s.beginWarmReset

namespace State.DecidesTo

theorem refuse (s : State) (q : Request) (st : Status) : s.DecidesTo q (s.refuse st) := asItStands q st .none

theorem ok (record : u.portRecord = s.portRecord) (q : Request) (p : Payload) : s.DecidesTo q (u.answer .ok p) :=
  granted q record .ok p (.inl rfl)

/-! ## The checks that refuse -/

theorem whenLoaded (decided : s.DecidesTo q t) : s.DecidesTo q (s.whenLoaded t) := by
  unfold State.whenLoaded; split
  · exact refuse ..
  · exact decided

theorem whenActive {f : Geometry → State} (decided : ∀ g, s.DecidesTo q (f g)) : s.DecidesTo q (s.whenActive f) := by
  unfold State.whenActive; split
  · exact decided _
  · exact refuse ..

theorem whenSome {α : Type} {o : Option α} {f : α → State} (decided : ∀ a, s.DecidesTo q (f a)) :
    s.DecidesTo q (s.whenSome o f) := by
  unfold State.whenSome; split
  · exact decided _
  · exact refuse ..

theorem whenEngineFree (decided : s.DecidesTo q t) : s.DecidesTo q (s.whenEngineFree t) := by
  unfold State.whenEngineFree; split
  · exact refuse ..
  · split
    · exact refuse ..
    · exact decided

/-! ## The Remap Table and the Slot Directory -/

theorem decideTableFind (s : State) (r b : Byte) (row : RowField) : s.DecidesTo q (s.decideTableFind r b row) :=
  whenActive fun _ => whenSome fun _ => by split <;> exact asItStands ..

theorem release (s : State) (g : Geometry) (i : EntryIx) (o : Origin) (k : SlotNo) (m : Nat) :
    s.DecidesTo q (s.release g i o k m) := by
  have retires (u : State) : ((u.setEntry i (.retiring o k m)).removeSlotItems o).portRecord = u.portRecord := rfl
  have frees (u : State) : (u.freeEntry i o k).portRecord = u.portRecord := rfl
  have cancelled := State.portRecord_of_port (s.cancelStageFor_port i)
  unfold State.release; dsimp only; split
  · exact ok ((retires _).trans cancelled) ..
  · exact ok ((frees _).trans cancelled) ..

theorem decideRelease (s : State) (x : Byte) : s.DecidesTo q (s.decideRelease x) :=
  whenActive fun _ => whenSome fun _ => by
    split
    · exact refuse ..
    · split
      · exact refuse ..
      · exact release ..
    · exact refuse ..

theorem decideTestBegin (s : State) (r b k : Byte) : s.DecidesTo q (s.decideTestBegin r b k) :=
  whenActive fun _ => whenSome fun _ => by
    split
    · exact ok (by rfl) ..
    · exact refuse ..

theorem decideTestEnd (s : State) (r b k v : Byte) : s.DecidesTo q (s.decideTestEnd r b k v) :=
  whenActive fun _ => whenSome fun _ => by
    split
    · exact ok (by rfl) ..
    · exact refuse ..

theorem decideSlotGrade (s : State) (r b k v : Byte) : s.DecidesTo q (s.decideSlotGrade r b k v) :=
  whenActive fun _ => whenSome fun _ => by
    split
    · exact ok (by rfl) ..
    · exact refuse ..

/-! ## The Migration Engine, the Watch List and the Policy Unit -/

theorem answerLaunch {l : Launch} (record : ∀ c t, l = .launched c t → t.portRecord = s.portRecord) :
    s.DecidesTo q (s.answerLaunch l) := by
  unfold State.answerLaunch; split
  · exact ok (record _ _ rfl) ..
  · exact refuse ..

theorem decideRepair (s : State) (r b : Byte) (row : RowField) : s.DecidesTo q (s.decideRepair r b row) :=
  whenActive fun _ => whenSome fun _ => answerLaunch fun _ _ => State.launchFirst_portRecord

theorem decideMove (s : State) (x : Byte) : s.DecidesTo q (s.decideMove x) :=
  whenActive fun _ => whenSome fun _ => answerLaunch fun _ _ => State.launchMove_portRecord

theorem decideCancel (s : State) (x : Byte) : s.DecidesTo q (s.decideCancel x) :=
  whenActive fun _ => whenSome fun _ => by
    split
    · exact ok (s.abort_portRecord ..) ..
    · exact refuse ..

theorem decideWatchRead (s : State) (x : Byte) : s.DecidesTo q (s.decideWatchRead x) :=
  whenLoaded (whenSome fun _ => by split <;> exact asItStands ..)

theorem decideWatchClear (s : State) (r b : Byte) (row : RowField) (x : Byte) : s.DecidesTo q (s.decideWatchClear r b row x) :=
  whenActive fun _ => whenSome fun _ => by
    split
    · exact refuse ..
    · split
      · exact refuse ..
      · exact ok (by rfl) ..

theorem decideProfileWrite (s : State) (f : Byte) (v : BitVec 16) : s.DecidesTo q (s.decideProfileWrite f v) :=
  whenLoaded (whenSome fun _ => by
    split
    · exact refuse ..
    · exact ok (by rfl) ..)

/-! ## The Repair Store and the port -/

theorem beginOperation (record : u.portRecord = s.portRecord) (x : Operation) : s.DecidesTo q (u.beginOperation x) :=
  granted q (u := { u with rst := { u.rst with operation := some x } }) record .accepted .none (.inr rfl)

theorem decideStage (s : State) (x : Byte) : s.DecidesTo q (s.decideStage x) :=
  whenActive fun _ => whenSome fun _ => whenEngineFree (by
    split
    · unfold State.stageEntry; split
      · exact refuse ..
      · split
        · exact refuse ..
        · split
          · exact ok (by rfl) ..
          · exact refuse ..
      · exact refuse ..
    · exact refuse ..)

theorem decideBurn (s : State) : s.DecidesTo q s.decideBurn :=
  whenActive fun _ => whenEngineFree (by
    split
    · split
      · exact beginOperation (by rfl) _
      · exact refuse ..
    all_goals exact refuse ..)

theorem decideRevoke (s : State) (x : Byte) : s.DecidesTo q (s.decideRevoke x) :=
  whenActive fun _ => whenSome fun _ => whenEngineFree (by
    split
    · exact beginOperation (by rfl) _
    · exact refuse ..)

theorem decideBurnGeometry (s : State) : s.DecidesTo q s.decideBurnGeometry :=
  whenLoaded (whenEngineFree (by
    split
    · split
      · exact beginOperation (by rfl) _
      · exact refuse ..
    · exact refuse ..))

theorem decideLockStore (s : State) : s.DecidesTo q s.decideLockStore := 
  whenLoaded (ok (s := s) s.setLock.cancelStage_portRecord ..)

theorem decideConfigure (s : State) (r w : Byte) : s.DecidesTo q (s.decideConfigure r w) := by
  unfold State.decideConfigure; split
  · exact refuse ..
  · exact refuse ..
  · exact whenSome fun g => ok (s.enterActive_portRecord g) ..

end State.DecidesTo

open State.DecidesTo in
/-- Every request is decided in one of these ways. -/
theorem decisionOf_decidesTo (q : Request) (s : State) : s.DecidesTo q (decisionOf q s) := by
  cases q with
  | tableRead => exact whenLoaded (whenSome fun _ => asItStands ..)
  | tableFind => exact decideTableFind ..
  | release => exact decideRelease ..
  | slotRead => exact whenActive fun _ => whenSome fun _ => asItStands ..
  | slotTestBegin => exact decideTestBegin ..
  | slotTestEnd => exact decideTestEnd ..
  | slotGrade => exact decideSlotGrade ..
  | contextRead => exact whenLoaded (whenSome fun _ => asItStands ..)
  | repair => exact decideRepair ..
  | move => exact decideMove ..
  | cancel => exact decideCancel ..
  | watchRead => exact decideWatchRead ..
  | watchClear => exact decideWatchClear ..
  | profileRead => exact whenLoaded (whenSome fun _ => asItStands ..)
  | profileEditSelect => exact whenLoaded (whenSome fun _ => ok (by rfl) ..)
  | profileWrite => exact decideProfileWrite ..
  | profileRunSelect => exact whenLoaded (whenSome fun _ => ok (by rfl) ..)
  | configure => exact decideConfigure ..
  | stage => exact decideStage ..
  | burn => exact decideBurn s
  | revoke => exact decideRevoke ..
  | burnGeometry => exact decideBurnGeometry s
  | lockStore => exact decideLockStore s
  | storeRead => exact whenLoaded (whenSome fun _ => asItStands ..)
  | storeStatus => exact whenLoaded (asItStands ..)
  | conditionRead => exact whenLoaded (asItStands ..)
  | conditionClear => exact whenLoaded (whenSome fun _ => ok (by rfl) ..)
  | alertMask => exact whenLoaded (whenSome fun _ => masked ..)
  | warmReset => exact whenLoaded warmed

/-! ## Refusals (section 10.3) -/

/-- R182: the status of an answer that RESPONSE shows. -/
theorem State.answer_response (inHand : s.port.inHand = some h) (shown : h.superseded = false) (st : Status) (p : Payload) :
    (s.answer st p).port.response = .composed h.tag st p := by
  rw [State.answer_eq_decided inHand, State.decided, shown]
  rfl

theorem State.beginWarmReset_eq (inHand : s.port.inHand = some h) : s.beginWarmReset = { s with port := { s.port with
    response := if h.superseded then s.port.response else .composed h.tag .ok .none
    warmParts := [.migration, .link, .watch, .slots, .store, .conditions] } } := by
  rw [State.beginWarmReset, State.compose, inHand]
  cases superseded : h.superseded with
  | true => simp [superseded, allWarmParts]
  | false => simp [superseded, allWarmParts, State.setResponse]

/-- Settles O16: an answer on the state as it stands leaves the rest alone, and the other decisions do not refuse. -/
theorem refusalsChangeNothing : Obligations.RefusalsChangeNothing := by
  intro q s t h st p hh shown hn response notOk notAccepted
  obtain ⟨-, inHand, -⟩ := id hh
  have decided := decisionOf_decidesTo q s
  rw [Host.Outcome.next.inj ((exec_commandOf_inHand hh).symm.trans hn)] at decided
  have refused {st' : Status} {p' : Payload} (other : t.port.response = .composed h.tag st' p') : st = st' ∧ p = p' := by
    obtain ⟨-, status, payload⟩ := Response.composed.inj (response.symm.trans other)
    exact ⟨status, payload⟩
  cases decided with
  | asItStands _ st' p' =>
    obtain ⟨rfl, rfl⟩ := refused (State.answer_response inHand shown st' p')
    exact hh.answer_eq st p
  | granted _ record st' p' grants =>
    obtain ⟨rfl, -⟩ := refused (State.answer_response ((State.inHand_of_portRecord record).trans inHand) shown st' p')
    exact absurd grants (not_or.2 ⟨notOk, notAccepted⟩)
  | masked _ kinds =>
    obtain ⟨ok, -⟩ := refused (State.answer_response (s := s.setAlertMask kinds) inHand shown .ok .none)
    exact absurd ok notOk
  | warmed =>
    obtain ⟨ok, -⟩ := refused (by rw [State.beginWarmReset_eq inHand, shown]; rfl : s.beginWarmReset.port.response = _)
    exact absurd ok notOk

end Sys2Proof.Machine
end

section
/-! The modes in which a request is not ready (R176, R184, section 10.3). -/

namespace Sys2Proof.Machine

variable {s : State} {h : InHand} {q : Request}

theorem State.whenActive_of_inactive {f : Geometry → State} (inactive : ∀ g, s.mode ≠ .active g) :
    s.whenActive f = s.refuse .notReady := by
  rw [State.whenActive, State.geometry_of_inactive inactive]

/-- Whether only ACTIVE decides a request by its own checks (section 10.3). -/
def onlyActiveDecides : Request → Bool
  | .tableFind .. => true
  | .release .. => true
  | .slotRead .. => true
  | .slotTestBegin .. => true
  | .slotTestEnd .. => true
  | .slotGrade .. => true
  | .repair .. => true
  | .move .. => true
  | .cancel .. => true
  | .watchClear .. => true
  | .stage .. => true
  | .burn => true
  | .revoke .. => true
  | _ => false

theorem decisionOf_of_inactive (only : onlyActiveDecides q = true) (inactive : ∀ g, s.mode ≠ .active g) :
    decisionOf q s = s.refuse .notReady := by
  cases q with
  | tableFind => exact State.whenActive_of_inactive inactive
  | release => exact State.whenActive_of_inactive inactive
  | slotRead => exact State.whenActive_of_inactive inactive
  | slotTestBegin => exact State.whenActive_of_inactive inactive
  | slotTestEnd => exact State.whenActive_of_inactive inactive
  | slotGrade => exact State.whenActive_of_inactive inactive
  | repair => exact State.whenActive_of_inactive inactive
  | move => exact State.whenActive_of_inactive inactive
  | cancel => exact State.whenActive_of_inactive inactive
  | watchClear => exact State.whenActive_of_inactive inactive
  | stage => exact State.whenActive_of_inactive inactive
  | burn => exact State.whenActive_of_inactive inactive
  | revoke => exact State.whenActive_of_inactive inactive
  | _ => cases only

theorem decisionOf_of_loading (loading : s.mode = .loading) (q : Request) : decisionOf q s = s.refuse .notReady := by
  by_cases only : onlyActiveDecides q = true
  · exact decisionOf_of_inactive only (by rw [loading]; nofun)
  cases q with
  | tableRead => exact State.whenLoaded_of_loading loading
  | contextRead => exact State.whenLoaded_of_loading loading
  | watchRead => exact State.whenLoaded_of_loading loading
  | profileRead => exact State.whenLoaded_of_loading loading
  | profileEditSelect => exact State.whenLoaded_of_loading loading
  | profileWrite => exact State.whenLoaded_of_loading loading
  | profileRunSelect => exact State.whenLoaded_of_loading loading
  | configure r w =>
    show s.decideConfigure r w = _
    rw [State.decideConfigure, loading]
  | burnGeometry => exact State.whenLoaded_of_loading loading
  | lockStore => exact State.whenLoaded_of_loading loading
  | storeRead => exact State.whenLoaded_of_loading loading
  | storeStatus => exact State.whenLoaded_of_loading loading
  | conditionRead => exact State.whenLoaded_of_loading loading
  | conditionClear => exact State.whenLoaded_of_loading loading
  | alertMask => exact State.whenLoaded_of_loading loading
  | warmReset => exact State.whenLoaded_of_loading loading
  | _ => exact absurd rfl only

theorem exec_of_notReady (hh : s.hasInHand h q) (notReady : decisionOf q s = s.refuse .notReady) :
    exec (commandOf q) s = .next (s.decided h .notReady .none) := by
  rw [exec_commandOf_inHand hh, notReady, hh.refuse_eq]

/-- Settles O17: LOADING refuses every request, and UNCONFIGURED those that only ACTIVE decides. -/
theorem requestsWaitForTheirMode : Obligations.RequestsWaitForTheirMode := by
  refine ⟨fun q s h hh loading => exec_of_notReady hh (decisionOf_of_loading loading q), ?_⟩
  intro s h r b k v i row q listed hh unconfigured
  have only : onlyActiveDecides q = true := by
    simp only [List.mem_cons, List.not_mem_nil, or_false] at listed
    rcases listed with rfl | rfl | rfl | rfl | rfl | rfl | rfl | rfl | rfl | rfl | rfl | rfl | rfl <;> rfl
  exact exec_of_notReady hh (decisionOf_of_inactive only (by rw [unconfigured]; nofun))

end Sys2Proof.Machine
end

section
/-!
ALERT_MASK and CONDITION_CLEAR (R189, R190), and the mask through every command: the power events set every kind, ALERT_MASK the kinds
it names, and every other command leaves it as it is.
-/

namespace Sys2Proof.Machine

variable {s t u : State} {h : InHand} {q : Request} {x : BitVec 32}

/-! ## The requests -/

theorem conditionSetOf_eq_some (named : x.toNat < 65536) : conditionSetOf x = some (x.setWidth 16) := if_pos named

theorem conditionSetOf_eq_none (unnamed : 65536 ≤ x.toNat) : conditionSetOf x = none := if_neg (Nat.not_lt.2 unnamed)

/-- R187. -/
theorem alertTest_eq (set mask : BitVec 16) : alertTest set mask = decide (set &&& mask ≠ 0) :=
  Bool.eq_iff_iff.2 (by simp [alertTest])

theorem State.setAlertMask_eq (s : State) (mask : BitVec 16) : s.setAlertMask mask = { s with port := { s.port with
    alertMask := mask, alert := decide (s.port.conditions &&& mask ≠ 0) } } := by
  rw [← alertTest_eq]
  rfl

theorem State.clearConditions_eq (s : State) (set : BitVec 16) : s.clearConditions set = { s with port := { s.port with
    conditions := s.port.conditions &&& ~~~set
    alert := decide (s.port.conditions &&& ~~~set &&& s.port.alertMask ≠ 0) } } := by
  rw [← alertTest_eq]
  rfl

section
variable (loaded : s.mode ≠ .loading)
include loaded

theorem exec_alertMask_of_named (hh : s.hasInHand h (.alertMask x)) (named : x.toNat < 65536) :
    exec (commandOf (.alertMask x)) s = .next ((s.setAlertMask (x.setWidth 16)).decided h .ok .none) := by
  obtain ⟨-, inHand, -⟩ := id hh
  have answered := State.answer_eq_decided (s := s.setAlertMask (x.setWidth 16)) inHand .ok .none
  rw [exec_commandOf_inHand hh, ← answered]
  exact congrArg _ ((State.whenLoaded_of_loaded loaded).trans (by rw [conditionSetOf_eq_some named]; rfl))

theorem exec_alertMask_of_unnamed (hh : s.hasInHand h (.alertMask x)) (unnamed : 65536 ≤ x.toNat) :
    exec (commandOf (.alertMask x)) s = .next (s.decided h .badArgument .none) := by
  rw [exec_commandOf_inHand hh, ← hh.refuse_eq]
  exact congrArg _ ((State.whenLoaded_of_loaded loaded).trans (by rw [conditionSetOf_eq_none unnamed]; rfl))

theorem exec_conditionClear_of_named (hh : s.hasInHand h (.conditionClear x)) (named : x.toNat < 65536) :
    exec (commandOf (.conditionClear x)) s = .next ((s.clearConditions (x.setWidth 16)).decided h .ok
      (.conditionSet (s.port.conditions &&& ~~~(x.setWidth 16)))) := by
  obtain ⟨-, inHand, -⟩ := id hh
  have answered := State.answer_eq_decided (s := s.clearConditions (x.setWidth 16)) inHand .ok
    (.conditionSet (s.port.conditions &&& ~~~(x.setWidth 16)))
  rw [exec_commandOf_inHand hh, ← answered]
  exact congrArg _ ((State.whenLoaded_of_loaded loaded).trans (by rw [conditionSetOf_eq_some named]; rfl))

theorem exec_conditionClear_of_unnamed (hh : s.hasInHand h (.conditionClear x)) (unnamed : 65536 ≤ x.toNat) :
    exec (commandOf (.conditionClear x)) s = .next (s.decided h .badArgument .none) := by
  rw [exec_commandOf_inHand hh, ← hh.refuse_eq]
  exact congrArg _ ((State.whenLoaded_of_loaded loaded).trans (by rw [conditionSetOf_eq_none unnamed]; rfl))

end

/-! ## The mask through the port's own commands -/

theorem State.answer_alertMask (s : State) (st : Status) (p : Payload) : (s.answer st p).port.alertMask = s.port.alertMask := by
  unfold State.answer State.compose; split
  · split <;> rfl
  · rfl

theorem State.acceptRequest_alertMask (s : State) (tag : Byte) (q : Request) :
    (s.acceptRequest tag q).port.alertMask = s.port.alertMask := by
  unfold State.acceptRequest; split <;> rfl

theorem State.takeFrame_alertMask (s : State) (bytes : List Byte) : (s.takeFrame bytes).port.alertMask = s.port.alertMask := by
  unfold State.takeFrame; split
  · rfl
  · exact s.acceptRequest_alertMask ..

theorem State.DecidesTo.alertMask (decided : s.DecidesTo q t) (other : ∀ x, q ≠ .alertMask x) :
    t.port.alertMask = s.port.alertMask := by
  cases decided with
  | asItStands _ st p => exact s.answer_alertMask st p
  | granted _ record st p => exact (State.answer_alertMask ..).trans (State.alertMask_of_portRecord record)
  | masked x => exact absurd rfl (other x)
  | warmed => exact s.answer_alertMask .ok .none

/-- R190: no other request changes the mask, whether it is in hand or not. -/
theorem exec_request_alertMask (q : Request) (other : ∀ x, q ≠ .alertMask x) (hn : exec (commandOf q) s = .next t) :
    t.port.alertMask = s.port.alertMask := by
  refine Host.Outcome.next.inj ((exec_commandOf q s).symm.trans hn) ▸ ?_
  exact State.takeRequest_induction (P := fun u => u.port.alertMask = s.port.alertMask) rfl (s.acceptRequest_alertMask ..)
    fun u hu => ((decisionOf_decidesTo q u).alertMask other).trans hu

/-- R191: the taking of a part leaves the mask as the part's effect leaves it. -/
theorem State.takeWarmPart_alertMask (s : State) (p : WarmPart) {f : State → State}
    (effect : (f s).port.alertMask = s.port.alertMask) : (s.takeWarmPart p f).port.alertMask = s.port.alertMask := by
  unfold State.takeWarmPart; split
  · exact effect
  · rfl

/-! ## The commands of the other blocks -/

section
open State

theorem State.portRecord_ofNext (hn : (.next u : Host.Outcome State Fault Refusal) = .next t) (k : u.portRecord = s.portRecord) :
    t.portRecord = s.portRecord := Host.Outcome.next.inj hn ▸ k

/-- A command of the channel passes through, or is forwarded with its reports and closes. -/
theorem channelCommand_portRecord (x : ChannelCommand) (hn : exec x.instr s = .next t) : t.portRecord = s.portRecord := by
  cases x with
  | read => exact portRecord_ofNext hn (s.passThrough_portRecord _)
  | other => exact portRecord_ofNext hn (s.passThrough_portRecord _)
  | activate =>
    refine portRecord_ofNext hn ?_
    split
    · exact s.passThrough_portRecord _
    · dsimp only; split
      · exact s.activateData_portRecord ..
      · exact s.activateAlias_portRecord ..
  | write r b col =>
    refine portRecord_ofNext hn ?_
    split
    · exact s.passThrough_portRecord _
    · exact (s.forward (.write r b col)).reportWrite_portRecord ..
  | readAp r b col =>
    refine portRecord_ofNext hn ?_
    split
    · exact s.passThrough_portRecord _
    · exact (s.forward (.readAp r b col)).closeBank_portRecord ..
  | writeAp r b col =>
    refine portRecord_ofNext hn ?_
    split
    · exact s.passThrough_portRecord _
    · exact (closeBank_portRecord ..).trans ((s.forward (.writeAp r b col)).reportWrite_portRecord ..)
  | precharge r b =>
    refine portRecord_ofNext hn ?_
    split
    · exact s.passThrough_portRecord _
    · exact (s.forward (.precharge r b)).closeBank_portRecord ..
  | prechargeAll r =>
    refine portRecord_ofNext hn ?_
    split
    · exact s.passThrough_portRecord _
    · exact (s.forward (.prechargeAll r)).closeRank_portRecord r
  | refresh r =>
    refine portRecord_ofNext hn ?_
    split
    · exact s.passThrough_portRecord _
    · exact (s.forward (.refresh r)).closeRank_portRecord r

theorem execLoadComplete_portRecord (hn : execLoadComplete s = .next t) : t.portRecord = s.portRecord := by
  have greets (u : State) : ({ u with ready := true } : State).enterGreeting.portRecord = u.portRecord := rfl
  refine portRecord_ofNext hn ?_
  split
  · rfl
  · exact (greets _).trans s.afterRead_portRecord

theorem execChannelReset_portRecord (hn : execChannelReset s = .next t) : t.portRecord = s.portRecord := by
  refine portRecord_ofNext hn ?_
  split
  · rfl
  · split
    · split <;> rfl
    · rfl

theorem execChannelResetMigration_portRecord (hn : execChannelResetMigration s = .next t) : t.portRecord = s.portRecord := by
  refine portRecord_ofNext hn ?_
  split
  · rfl
  · exact migrationChannelReset_portRecord _

theorem execChannelResetTable_portRecord (hn : execChannelResetTable s = .next t) : t.portRecord = s.portRecord := by
  refine portRecord_ofNext hn ?_
  split
  · rfl
  · exact foldl_portRecord _ freeIfRetiring_portRecord _

theorem execCloseReportTable_portRecord (hn : execCloseReportTable s = .next t) : t.portRecord = s.portRecord := by
  refine portRecord_ofNext hn ?_
  split
  · rfl
  · exact tableClose_portRecord ..

theorem execInboundFrame_portRecord {bytes : List Byte} (hn : execInboundFrame bytes s = .next t) :
    t.portRecord = s.portRecord := by
  refine portRecord_ofNext hn ?_
  split
  · rfl
  · split
    · exact s.receive_portRecord _
    · exact s.badFrame_portRecord

theorem execErrorNote_portRecord {n : ErrorNote} (hn : execErrorNote n s = .next t) : t.portRecord = s.portRecord := by
  refine portRecord_ofNext hn ?_
  split
  · rfl
  · split
    · exact s.takePassedNote_portRecord n
    · split
      · exact s.badFrame_portRecord
      · exact (takePassedNote_portRecord ..).trans (s.receive_portRecord _)

theorem execTransmitBegin_portRecord (hn : execTransmitBegin s = .next t) : t.portRecord = s.portRecord := by
  refine portRecord_ofNext hn ?_
  split
  · exact s.transmitHead_portRecord
  · rfl

theorem execRetryTimerExpiry_portRecord (hn : execRetryTimerExpiry s = .next t) : t.portRecord = s.portRecord := by
  refine portRecord_ofNext hn ?_
  split
  · exact s.queueGreeting_portRecord .hello
  · rfl

theorem execDecayBoundary_portRecord (hn : execDecayBoundary s = .next t) : t.portRecord = s.portRecord := by
  refine portRecord_ofNext hn ?_
  split
  · exact s.decayBoundary_portRecord
  · rfl

theorem execRequestFrame_alertMask {bytes : List Byte} (hn : execRequestFrame bytes s = .next t) :
    t.port.alertMask = s.port.alertMask := by
  refine Host.Outcome.next.inj hn ▸ ?_
  split
  · rfl
  · exact s.takeFrame_alertMask bytes

theorem State.alertMask_ofNext (hn : (.next u : Host.Outcome State Fault Refusal) = .next t) (k : u.portRecord = s.portRecord) :
    t.port.alertMask = s.port.alertMask := alertMask_of_portRecord (portRecord_ofNext hn k)

/-- R190: the mask is written by ALERT_MASK and the power events alone. -/
theorem exec_keepsAlertMask {c : Instr} (notOn : c ≠ .powerOn) (notAssert : c ≠ .powerOnResetAssert)
    (notMask : ∀ x, c ≠ .alertMask x) (hn : exec c s = .next t) : t.port.alertMask = s.port.alertMask := by
  cases c with
  | powerOn => exact absurd rfl notOn
  | powerOnResetAssert => exact absurd rfl notAssert
  | alertMask x => exact absurd rfl (notMask x)
  | loadComplete => exact alertMask_of_portRecord (execLoadComplete_portRecord hn)
  -- the command path
  | activate r b row => exact alertMask_of_portRecord (channelCommand_portRecord (.activate r b row) hn)
  | read r b col => exact alertMask_of_portRecord (channelCommand_portRecord (.read r b col) hn)
  | write r b col => exact alertMask_of_portRecord (channelCommand_portRecord (.write r b col) hn)
  | readAp r b col => exact alertMask_of_portRecord (channelCommand_portRecord (.readAp r b col) hn)
  | writeAp r b col => exact alertMask_of_portRecord (channelCommand_portRecord (.writeAp r b col) hn)
  | precharge r b => exact alertMask_of_portRecord (channelCommand_portRecord (.precharge r b) hn)
  | prechargeAll r => exact alertMask_of_portRecord (channelCommand_portRecord (.prechargeAll r) hn)
  | refresh r => exact alertMask_of_portRecord (channelCommand_portRecord (.refresh r) hn)
  | otherCommand code => exact alertMask_of_portRecord (channelCommand_portRecord (.other code) hn)
  | channelReset => exact alertMask_of_portRecord (execChannelReset_portRecord hn)
  | channelResetDeassert => exact alertMask_ofNext hn rfl
  -- reports
  | channelResetMigration => exact alertMask_of_portRecord (execChannelResetMigration_portRecord hn)
  | channelResetTable => exact alertMask_of_portRecord (execChannelResetTable_portRecord hn)
  | sourceWriteReport => exact alertMask_ofNext hn (s.takeHeadIf_portRecord _)
  | destWriteReport => exact alertMask_ofNext hn (s.takeHeadIf_portRecord _)
  | closeReportMigration => exact alertMask_ofNext hn (s.takeHeadIf_portRecord _)
  | closeReportTable => exact alertMask_of_portRecord (execCloseReportTable_portRecord hn)
  -- the link
  | inboundFrame => exact alertMask_of_portRecord (execInboundFrame_portRecord hn)
  | badFrame => exact alertMask_ofNext hn s.badFrame_portRecord
  | errorNote => exact alertMask_of_portRecord (execErrorNote_portRecord hn)
  | copyAccept => exact alertMask_ofNext hn (s.takeReply_portRecord _)
  | copyRefuse => exact alertMask_ofNext hn (s.takeReply_portRecord _)
  | copyDone => exact alertMask_ofNext hn (s.takeReply_portRecord _)
  | fenceAckSet => exact alertMask_ofNext hn (s.takeReply_portRecord _)
  | fenceAckRelease => exact alertMask_ofNext hn (s.takeReply_portRecord _)
  | hello => exact alertMask_ofNext hn (s.receive_portRecord _)
  | helloAck => exact alertMask_ofNext hn (s.receive_portRecord _)
  | transmitBegin => exact alertMask_of_portRecord (execTransmitBegin_portRecord hn)
  -- timers
  | retryTimerExpiry => exact alertMask_of_portRecord (execRetryTimerExpiry_portRecord hn)
  | offerTimerExpiry => exact alertMask_ofNext hn (s.expire_portRecord ..)
  | roundTimerExpiry => exact alertMask_ofNext hn (s.expire_portRecord ..)
  | armTimerExpiry => exact alertMask_ofNext hn (s.expire_portRecord ..)
  | fenceTimerExpiry => exact alertMask_ofNext hn (s.expire_portRecord ..)
  | closingFenceTimerExpiry => exact alertMask_ofNext hn (s.closingExpiry_portRecord _)
  | decayBoundary => exact alertMask_of_portRecord (execDecayBoundary_portRecord hn)
  | probationTimerExpiry => exact alertMask_ofNext hn rfl
  | stageExpired => exact alertMask_ofNext hn s.stageExpiry_portRecord
  -- the Policy Unit
  | retryPassStep => exact alertMask_ofNext hn s.passStep_portRecord
  | nominationTake => exact alertMask_ofNext hn s.takeNomination_portRecord
  -- the burn engine
  | burnComplete v => exact alertMask_ofNext hn (s.burnCompletes_portRecord v)
  | revokeComplete v => exact alertMask_ofNext hn (s.revokeCompletes_portRecord v)
  | burnGeometryComplete v => exact alertMask_ofNext hn (s.geometryCompletes_portRecord v)
  -- requests
  | requestFrame => exact execRequestFrame_alertMask hn
  | tableRead i => exact exec_request_alertMask (.tableRead i) nofun hn
  | tableFind r b row => exact exec_request_alertMask (.tableFind r b row) nofun hn
  | release i => exact exec_request_alertMask (.release i) nofun hn
  | slotRead r b k => exact exec_request_alertMask (.slotRead r b k) nofun hn
  | slotTestBegin r b k => exact exec_request_alertMask (.slotTestBegin r b k) nofun hn
  | slotTestEnd r b k v => exact exec_request_alertMask (.slotTestEnd r b k v) nofun hn
  | slotGrade r b k v => exact exec_request_alertMask (.slotGrade r b k v) nofun hn
  | contextRead i => exact exec_request_alertMask (.contextRead i) nofun hn
  | repair r b row => exact exec_request_alertMask (.repair r b row) nofun hn
  | move i => exact exec_request_alertMask (.move i) nofun hn
  | cancel i => exact exec_request_alertMask (.cancel i) nofun hn
  | watchRead p => exact exec_request_alertMask (.watchRead p) nofun hn
  | watchClear r b row k => exact exec_request_alertMask (.watchClear r b row k) nofun hn
  | profileRead p => exact exec_request_alertMask (.profileRead p) nofun hn
  | profileEditSelect p => exact exec_request_alertMask (.profileEditSelect p) nofun hn
  | profileWrite f v => exact exec_request_alertMask (.profileWrite f v) nofun hn
  | profileRunSelect p => exact exec_request_alertMask (.profileRunSelect p) nofun hn
  | configure r w => exact exec_request_alertMask (.configure r w) nofun hn
  | stage i => exact exec_request_alertMask (.stage i) nofun hn
  | burn => exact exec_request_alertMask .burn nofun hn
  | revoke k => exact exec_request_alertMask (.revoke k) nofun hn
  | burnGeometry => exact exec_request_alertMask .burnGeometry nofun hn
  | lockStore => exact exec_request_alertMask .lockStore nofun hn
  | storeRead k => exact exec_request_alertMask (.storeRead k) nofun hn
  | storeStatus => exact exec_request_alertMask .storeStatus nofun hn
  | conditionRead => exact exec_request_alertMask .conditionRead nofun hn
  | conditionClear x => exact exec_request_alertMask (.conditionClear x) nofun hn
  | warmReset => exact exec_request_alertMask .warmReset nofun hn
  -- the parts of a warm reset
  | warmResetMigration =>
    exact Host.Outcome.next.inj hn ▸ s.takeWarmPart_alertMask _ (alertMask_of_portRecord s.warmMigration_portRecord)
  | warmResetLink => exact Host.Outcome.next.inj hn ▸ s.takeWarmPart_alertMask _ (alertMask_of_portRecord s.warmLink_portRecord)
  | warmResetWatch => exact Host.Outcome.next.inj hn ▸ s.takeWarmPart_alertMask _ rfl
  | warmResetSlots => exact Host.Outcome.next.inj hn ▸ s.takeWarmPart_alertMask _ rfl
  | warmResetStore =>
    exact Host.Outcome.next.inj hn ▸ s.takeWarmPart_alertMask _ (alertMask_of_portRecord s.cancelStage_portRecord)
  | warmResetConditions => exact Host.Outcome.next.inj hn ▸ s.takeWarmPart_alertMask _ rfl

end

/-! ## The statement -/

/-- Settles O59: each request by the mode and the kinds it names, and the mask over every command. -/
theorem conditionsAreClearedAndMasked : Obligations.ConditionsAreClearedAndMasked := by
  refine ⟨fun s h x => ⟨fun loading => ⟨fun hh => ?_, fun hh => ?_⟩, fun loaded unnamed => ⟨fun hh => ?_, fun hh => ?_⟩,
    fun loaded named => ⟨fun hh => ?_, fun hh => ?_⟩⟩, fun c s t notOn notAssert notMask hn => ?_, fun c s t power hn => ?_⟩
  · exact exec_of_notReady hh (decisionOf_of_loading loading _)
  · exact exec_of_notReady hh (decisionOf_of_loading loading _)
  · exact exec_alertMask_of_unnamed loaded hh unnamed
  · exact exec_conditionClear_of_unnamed loaded hh unnamed
  · rw [exec_alertMask_of_named loaded hh named, State.setAlertMask_eq]
  · rw [exec_conditionClear_of_named loaded hh named, State.clearConditions_eq]
  · exact exec_keepsAlertMask notOn notAssert notMask hn
  · rcases power with rfl | rfl
    · exact Host.Outcome.next.inj hn ▸ rfl
    · exact Host.Outcome.next.inj hn ▸ rfl

end Sys2Proof.Machine
end

section
/-!
WARM_RESET and its parts (R191): what each owner's part does (R44, R98, R120, R138, R170, R192) and how the port counts the parts
taken. The migrations that it ends raise nothing (R88), so that an owner's part leaves the port to itself.
-/

namespace Sys2Proof.Machine

variable {s : State} {h : InHand} {p : WarmPart}

/-! ## The port -/

/-- R191: the port when a part has been taken, IDLE after the last. -/
def Port.afterPart (x : Port) (p : WarmPart) : Port :=
  { x with warmParts := x.warmParts.erase p, inHand := if x.warmParts.erase p = [] then none else x.inHand }

theorem State.takeWarmPart_of_mem (outstanding : p ∈ s.port.warmParts) (f : State → State) :
    s.takeWarmPart p f = { f s with port := (f s).port.afterPart p } := by
  simp only [State.takeWarmPart, if_pos (List.contains_iff_mem.2 outstanding), State.finishWarmPart, Port.afterPart,
    List.isEmpty_iff]

/-- R191: only the port's own part changes the port but for the count. -/
theorem State.takeWarmPart_of_port (outstanding : p ∈ s.port.warmParts) {f : State → State} (port : (f s).port = s.port) :
    s.takeWarmPart p f = { f s with port := s.port.afterPart p } := by
  rw [State.takeWarmPart_of_mem outstanding, port]

/-- Assumption 2: a part that is not outstanding changes nothing. -/
theorem State.takeWarmPart_of_none (none : s.port.warmParts = []) (f : State → State) : s.takeWarmPart p f = s := by
  rw [State.takeWarmPart, none, if_neg (by simp)]

theorem exec_warmReset (hh : s.hasInHand h .warmReset) (loaded : s.mode ≠ .loading) :
    exec .warmReset s = .next { s with port := { s.port with
      response := if h.superseded then s.port.response else .composed h.tag .ok .none
      warmParts := [.migration, .link, .watch, .slots, .store, .conditions] } } := by
  obtain ⟨-, inHand, -⟩ := id hh
  rw [← State.beginWarmReset_eq inHand]
  exact (exec_commandOf_inHand hh).trans (congrArg _ (State.whenLoaded_of_loaded loaded))

/-! ## The end of every migration -/

theorem State.port_of_offLink {s t : State} (h : t.offLink = s.offLink) : t.port = s.port := (congrArg State.port h :)

theorem State.abortSlot_port (s : State) (j : Job) (r : AbortReason) : (s.abortSlot j r).port = s.port := by
  unfold State.abortSlot; split <;> rfl

theorem State.abortChanges_warmReset_port (s : State) (c : Ctx) (j : Job) : (s.abortChanges c j .warmReset).port = s.port := by
  have after (u : State) : ((((u.setInRepair (s.migrationKey j) none).setLastResult c (.aborted .warmReset)).raiseIf false
    .migrationFailed).dropHeld c).port = u.port := rfl
  exact (after _).trans (State.abortSlot_port ..)

/-- R88: an abort for WARM_RESET raises nothing. -/
theorem State.abort_warmReset_port (s : State) (c : Ctx) : (s.abort c .warmReset).port = s.port := by
  cases active : (s.ctx c).activeJob with
  | none => rw [State.abort, active]
  | some j =>
    rw [State.abort_of_silent active rfl]
    exact (State.port_of_offLink (State.enterIdle_offLink ..)).trans (s.abortChanges_warmReset_port c j)

theorem State.endAllSilently_warmReset_port (s : State) : (s.endAllSilently .warmReset).port = s.port := by
  refine List.foldlRecOn (motive := fun u : State => u.port = s.port) _ _ rfl fun u hu c _ => Eq.trans ?_ hu
  unfold State.endSilently; split
  · rfl
  · exact State.port_of_offLink (u.enterIdle_offLink ..)
  · exact u.abort_warmReset_port c

theorem State.EndedSilently.withPort {t : State} {r : AbortReason} (ended : s.EndedSilently t r) (x : Port) :
    s.EndedSilently { t with port := x } r := ended.congr rfl rfl rfl rfl

/-! ## The Migration Engine's part (R98, R120) -/

theorem State.warmMigration_of_link (link : .link ∈ s.port.warmParts) : s.warmMigration = s.endAllSilently .warmReset :=
  if_pos (List.contains_iff_mem.2 link)

theorem State.warmMigration_of_linkTaken (link : .link ∉ s.port.warmParts) :
    s.warmMigration = (s.endAllSilently .warmReset).purgeOutbound (OutMsg.survives s.busyContexts) :=
  if_neg (mt List.contains_iff_mem.1 link)

theorem State.warmMigration_offLink (s : State) : s.warmMigration.offLink = (s.endAllSilently .warmReset).offLink := by
  by_cases link : .link ∈ s.port.warmParts
  · rw [State.warmMigration_of_link link]
  · rw [State.warmMigration_of_linkTaken link, State.purgeOutbound_offLink]

theorem State.warmMigration_port (s : State) : s.warmMigration.port = s.port :=
  (State.port_of_offLink s.warmMigration_offLink).trans s.endAllSilently_warmReset_port

theorem State.warmMigration_sameElsewhere (s : State) : s.SameElsewhere s.warmMigration :=
  State.sameElsewhere_of_elsewhere ((State.elsewhere_of_offLink s.warmMigration_offLink).trans (s.endAllSilently_elsewhere _))

theorem State.warmMigration_reports (s : State) : s.warmMigration.mge.reports = s.mge.reports :=
  (State.reports_of_offLink s.warmMigration_offLink).trans (s.endAllSilently_reports _)

theorem State.warmMigration_endedSilently (s : State) : s.EndedSilently s.warmMigration .warmReset := by
  refine (State.EndedOn.endAllSilently s rfl).endedSilently s.warmMigration_offLink fun c => ?_
  by_cases link : .link ∈ s.port.warmParts
  · rw [State.warmMigration_of_link link]
    exact ⟨_, rfl, id⟩
  · rw [State.warmMigration_of_linkTaken link]
    exact State.purgeOutbound_idle _ (s.endAllSilently_isIdle rfl c)

theorem State.warmMigration_outbound_of_link (link : .link ∈ s.port.warmParts) :
    s.warmMigration.sbl.outbound = s.sbl.outbound := by
  rw [State.warmMigration_of_link link]
  exact (State.EndedOn.endAllSilently s rfl).outbound

/-- R117: a message survives the end of its context only when the context was IDLE. -/
theorem OutMsg.survives_busyContexts (s : State) (m : OutMsg) : m.survives s.busyContexts =
    match m.owner with | some c => (s.ctx c).isIdle | none => true := by
  unfold OutMsg.survives
  cases m.owner with
  | none => rfl
  | some c => simp [State.busyContexts]

/-- R120: what was launched after the link's part leaves no message behind. -/
theorem State.warmMigration_outbound_of_linkTaken (link : .link ∉ s.port.warmParts) (waiting : s.sbl.waiting = []) :
    s.warmMigration.sbl.outbound = s.sbl.outbound.filter fun m =>
      match m.owner with | some c => (s.ctx c).isIdle | none => true := by
  have ended := State.EndedOn.endAllSilently s (reason := .warmReset) rfl
  rw [State.warmMigration_of_linkTaken link, State.purgeOutbound_of_waiting_nil _ (ended.waiting waiting), ended.outbound]
  exact List.filter_congr fun m _ => m.survives_busyContexts s

theorem exec_warmResetMigration (outstanding : .migration ∈ s.port.warmParts) :
    exec .warmResetMigration s = .next { s.warmMigration with port := s.port.afterPart .migration } :=
  congrArg Host.Outcome.next (State.takeWarmPart_of_port outstanding s.warmMigration_port)

/-! ## The Sideband Link's part (R120) -/

theorem State.warmLink_port (s : State) : s.warmLink.port = s.port :=
  have after (u : State) : u.clearAllHeld.enterGreeting.port = u.port := rfl
  (after _).trans s.linkDown.endAllSilently_warmReset_port

theorem State.warmLink_endedSilently (s : State) : s.EndedSilently s.warmLink .warmReset :=
  .ofSbl (.congr (s.linkDown.endConversation_endedSilently rfl) (by simp [State.warmLink]) (by simp [State.warmLink])
    (by simp [State.warmLink]) (by simp [State.warmLink]))

theorem State.warmLink_held (s : State) (c : Ctx) : (s.warmLink.ctx c).held = [] :=
  have after (u : State) : (u.clearAllHeld.enterGreeting.ctx c).held = [] := congrArg Context.held (u.clearAllHeld_ctx c)
  after _

theorem State.warmLink_sbl (s : State) : s.warmLink.sbl =
    { s.sbl with state := .greeting, badRun := 0, retryTimer := some 100, outbound := [.hello], waiting := [] } := by
  obtain ⟨-, -, -, wire⟩ := (s.linkDown.endAllSilently_sameElsewhere .warmReset).linkState
  exact congrArg (Link.mk .greeting 0 (some 100) [.hello] []) wire

/-- The rest of the part that the link's part leaves alone. -/
theorem State.warmLink_elsewhere (s : State) : s.warmLink.ctr = s.ctr ∧ s.warmLink.pol = s.pol ∧ s.warmLink.rst = s.rst ∧
    s.warmLink.mode = s.mode ∧ s.warmLink.mge.reports = s.mge.reports := by
  have same := s.linkDown.endAllSilently_sameElsewhere .warmReset
  have reports := s.linkDown.endAllSilently_reports .warmReset
  have after (u : State) : u.clearAllHeld.enterGreeting.mge.reports = u.mge.reports := rfl
  exact ⟨by simp [State.warmLink, same.ctr], by simp [State.warmLink, same.pol], by simp [State.warmLink],
    by simp [State.warmLink, same.mode], (after _).trans reports⟩

theorem State.clearAllHeld_of_nil (empty : ∀ c, (s.ctx c).held = []) : s.clearAllHeld = s := by
  have contexts : (s.mge.contexts.map fun x => { x with held := [] }) = s.mge.contexts := by
    refine Vector.ext fun i hi => ?_
    have held : s.mge.contexts[i].held = [] := empty ⟨i, hi⟩
    rw [Vector.getElem_map, ← held]
  rw [State.clearAllHeld, contexts]

/-- R102, R108, R112: with every context IDLE only the link changes. -/
theorem State.warmLink_of_idle (idle : ∀ c, (s.ctx c).isIdle = true ∧ (s.ctx c).held = []) : s.warmLink = { s with sbl :=
    { s.sbl with state := .greeting, badRun := 0, retryTimer := some 100, outbound := [.hello], waiting := [] } } := by
  have nothing : s.linkDown.endAllSilently .warmReset = s.linkDown := State.endAllSilently_of_idle fun c => (idle c).1
  have empty : s.linkDown.clearAllHeld = s.linkDown := State.clearAllHeld_of_nil fun c => (idle c).2
  rw [State.warmLink, nothing, empty]
  rfl

theorem exec_warmResetLink (outstanding : .link ∈ s.port.warmParts) :
    exec .warmResetLink s = .next { s.warmLink with port := s.port.afterPart .link } :=
  congrArg Host.Outcome.next (State.takeWarmPart_of_port outstanding s.warmLink_port)

/-! ## The parts of the other owners -/

theorem exec_warmResetWatch (outstanding : .watch ∈ s.port.warmParts) : exec .warmResetWatch s =
    .next { s with wls := { s.wls with items := [] }, port := s.port.afterPart .watch } :=
  congrArg Host.Outcome.next (State.takeWarmPart_of_port outstanding (f := fun s => s.setItems []) rfl)

theorem exec_warmResetSlots (outstanding : .slots ∈ s.port.warmParts) :
    exec .warmResetSlots s = .next { s.endTests with port := s.port.afterPart .slots } :=
  congrArg Host.Outcome.next (State.takeWarmPart_of_port outstanding s.endTests_port)

theorem State.cancelStage_port (s : State) : s.cancelStage.port = s.port := by
  unfold State.cancelStage; split <;> rfl

theorem State.cancelStage_of_none (none : s.rst.stage.cancellable = none) : s.cancelStage = s := by
  rw [State.cancelStage, none]

/-- R161, R170: the staged entry stays LIVE, no longer STAGED. -/
theorem State.cancelStage_of_live {i : EntryIx} {o : Origin} {n : SlotNo} {m : Nat} {st : Option RecIx}
    (staged : s.rst.stage.cancellable = some i) (live : s.entry i = .live o n m st) :
    s.cancelStage = (s.setStage .empty).setEntry i (.live o n m none) := by
  rw [State.cancelStage, staged]
  simp only [State.dropStage, live, Entry.unstaged]

theorem exec_warmResetStore (outstanding : .store ∈ s.port.warmParts) :
    exec .warmResetStore s = .next { s.cancelStage with port := s.port.afterPart .store } :=
  congrArg Host.Outcome.next (State.takeWarmPart_of_port outstanding s.cancelStage_port)

/-- R192: with no kind set ALERT is deasserted. -/
theorem State.clearConditions_all (s : State) : s.clearConditions (BitVec.allOnes 16) =
    { s with port := { s.port with conditions := 0, alert := false } } := by
  rw [State.clearConditions_eq]
  simp

theorem exec_warmResetConditions (outstanding : .conditions ∈ s.port.warmParts) : exec .warmResetConditions s =
    .next { s with port := Port.afterPart { s.port with conditions := 0, alert := false } .conditions } := by
  refine congrArg Host.Outcome.next ((State.takeWarmPart_of_mem outstanding _).trans ?_)
  rw [State.clearConditions_all]

/-! ## The statement -/

/-- Settles O60: the request, then the parts one by one, outstanding and not. -/
theorem warmResetReachesEveryOwner : Obligations.WarmResetReachesEveryOwner := by
  refine fun s => ⟨fun h hh loaded => exec_warmReset hh loaded, fun migration => ?_, fun link => ⟨?_, fun idle => ?_⟩,
    fun watch => exec_warmResetWatch watch, fun slots => ?_, fun store => ⟨fun none => ?_, fun i o n m st staged live => ?_⟩,
    fun conditions => exec_warmResetConditions conditions, fun none => ?_⟩
  · have ended := s.warmMigration_endedSilently
    have same := s.warmMigration_sameElsewhere
    have reports := s.warmMigration_reports
    have kept := State.warmMigration_outbound_of_link (s := s)
    have purged := State.warmMigration_outbound_of_linkTaken (s := s)
    refine ⟨_, exec_warmResetMigration migration, ?_⟩
    generalize s.warmMigration = t at ended same reports kept purged ⊢
    obtain ⟨state, -⟩ := same.linkState
    exact ⟨ended.withPort _, rfl, same.ctr, same.pol, same.rst, same.mode, reports, state, kept, purged⟩
  · have ended := s.warmLink_endedSilently
    have held := s.warmLink_held
    have sbl := s.warmLink_sbl
    have elsewhere := s.warmLink_elsewhere
    refine ⟨_, exec_warmResetLink link, ?_⟩
    generalize s.warmLink = t at ended held sbl elsewhere ⊢
    exact ⟨ended.withPort _, held, sbl, rfl, elsewhere⟩
  · rw [exec_warmResetLink link, State.warmLink_of_idle idle]
    rfl
  · refine ⟨_, exec_warmResetSlots slots, rfl, fun r b k => (State.endTests_slot r b k).trans ?_⟩
    unfold SlotRecord.warm
    cases (s.slot r b k).state <;> rfl
  · rw [exec_warmResetStore store, State.cancelStage_of_none none]
    rfl
  · rw [exec_warmResetStore store, State.cancelStage_of_live staged live]
    rfl
  · exact ⟨congrArg _ (State.takeWarmPart_of_none none _), congrArg _ (State.takeWarmPart_of_none none _),
      congrArg _ (State.takeWarmPart_of_none none _), congrArg _ (State.takeWarmPart_of_none none _),
      congrArg _ (State.takeWarmPart_of_none none _), congrArg _ (State.takeWarmPart_of_none none _)⟩

end Sys2Proof.Machine
end

section
/-! Operations cut short (R196): the order in which programming goes, and the power events (R172) that cut it short. -/

namespace Sys2Proof.Machine

variable {s : State} {k : RecIx}

/-! ## The order of programming -/

/-- R196: what `img` may have left in blank record cells when its programming stops: the mark goes first and the check byte last. -/
structure RecordCells.Reached (img c : RecordCells) : Prop where
  mark : ∃ m, c.writeMark = img.writeMark &&& m
  unrevoked : c.revokeMark = 0
  markFirst : c.writeMark ≠ img.writeMark → c.rankBank = 0 ∧ c.row = 0 ∧ c.slot = 0 ∧ c.check = 0
  fields : ∃ m1 m2 m3, c.rankBank = img.rankBank &&& m1 ∧ c.row = img.row &&& m2 ∧ c.slot = img.slot &&& m3
  check : ∃ m, c.check = img.check &&& m
  checkLast : c.check ≠ 0 →
    c.writeMark = img.writeMark ∧ c.rankBank = img.rankBank ∧ c.row = img.row ∧ c.slot = img.slot

/-- R196: the same for blank geometry cells. -/
structure GeometryCells.Reached (img c : GeometryCells) : Prop where
  mark : ∃ m, c.writeMark = img.writeMark &&& m
  markFirst : c.writeMark ≠ img.writeMark → c.ranks = 0 ∧ c.w = 0 ∧ c.check = 0
  fields : ∃ m1 m2, c.ranks = img.ranks &&& m1 ∧ c.w = img.w &&& m2
  check : ∃ m, c.check = img.check &&& m
  checkLast : c.check ≠ 0 → c.writeMark = img.writeMark ∧ c.ranks = img.ranks ∧ c.w = img.w

/-- R196: a burn stops in byte 0, in bytes 1 to 5 or in byte 6; cells that it has not come to are the empty selection. -/
theorem cutBurn_reached (img m : RecordCells) : img.Reached (cutBurn img m) := by
  have unprogrammed {w : Nat} (b : BitVec w) : 0#w = b &&& 0#w := BitVec.and_zero.symm
  have whole {w : Nat} (b : BitVec w) : b = b &&& b := BitVec.and_self.symm
  unfold cutBurn
  dsimp only
  split
  · exact ⟨⟨_, rfl⟩, rfl, fun _ => ⟨rfl, rfl, rfl, rfl⟩, ⟨_, _, _, unprogrammed _, unprogrammed _, unprogrammed _⟩,
      ⟨_, unprogrammed _⟩, fun begun => absurd rfl begun⟩
  · next marked =>
    split
    · exact ⟨⟨_, rfl⟩, rfl, fun short => absurd short marked, ⟨_, _, _, rfl, rfl, rfl⟩, ⟨_, unprogrammed _⟩,
        fun begun => absurd rfl begun⟩
    · exact ⟨⟨_, whole _⟩, rfl, fun short => absurd rfl short, ⟨_, _, _, whole _, whole _, whole _⟩, ⟨_, rfl⟩,
        fun _ => ⟨rfl, rfl, rfl, rfl⟩⟩

/-- R196: a geometry burn stops in byte 0, in bytes 1 and 2 or in byte 3. -/
theorem cutGeometry_reached (img m : GeometryCells) : img.Reached (cutGeometry img m) := by
  have unprogrammed (b : Byte) : 0 = b &&& 0 := BitVec.and_zero.symm
  have whole (b : Byte) : b = b &&& b := BitVec.and_self.symm
  unfold cutGeometry
  dsimp only
  split
  · exact ⟨⟨_, rfl⟩, fun _ => ⟨rfl, rfl, rfl⟩, ⟨_, _, unprogrammed _, unprogrammed _⟩, ⟨_, unprogrammed _⟩,
      fun begun => absurd rfl begun⟩
  · next marked =>
    split
    · exact ⟨⟨_, rfl⟩, fun short => absurd short marked, ⟨_, _, rfl, rfl⟩, ⟨_, unprogrammed _⟩, fun begun => absurd rfl begun⟩
    · exact ⟨⟨_, whole _⟩, fun short => absurd rfl short, ⟨_, _, whole _, whole _⟩, ⟨_, rfl⟩, fun _ => ⟨rfl, rfl, rfl⟩⟩

/-! ## The cells of the store -/

theorem State.setCells_cells_self (s : State) (k : RecIx) (c : RecordCells) : (s.setCells k c).rst.cells[k] = c :=
  Vector.getElem_set_self ..

theorem State.setCells_cells_of_ne (s : State) {k k' : RecIx} (other : k' ≠ k) (c : RecordCells) :
    (s.setCells k c).rst.cells[k'] = s.rst.cells[k'] :=
  Vector.getElem_set_ne k.isLt k'.isLt fun same => other (Fin.ext same.symm)

theorem State.cutShort_of_burn {i : EntryIx} {o : Origin} {n : SlotNo} (burn : s.rst.operation = some (.burn k i o n)) :
    ∃ m, s.cutShort = s.drawFree.setCells k (cutBurn (recordImage o n) m) :=
  ⟨_, by rw [State.cutShort, burn]⟩

theorem State.cutShort_of_revoke (revoke : s.rst.operation = some (.revoke k)) :
    ∃ m, s.cutShort = s.drawFree.setCells k (cutRevoke s.rst.cells[k] m) :=
  ⟨_, by rw [State.cutShort, revoke]⟩

theorem State.cutShort_of_geometry {g : Geometry} (geometry : s.rst.operation = some (.geometry g)) :
    ∃ m, s.cutShort = s.drawFree.setGeometryCells (cutGeometry (geometryImage g) m) :=
  ⟨_, by rw [State.cutShort, geometry]⟩

/-- R172, assumption 10: both power events leave the cells that the cut has left. -/
theorem exec_cutsShort {cmd : Instr} (cut : cmd = .powerOnResetAssert ∨ (cmd = .powerOn ∧ s.powerHeld = false)) :
    ∃ t, exec cmd s = .next t ∧ t.rst.cells = s.cutShort.rst.cells ∧ t.rst.geometryCells = s.cutShort.rst.geometryCells := by
  obtain rfl | ⟨rfl, released⟩ := cut
  · exact ⟨_, rfl, rfl, rfl⟩
  · have off : s.poweredDown = s.cutShort := if_neg (by simp [released])
    exact ⟨{ s.poweredDown.powerOnValues false with target := s.adrPins }, rfl, by rw [← off]; rfl, by rw [← off]; rfl⟩

/-- Settles O20: by the operation in flight, whatever cells the free value of R196 selects. -/
theorem cutShortKeepsTheOrder : Obligations.CutShortKeepsTheOrder := by
  intro s cmd cut
  obtain ⟨t, done, cells, area⟩ := exec_cutsShort cut
  refine ⟨fun k i o n burn => ⟨t, done, ?_⟩, fun k revoke => ⟨t, done, ?_⟩, fun g geometry => ⟨t, done, ?_⟩⟩ <;>
    rw [cells, area]
  · obtain ⟨m, programmed⟩ := State.cutShort_of_burn burn
    rw [programmed, State.setCells_cells_self]
    obtain ⟨mark, unrevoked, markFirst, fields, check, checkLast⟩ := cutBurn_reached (recordImage o n) m
    exact ⟨fun k' other => State.setCells_cells_of_ne _ other _, rfl, mark, unrevoked, markFirst, fields, check, checkLast⟩
  · obtain ⟨m, programmed⟩ := State.cutShort_of_revoke revoke
    rw [programmed, State.setCells_cells_self]
    exact ⟨fun k' other => State.setCells_cells_of_ne _ other _, rfl, m.revokeMark, rfl⟩
  · obtain ⟨m, programmed⟩ := State.cutShort_of_geometry geometry
    rw [programmed]
    obtain ⟨mark, markFirst, fields, check, checkLast⟩ := cutGeometry_reached (geometryImage g) m
    exact ⟨rfl, mark, markFirst, fields, check, checkLast⟩

end Sys2Proof.Machine
end

section
/-!
The queue of commands waiting (assumption 18). A step takes the command at its front, and no command touches the rest: a power event
carries the queue over to the power-on values, and the end of LOADING, CONFIGURE and the completions of the burn engine leave it, as
does every other command by `Kept`.
-/

namespace Sys2Proof.Machine

variable {s t : State}

/-! ## The front of the queue -/

theorem step_of_waiting {c : Instr} {rest : List Instr} (waiting : s.pending = c :: rest) :
    step s = exec c { s with pending := rest } := by rw [step, waiting]

/-- Settles O1: the queue `c :: rest` has `c` waiting, and the queue's rest takes its place. -/
theorem stepRunsFront : Obligations.StepRunsFront := fun c rest s =>
  step_of_waiting (s := { s with pending := c :: rest }) rfl

section
variable (s)

/-! ## The burn engine (R164 to R166, R196) -/

@[simp] theorem State.burnSlot_pending (i : EntryIx) (o : Origin) (n : SlotNo) : (s.burnSlot i o n).pending = s.pending := by
  unfold State.burnSlot; split <;> rfl

@[simp] theorem State.engineDone_pending (kind : OperationKind) (done : Bool) : (s.engineDone kind done).pending = s.pending := rfl

theorem State.burnCompletes_pending (v : Bool) : (s.burnCompletes v).pending = s.pending := by
  unfold State.burnCompletes State.finishBurn; split
  · split <;> simp
  · rfl

theorem State.revokeCompletes_pending (v : Bool) : (s.revokeCompletes v).pending = s.pending := by
  unfold State.revokeCompletes State.finishRevoke; split
  · split <;> simp
  · rfl

theorem State.geometryCompletes_pending (v : Bool) : (s.geometryCompletes v).pending = s.pending := by
  unfold State.geometryCompletes State.finishGeometry; split
  · split <;> simp
  · rfl

/-- R196: what programming had reached is in the cells alone. -/
theorem State.cutShort_pending : s.cutShort.pending = s.pending := by
  unfold State.cutShort; split <;> rfl

/-! ## The power events (R172) -/

theorem State.powerOnValues_pending (held : Bool) : (s.powerOnValues held).pending = s.pending := rfl

theorem State.poweredDown_pending : s.poweredDown.pending = s.pending := by
  unfold State.poweredDown; split
  · rfl
  · exact s.cutShort_pending

/-! ## Entry to ACTIVE (R174, R177) -/

theorem State.enterActive_pending (g : Geometry) : (s.enterActive g).pending = s.pending := by
  rw [State.enterActive_eq]
  generalize (s.load g).state = u
  rfl

theorem State.afterRead_pending : s.afterRead.pending = s.pending := by
  unfold State.afterRead; split
  · exact s.enterActive_pending _
  · rfl
  · rfl

theorem State.decideConfigure_pending (r w : Byte) : (s.decideConfigure r w).pending = s.pending := by
  unfold State.decideConfigure; split
  · exact (Kept.refuse ..).pending
  · exact (Kept.refuse ..).pending
  · unfold State.whenSome; split
    · exact (Kept.answer ..).pending.trans (s.enterActive_pending _)
    · exact (Kept.refuse ..).pending

theorem State.takeConfigure_pending (r w : Byte) :
    (s.takeRequest (.configure r w) (State.decideConfigure r w)).pending = s.pending :=
  State.takeRequest_induction (P := fun u => u.pending = s.pending) rfl (Kept.acceptRequest ..).pending
    fun u hu => (u.decideConfigure_pending r w).trans hu

end

/-! ## Every command -/

theorem execLoadComplete_pending (h : execLoadComplete s = .next t) : t.pending = s.pending := by
  refine Host.Outcome.next.inj h ▸ ?_
  split
  · rfl
  · exact s.afterRead_pending

/-- Settles O3: by the seven commands of `changesModeOrCells`, and every other one by `Kept`. -/
theorem queueIsTheSenders : Obligations.QueueIsTheSenders := by
  intro c s t h
  by_cases other : changesModeOrCells c = false
  · exact (exec_kept other h).pending
  cases c with
  | powerOn => exact Host.Outcome.next.inj h ▸ (s.poweredDown.powerOnValues_pending false).trans s.poweredDown_pending
  | powerOnResetAssert => exact Host.Outcome.next.inj h ▸ (s.cutShort.powerOnValues_pending true).trans s.cutShort_pending
  | loadComplete => exact execLoadComplete_pending h
  | burnComplete v => exact Host.Outcome.next.inj h ▸ s.burnCompletes_pending v
  | revokeComplete v => exact Host.Outcome.next.inj h ▸ s.revokeCompletes_pending v
  | burnGeometryComplete v => exact Host.Outcome.next.inj h ▸ s.geometryCompletes_pending v
  | configure r w => exact Host.Outcome.next.inj h ▸ s.takeConfigure_pending r w
  | _ => exact absurd rfl other

end Sys2Proof.Machine
end
